-- ==== Sys2Proof/Word.lean ====
section
/-! DEFINITION. The words the model is written in: bytes, positions, instants, and the plainest arithmetic over them. -/

namespace Sys2Proof

/-- A byte of the EEPROM image, of a staging area or of the register window (Section 1.5, "Bit order"). -/
abbrev Byte := BitVec 8

/-- A shelf position, 0 to 15 (Section 1.5, "Positions"). -/
abbrev Pos := Fin 16

/-- An instant or a duration, counted in units of 0.1 µs (assumption 1). -/
abbrev Ticks := Nat

/-- `n` microseconds. -/
def us (n : Nat) : Ticks := 10 * n

/-- `n` milliseconds. -/
def ms (n : Nat) : Ticks := 10000 * n

/-- `n` seconds. -/
def sec (n : Nat) : Ticks := 10000000 * n

/-- The sixteen positions in ascending order. -/
def allPos : List Pos := [0, 1, 2, 3, 4, 5, 6, 7, 8, 9, 10, 11, 12, 13, 14, 15]

/-- A table with one row for each position, row `n` being `f n`. -/
def tabulate {α : Type} (f : Pos → α) : Vector α 16 :=
  #v[f 0, f 1, f 2, f 3, f 4, f 5, f 6, f 7, f 8, f 9, f 10, f 11, f 12, f 13, f 14, f 15]

end Sys2Proof
end

