-- ==== Sys2Proof/Syntax.lean ====
section
/-! DEFINITION. The commands and events the block takes: one constructor for each row of spec/opcode_table.json, in the table's order, with the
operands the row's rule gives it. The table gives its rows no bits. -/

namespace Sys2Proof

/-- How one address phase of the EEPROM read went on the I2C lines (R157). -/
structure AddressPhase where
  /-- After how many SCL pulses SDA reads high in the bus check made before the attempt; 0 when it is high at once. -/
  sdaHighAfter : Nat
  /-- The device acknowledged its address with the write direction. -/
  ackWrite : Bool
  /-- The device acknowledged the high offset byte. -/
  ackOffsetHigh : Bool
  /-- The device acknowledged the low offset byte. -/
  ackOffsetLow : Bool
  /-- The device acknowledged its address with the read direction. -/
  ackRead : Bool
deriving DecidableEq, Repr

/-- The levels of the pins that count at the release of the full reset (R1, R171). -/
structure ReleasePins where
  /-- The own position that the straps POS3–POS0 code. -/
  straps : Pos
  /-- SCS is low, so that a frame whose SCS fell before the release is in progress. -/
  scsLow : Bool
deriving DecidableEq, Repr

/-- The pointer registers of the three windows (R172, R186). -/
inductive PointerReg where
  | snapPtr
  | cfgPtr
  | stepPtrHigh
  | stepPtrLow
deriving DecidableEq, Repr

/-- The two windows whose data register takes writes in UNCONFIGURED (R164, R172). -/
inductive StagingWindow where
  | config
  | step
deriving DecidableEq, Repr

/-- The three groups read with a group capture (R170, R173). -/
inductive Group where
  | pstat
  | ostat
  | cmdtab
deriving DecidableEq, Repr

/-- The commands and events, one constructor for each row of the table. -/
inductive Instr where
  /-- FULL_RESET: RST is asserted or power applied (R42). -/
  | fullReset
  /-- FULL_RESET_RELEASE: RST is released with the straps POS3–POS0 and SCS at the levels of `pos` (R1, R156, R171). -/
  | fullResetRelease (pos : ReleasePins)
  /-- LOAD_READ_START: 1 ms after the release the EEPROM read begins (R157). -/
  | loadReadStart
  /-- ADDRESS_PHASE_ATTEMPT: the address phase in progress ends as `p` says (R157). -/
  | addressPhaseAttempt (p : AddressPhase)
  /-- ADDRESS_ATTEMPT_RETRY: 5 ms after a failed attempt the next one begins (R157). -/
  | addressAttemptRetry
  /-- CLOCK_STRETCH_TIMEOUT: SCL has been held low by another party for 10 ms (R157). -/
  | clockStretchTimeout
  /-- IMAGE_BYTE_RECEIVED: the device has sent image byte `b` (R158). -/
  | imageByteReceived (b : Byte)
  /-- EPOCH_TIMER_EXPIRY: the epoch timer runs out (R23). -/
  | epochTimerExpiry
  /-- UNHEARD_MARKER: 20 µs of own driving without a recognised marker (R24). -/
  | unheardMarker
  /-- MARKER_START: a low stretch has lasted 20 µs (R19). -/
  | markerStart
  /-- MARKER_END: the rising edge that ends a recognised stretch (R19, R21). -/
  | markerEnd
  /-- LONG_MARKER: a recognised stretch has lasted 80 µs (R33). -/
  | longMarker
  /-- LINE_RELEASED: the line goes high after being held low (R20). -/
  | lineReleased
  /-- RECORD_DELIVERY: the end of cell 167 (R21, R36). -/
  | recordDelivery
  /-- COMMAND_EXPIRY: the head command whose count stands at 64 expires (R125). -/
  | commandExpiry
  /-- DWELL_EXPIRY: the dwell timer runs out (R140). -/
  | dwellExpiry
  /-- FEEDBACK_CHANGE: the feedback inputs FB7–FB0 change to `levels` (R141). -/
  | feedbackChange (levels : BitVec 8)
  /-- AWAIT_TIMEOUT: the timeout timer of a waiting AWAIT runs out (R142, R143). -/
  | awaitTimeout
  /-- LINE_INPUT_CHANGE: the inputs of a line change to `sf` and `sd` (R106, R107). -/
  | lineInputChange (line : Fin 4) (sf sd : Bool)
  /-- HOLDOFF_EXPIRY: the holdoff timer of a line's filter runs out (R108). -/
  | holdoffExpiry (line : Fin 4)
  /-- TXACT_TRANSITION: TXACT rises or falls (R113). -/
  | txactTransition
  /-- SILENCE_TIMER_EXPIRY: the silence timer runs out (R113). -/
  | silenceTimerExpiry
  /-- WTR_TIMER_EXPIRY: the wait-to-restore timer runs out (R130). -/
  | wtrTimerExpiry
  /-- DISCARD_TIMER_EXPIRY: the snapshot discard timer runs out (R181). -/
  | discardTimerExpiry
  /-- COMMAND_SUBMISSION: `value` is written to CMDSUB (R121, R174). -/
  | commandSubmission (value : Byte)
  /-- COMMAND_ACKNOWLEDGE: `value` is written to CMDACK (R128, R174). -/
  | commandAcknowledge (value : Byte)
  /-- START: code 0x01 is written to CTRL (R43, R165). -/
  | start
  /-- REJOIN: code 0x02 is written to CTRL (R57). -/
  | rejoin
  /-- SOFT_RESET: code 0x03 is written to CTRL (R58). -/
  | softReset
  /-- HOLD: code 0x04 is written to CTRL (R149). -/
  | hold
  /-- RESUME: code 0x05 is written to CTRL (R150). -/
  | resume
  /-- STOP: code 0x06 is written to CTRL (R151). -/
  | stop
  /-- CLEAR_FAULT: code 0x07 is written to CTRL (R152). -/
  | clearFault
  /-- SNAP: code 0x08 is written to CTRL (R179). -/
  | snap
  /-- SNAP_RELEASE: code 0x09 is written to CTRL (R181). -/
  | snapRelease
  /-- CTRL_UNKNOWN_CODE: a code that names no control command is written to CTRL (R175). -/
  | ctrlUnknownCode (code : Byte)
  /-- ISTAT_WRITE: `value` is written to ISTAT (R177). -/
  | istatWrite (value : Byte)
  /-- IEN_WRITE: `value` is written to IEN (R178). -/
  | ienWrite (value : Byte)
  /-- POINTER_WRITE: `value` is written to a pointer register (R172). -/
  | pointerWrite (reg : PointerReg) (value : Byte)
  /-- STAGING_WRITE: `value` is written to CFGDATA or STEPDATA (R164, R172). -/
  | stagingWrite (window : StagingWindow) (value : Byte)
  /-- WINDOW_DATA_READ: a data byte of CFGDATA or STEPDATA is read (R172). -/
  | windowDataRead (window : StagingWindow)
  /-- SNAPDATA_READ: a data byte of SNAPDATA is read (R182). -/
  | snapdataRead
  /-- GROUP_CAPTURE: a read frame takes the first byte of a status group (R170). -/
  | groupCapture (group : Group)
  /-- REGISTER_WRITE_IGNORED: a byte is written to an address that names no writable register (R171). -/
  | registerWriteIgnored (addr : BitVec 7)
  /-- LOW_STRETCH_BEGIN: a falling edge of the VB line (R19). -/
  | lowStretchBegin
  /-- SHORT_STRETCH_END: a low stretch ends without having been recognised as a marker (R19). -/
  | shortStretchEnd
  /-- MARKER_DRIVE_RELEASE: the station's own 40 µs marker drive ends (R19, R23). -/
  | markerDriveRelease
  /-- CELL_BEGIN: the next cell of the epoch begins (R18, R21). -/
  | cellBegin
  /-- CELL_SAMPLE: the cell in progress is sampled (R18). -/
  | cellSample
  /-- DOMINANT_CELL_RELEASE: 3.5 µs into a cell written dominant (R18). -/
  | dominantCellRelease
  /-- COMMAND_BYTE_RECEIVED: the first eight bits of an SPI frame (R169). -/
  | commandByteReceived (byte : Byte)
  /-- TRANSACTION_END: SCS rises (R169). -/
  | transactionEnd
deriving DecidableEq, Repr

/-- The register a write of this address would reach takes host writes (R186): CTRL, CMDSUB, CMDACK, ISTAT, IEN, SNAPPTR, CFGPTR, CFGDATA,
STEPPTR high and low, STEPDATA. -/
def writableAddress (a : BitVec 7) : Bool :=
  a ∈ [0x01#7, 0x02#7, 0x03#7, 0x04#7, 0x05#7, 0x07#7, 0x09#7, 0x0A#7, 0x0B#7, 0x0C#7, 0x0D#7]

/-- The code names one of the nine control commands (R175, R186). -/
def knownControlCode (c : Byte) : Bool :=
  1 ≤ c.toNat && c.toNat ≤ 9

end Sys2Proof
end

