-- ==== Sys2Proof/Decode.lean ====
section
/-! DEFINITION. Decoding of table words. No row of spec/opcode_table.json has bits: the commands reach the block as events on its pins and as
register accesses, not as words of an instruction memory. -/

namespace Sys2Proof

/-- The command an opcode-table word spells: none, since the table gives no row any bits. -/
def decodeTableWord (_nbits _w : Nat) : Option Instr := none

end Sys2Proof
end

