-- ==== Sys2Proof/Config.lean ====
section
/-! DEFINITION. What the manual leaves to the part. Each is an opaque constant, so no proof can know its value. An order between two parts of one event is
chosen afresh each time: a step applies it to the counter `State.choices` and advances that counter (assumptions 4 and 5). Where two rules of the manual
differ, the part follows one of them throughout (assumption 27). -/

namespace Sys2Proof.Config

/-- FREE VALUE (assumption 4). R117 leaves open whether the clearing of the interrupt status by a soft reset is taken before the change of the own condition
that the engine's own soft reset causes (true: its COND stands) or after it (false: the COND is cleared with the rest). -/
opaque softResetClearsStatusFirst : Nat → Bool

/-- FREE VALUE (assumption 5). R46 leaves open whether an early marker latches the outgoing record before (true) or after (false) the
judgement of the record it abandons; "both orders are defined". -/
opaque earlyMarkerLatchesFirst : Nat → Bool

/-- FREE VALUE (assumption 27). While AE owes START, R166 has reconciliation ask for nothing until START is done (true), and R148 and R105 have the
comparison made and its directives offered, to be queued behind START (false). -/
opaque comparisonWaitsForStart : Bool

end Sys2Proof.Config
end

