-- ==== Sys2Proof/Machine/State.lean ====
section
/-! DEFINITION. Every piece of state the manual gives the PG-216, block by block (Section 1.2), as plain data, and the machine right after a
full reset. -/

namespace Sys2Proof.Machine

/-! ## Names of the manual -/

/-- The participation state (R41). -/
inductive Participation where
  | reset | loading | unconfigured | listening | learning | inStep | isolated | conflict
deriving DecidableEq, Repr

/-- The participation cause (R59). -/
inductive Cause where
  | none | missed | split | sync | soft | config | drive | position
deriving DecidableEq, Repr

/-- The state of the VBI's receiver (R20). -/
inductive Receiver where
  | off | seeking | inMarker | inCells | resting | blocked
deriving DecidableEq, Repr

/-- The condition of a line, of a card or of a table entry, in order of severity (R61, R106, R114). -/
inductive Condition where
  | clear | degraded | failed
deriving DecidableEq, Repr

/-- The role of a position (R1). -/
inductive Role where
  | empty | primary | backup
deriving DecidableEq, Repr

/-- The presence of a table entry (R64). -/
inductive Presence where
  | absent | joining | present | lost
deriving DecidableEq, Repr

/-- A table entry's place in the handshake of a cover (R61). -/
inductive Assignment where
  | none | yielding | taking | active | dropping
deriving DecidableEq, Repr

/-- The class of a claim or cover, 0 to 6 (R5). -/
inductive Cls where
  | none | force | fail | degrade | manual | waitRestore | hold
deriving DecidableEq, Repr

/-- A request value that can be granted, 0 to 5 (R12). -/
inductive Request where
  | lockout | force | manual | clear | unlock | restore
deriving DecidableEq, Repr

/-- The outcome of a granted request or of a host command (R12, R101, R119). -/
inductive CmdOutcome where
  | accepted | parked | refusedRole | refusedLocked | refusedNoBackup | noChange | stale | expired | abandoned
deriving DecidableEq, Repr

/-- A state the outputs stand in, as AE records it and as GTU asks for it (R60, R135). -/
inductive ActState where
  | released | carrying | yielded | taken (p : Pos) | idle | unknown
deriving DecidableEq, Repr

/-- A directive to AE (R134). -/
inductive Directive where
  | take (p : Pos) | drop (p : Pos) | yield | reclaim | releaseAll | start
deriving DecidableEq, Repr

/-- The engine state (R146). -/
inductive Engine where
  | idle | running | holding | held | stopped | faulted
deriving DecidableEq, Repr

/-- The cause in the fault record (R146). -/
inductive FaultCause where
  | none | timeout | loop | overflow
deriving DecidableEq, Repr

/-- The load state (R156). -/
inductive LoadState where
  | held | reading | failed | frozen
deriving DecidableEq, Repr

/-- The load cause (R156). -/
inductive LoadCause where
  | none | noDevice | noImage | crc | invalid
deriving DecidableEq, Repr

/-- The load source (R156). -/
inductive LoadSource where
  | none | eepromShort | eepromFull | hostShort | hostFull
deriving DecidableEq, Repr

/-- The state of the snapshot unit (R179). -/
inductive SnapState where
  | idle | armed | ready
deriving DecidableEq, Repr

/-- The kind of a capture (R179). -/
inductive CaptureKind where
  | record | founding | leave | soft | atOnce
deriving DecidableEq, Repr

/-- The verdict on a true/complement field (R31); `mixed` is the reading that is a framing fault. -/
inductive Verdict where
  | noNarrator | consistent | disagreement | mixed
deriving DecidableEq, Repr

/-! ## The vote bus interface -/

/-- The set of kinds of framing fault found in an epoch (R33). -/
structure FramingFaults where
  earlyMarker : Bool := false
  longMarker : Bool := false
  lineHeld : Bool := false
  unheardMarker : Bool := false
  quiet : Bool := false
  request : Bool := false
  digest : Bool := false
  mirror : Bool := false
deriving DecidableEq, Repr

/-- The outgoing record, latched at each marker start (R27). -/
structure Outgoing where
  participation : Participation
  condition : Condition
  /-- The debt is above 0. -/
  owesWork : Bool
  /-- The engine is STOPPED or FAULTED. -/
  engineOut : Bool
  /-- The 7-bit request word, or none. -/
  request : Option (BitVec 7)
  digest : BitVec 8
  /-- The slice index k and the slice of entry k, in the cell order of R184. -/
  mirror : BitVec 29
deriving DecidableEq, Repr

/-- The station's part in the drop-out of the epoch (R29). A contender that has not lost by the end of the field has won. -/
inductive Contention where
  | none | contending | lost
deriving DecidableEq, Repr

/-- The line driver: released, holding a marker since an instant, or holding a dominant cell since an instant (R18, R23). -/
inductive Driver where
  | released
  /-- A marker drive; `heard` once the receiver has recognised a marker start during it (R24). -/
  | marker (since : Ticks) (heard : Bool)
  | cell (since : Ticks)
deriving DecidableEq, Repr

/-- The epoch in progress: what has been written and read of it so far. -/
structure Epoch where
  /-- The cells sampled, cell 0 first; `true` is a dominant reading. -/
  cells : List Bool
  /-- The cells begun, cell 0 first; `true` where the station wrote the cell dominant. -/
  wrote : List Bool
  contention : Contention
  driveFault : Bool
  faults : FramingFaults
deriving DecidableEq, Repr

/-- VBI (Chapter 2). -/
structure Vbi where
  receiver : Receiver
  /-- The level of the VB line as the receiver reads it; `true` is low. -/
  lineLow : Bool
  /-- The falling edge that began the latest low stretch; of a recognised stretch, the marker edge. -/
  lowSince : Ticks
  /-- The latest marker end, from which the cells are timed. -/
  markerEnd : Ticks
  driver : Driver
  /-- The epoch timer: the instant it is set to expire at, or none while it does not run (R22). -/
  epochTimer : Option Ticks
  outgoing : Outgoing
  epoch : Epoch
deriving DecidableEq, Repr

/-! ## The participation controller -/

/-- The last view of a record (R59). -/
structure LastView where
  /-- Row `n` is `true` when P[n] read dominant. -/
  presence : Vector Bool 16
  digestVerdict : Verdict
  digestValue : Option (BitVec 8)
  mirrorVerdict : Verdict
  faulted : Bool
deriving DecidableEq, Repr

/-- PC (Chapter 3). -/
structure Pc where
  participation : Participation
  cause : Cause
  cleanCount : Nat
  verifyCount : Nat
  noNarratorCount : Nat
  /-- The sync history, newest first; `true` is FAULTED (R49). -/
  syncHistory : List Bool
  lastView : Option LastView
deriving DecidableEq, Repr

/-! ## The group table unit -/

/-- An entry of the group table (R61). -/
structure Entry where
  role : Role
  presence : Presence
  runCount : Nat
  condition : Condition
  locked : Bool
  faulted : Bool
  assignment : Assignment
  partner : Option Pos
  cls : Cls
  waitRank : Nat
deriving DecidableEq, Repr

/-- GTU (Chapters 4 and 5). -/
structure Gtu where
  entries : Vector Entry 16
  /-- The wait list, front first (R68). -/
  waitList : List Pos
  sliceIndex : Fin 16
  /-- The requested state (R60, R105). -/
  requested : ActState
deriving DecidableEq, Repr

/-- The epoch record delivered to PC and GTU (R36). It is handed over and not kept, so it is no part of `State`. -/
structure EpochRecord where
  faults : FramingFaults
  driveFault : Bool
  /-- The readings, cell 0 first; `true` is dominant, and a cell not listed is given as recessive. -/
  cells : List Bool
  /-- The written marks, cell 0 first; `true` where the station wrote the cell dominant. -/
  wrote : List Bool
  grant : Option (Request × Pos)
  ownWin : Bool
  digestVerdict : Verdict
  digestValue : Option (BitVec 8)
  digestTrue : BitVec 8
  mirrorVerdict : Verdict
  mirrorValue : Option (Fin 16 × BitVec 25)
  mirrorTrue : BitVec 29
  /-- The outgoing record in force for the epoch. -/
  own : Outgoing
deriving DecidableEq, Repr

/-- What a learner's comparison with the mirror reports to PC (R74). -/
inductive Comparison where
  | matching | indexOnly | differs
deriving DecidableEq, Repr

/-! ## The condition monitor -/

/-- A line filter (R106). Its raw level is read from the line's input pins. -/
structure LineFilter where
  filtered : Condition
  /-- The pending change: its target level and the instant its holdoff timer is set to expire at. -/
  pending : Option (Condition × Ticks)
deriving DecidableEq, Repr

/-- CM (Chapter 6). -/
structure Cm where
  filters : Vector LineFilter 4
  monitorActive : Bool
  /-- The silence timer (R112). -/
  silenceTimer : Option Ticks
  txSilent : Bool
  own : Condition
deriving DecidableEq, Repr

/-! ## The command unit -/

/-- The host commands, by the request value of their kind (R119). -/
inductive Kind where
  | lockout | force | manual | clear | unlock
deriving DecidableEq, Repr

/-- The state of a command record (R119). -/
inductive CmdState where
  | queued | contending | done
deriving DecidableEq, Repr

/-- A command record (R119). -/
structure CmdRecord where
  tag : Fin 16
  kind : Kind
  state : CmdState
  outcome : Option CmdOutcome
  headCount : Nat
deriving DecidableEq, Repr

/-- The record named at the latest latch (R122). -/
inductive Offered where
  | none | command (tag : Fin 16) | restoreSlot
deriving DecidableEq, Repr

/-- CU (Chapter 7). -/
structure Cu where
  /-- The command table, oldest first. -/
  table : List CmdRecord
  nextTag : Fin 16
  offered : Offered
  /-- The wait-to-restore timer (R129). -/
  wtrTimer : Option Ticks
  /-- The restore slot is full (R130). -/
  restoreFull : Bool
deriving DecidableEq, Repr

/-! ## The actuation engine -/

/-- The kind of a step record (R139). -/
inductive StepKind where
  | drive | release | dwell | await
deriving DecidableEq, Repr

/-- A step record of step memory, as its eight bytes (R139, R185). -/
structure StepRecord where
  head : Byte
  nextIndex : Byte
  fallbackIndex : Byte
  retryTarget : Byte
  op0 : Byte
  op1 : Byte
  op2 : Byte
  op3 : Byte
deriving DecidableEq, Repr

/-- The fault record (R146). -/
structure FaultRecord where
  cause : FaultCause
  directive : Option Directive
  step : Option Nat
deriving DecidableEq, Repr

/-- What the sequence in progress waits for, with the instant its timer is set to expire at (R140, R141). -/
inductive Waiting where
  | none | dwell (due : Ticks) | await (due : Ticks)
deriving DecidableEq, Repr

/-- AE (Chapter 8). -/
structure Ae where
  engine : Engine
  /-- The directive queue, oldest first. -/
  queue : List Directive
  /-- The directive whose sequence is in progress. -/
  running : Option Directive
  debt : Nat
  actuated : ActState
  stepIndex : Option Nat
  stepCount : Nat
  retryCount : Nat
  retryOwner : Option Nat
  fallbackTaken : Bool
  fault : FaultRecord
  /-- The 12 outputs in the bit order of R185: RLY0–RLY7, TXEN, TERM, AUX0, AUX1; a bit is set when its output is asserted. -/
  outputs : BitVec 12
  /-- The levels the pins of the outputs have taken since the full reset, one for each DRIVE and RELEASE record entered, the latest first. A chain of records
  changes the outputs more than once within one event, and its changes reach the pins in record order (R140, assumption 28). -/
  driven : List (BitVec 12)
  waiting : Waiting
deriving DecidableEq, Repr

/-! ## The start-up loader -/

/-- Where the EEPROM read stands (R157, R158). -/
inductive ReadPhase where
  /-- No read is in progress. -/
  | ended
  /-- The 1 ms between the release and the read. -/
  | settling (due : Ticks)
  /-- Address phase attempt `n`, 1 to 3. -/
  | addressing (n : Nat)
  /-- `n` attempts have failed; the next one is due 5 ms after the last of them. -/
  | pausing (n : Nat) (due : Ticks)
  /-- The address phase has succeeded and image bytes are being received. -/
  | receiving
deriving DecidableEq, Repr

/-- The configuration in force (R162): what is frozen, and what is computed at the freeze and held with it. -/
structure Frozen where
  /-- The group configuration block (bytes 0–23) and the local parameters (bytes 24–27), as stored. -/
  area : List Byte
  /-- The 36 directory bytes, as stored. -/
  directory : List Byte
  steps : List StepRecord
  digest : BitVec 8
  primaries : Nat
deriving DecidableEq, Repr

/-- What SL does on SCL and SDA, its I2C lines (R157, R158). -/
inductive I2cAction where
  /-- SCL is pulsed once with SDA released (the bus check). -/
  | pulse
  /-- A START condition, or a repeated one. -/
  | start
  /-- A STOP condition. -/
  | stop
  /-- A byte is sent. -/
  | send (b : Byte)
  /-- A byte received is acknowledged. -/
  | ack
  /-- A byte received is answered with no acknowledge. -/
  | nack
  /-- Both lines are released with no STOP. -/
  | release
deriving DecidableEq, Repr

/-- SL (Chapter 9). -/
structure Sl where
  /-- The own position (R1). -/
  ownPos : Pos
  loadState : LoadState
  loadCause : LoadCause
  loadSource : LoadSource
  byteCount : Nat
  phase : ReadPhase
  /-- What SL has done on its I2C lines at the latest event of a read, in order; nothing after a full reset, which releases both lines (R163). -/
  wire : List I2cAction
  /-- The image bytes of the read in progress, byte 0 first. -/
  image : List Byte
  /-- The format byte of the last read (R167). -/
  formatFound : Option Byte
  /-- The step count of the last read (R167). -/
  stepCountFound : Option Nat
  /-- The CRC computed and the CRC stored of the last read that reached its CRC bytes (R159). -/
  crcs : Option (BitVec 16 × BitVec 16)
  config : Option Frozen
deriving DecidableEq, Repr

/-! ## The management port -/

/-- The interrupt status flags, as their bits of ISTAT and IEN (R177, R186). -/
inductive Irq where
  | part | owncover | cmddone | engine | cond | snap
deriving DecidableEq, Repr

/-- A window byte array as the cells that differ from 0x00, addresses rising. -/
abbrev Memory := List Host.Cell

/-- What CMDSUB reads back (R174). -/
inductive SubResult where
  | none | accepted (tag : Fin 16) | kind | full | duplicate
deriving DecidableEq, Repr

/-- What CMDACK reads back (R174). -/
inductive AckResult where
  | none | acknowledged | notDone | unknown
deriving DecidableEq, Repr

/-- The result part of CTRL's read-back (R175). -/
inductive CtrlResult where
  | none | accepted | refused
deriving DecidableEq, Repr

/-- The frame in progress on the SPI (R169). -/
structure Frame where
  /-- The direction bit of the command byte. -/
  write : Bool
  address : BitVec 7
deriving DecidableEq, Repr

/-- A captured snapshot (R180). -/
structure Snapshot where
  kind : CaptureKind
  notInStep : Bool
  participation : Participation
  sliceIndex : Fin 16
  waitList : List Pos
  entries : Vector Entry 16
deriving DecidableEq, Repr

/-- MP (Chapter 10). -/
structure Mp where
  frame : Option Frame
  /-- SCS is low in a frame that the port does not serve, since it began before the release of the full reset (R171). -/
  deaf : Bool
  /-- The group copy of a group capture (R170). -/
  capture : Option (Group × List Byte)
  /-- The data byte the port has last taken for a read frame; none while SDO is high-impedance. -/
  readout : Option Byte
  /-- The byte last taken is the buffer byte at SNAPPTR, so that SNAPPTR goes on when it has been shifted out (R172, R182). -/
  snapTaken : Bool
  istat : BitVec 6
  ien : BitVec 6
  ctrlCode : BitVec 4
  ctrlResult : CtrlResult
  cmdsub : SubResult
  cmdack : AckResult
  cfgPtr : Nat
  stepPtr : Nat
  /-- The high byte of STEPPTR held aside (R172). -/
  stepPtrHeld : Byte
  snapPtr : Nat
  /-- The configuration staging area (R164). -/
  cfgStaging : Memory
  /-- The step staging area (R164). -/
  stepStaging : Memory
  stepsStaged : Bool
  snapState : SnapState
  snapshot : Option Snapshot
  discardTimer : Option Ticks
deriving DecidableEq, Repr

/-- The input pins (Section 1.4) other than VB, which the VBI holds; `true` is high. -/
structure Pins where
  sf : Vector Bool 4
  sd : Vector Bool 4
  txact : Bool
  fb : BitVec 8
deriving DecidableEq, Repr

/-- The whole station, the clock its timers are read against, and the commands waiting. -/
structure State where
  vbi : Vbi
  pc : Pc
  gtu : Gtu
  cm : Cm
  cu : Cu
  ae : Ae
  sl : Sl
  mp : Mp
  pins : Pins
  /-- The MODEL's own: the instant reached (assumption 1). -/
  now : Ticks
  /-- The MODEL's own: how many free choices have been taken (assumptions 4 and 5). -/
  choices : Nat
  /-- The commands that are waiting, first in, first out. -/
  pending : List Instr
deriving DecidableEq, Repr

/-- Why the block stops with a fault: never. The manual gives the block no event after which it has no next state, so the type is empty. -/
inductive Fault : Type
deriving DecidableEq, Repr

/-- Why the block has no meaning for a command. -/
inductive Refusal where
  /-- Raised by `exec` alone, for a row that has no meaning yet; safe, since the model stops there. No row is left in this state. -/
  | notModelled (mnemonic : String)
deriving DecidableEq, Repr

/-! ## Reset -/

/-- An outgoing record emptied to all recessive (R38). -/
def Outgoing.emptied : Outgoing :=
  { participation := .reset, condition := .clear, owesWork := false, engineOut := false, request := none,
    digest := 0xFF#8, mirror := 0x1FFFFFFF#29 }

/-- An epoch of which nothing has been written or read. -/
def Epoch.fresh (c : Contention) : Epoch :=
  { cells := [], wrote := [], contention := c, driveFault := false, faults := {} }

/-- The entry of a position at its cleared value (R60). -/
def Entry.cleared (r : Role) : Entry :=
  { role := r, presence := if r = .empty then .absent else .lost, runCount := 0, condition := .clear, locked := false,
    faulted := false, assignment := .none, partner := none, cls := .none, waitRank := 0 }

/-- GTU in the cleared condition with the given roles (R60). -/
def Gtu.cleared (roles : Pos → Role) : Gtu :=
  { entries := tabulate fun n => Entry.cleared (roles n), waitList := [], sliceIndex := 0, requested := .released }

/-- The VBI after a full reset, with the line at the level and since the instant given (R38). -/
def Vbi.reset (lineLow : Bool) (lowSince : Ticks) : Vbi :=
  { receiver := .off, lineLow := lineLow, lowSince := lowSince, markerEnd := 0, driver := .released, epochTimer := none,
    outgoing := Outgoing.emptied, epoch := Epoch.fresh .none }

/-- PC after a full reset (R42). -/
def Pc.reset : Pc :=
  { participation := .reset, cause := .none, cleanCount := 0, verifyCount := 0, noNarratorCount := 0, syncHistory := [],
    lastView := none }

/-- CM after a full reset (R116). -/
def Cm.reset : Cm :=
  { filters := #v[⟨.clear, none⟩, ⟨.clear, none⟩, ⟨.clear, none⟩, ⟨.clear, none⟩], monitorActive := false,
    silenceTimer := none, txSilent := false, own := .clear }

/-- CU after a full reset (R132). -/
def Cu.reset : Cu :=
  { table := [], nextTag := 0, offered := .none, wtrTimer := none, restoreFull := false }

/-- AE after a full reset (R153). -/
def Ae.reset : Ae :=
  { engine := .idle, queue := [], running := none, debt := 0, actuated := .released, stepIndex := none, stepCount := 0,
    retryCount := 0, retryOwner := none, fallbackTaken := false, fault := ⟨.none, none, none⟩, outputs := 0#12, driven := [],
    waiting := .none }

/-- SL after a full reset (R156). -/
def Sl.reset : Sl :=
  { ownPos := 0, loadState := .held, loadCause := .none, loadSource := .none, byteCount := 0, phase := .ended, wire := [],
    image := [], formatFound := none, stepCountFound := none, crcs := none, config := none }

/-- MP after a full reset (R164, R171, R172, R174, R175, R177 to R179). -/
def Mp.reset : Mp :=
  { frame := none, deaf := false, capture := none, readout := none, snapTaken := false, istat := 0#6, ien := 0#6, ctrlCode := 0#4, ctrlResult := .none,
    cmdsub := .none, cmdack := .none, cfgPtr := 0, stepPtr := 0, stepPtrHeld := 0#8, snapPtr := 0, cfgStaging := [],
    stepStaging := [], stepsStaged := false, snapState := .idle, snapshot := none, discardTimer := none }

/-- The input pins the model starts from: every input low (assumption 2). -/
def Pins.quiet : Pins :=
  { sf := #v[false, false, false, false], sd := #v[false, false, false, false], txact := false, fb := 0#8 }

/-- Every block in its full-reset condition, with the pins, the line, an SPI frame cut short and the model's own counters as given (R42, R171). -/
def State.afterFullReset (lineLow : Bool) (lowSince : Ticks) (deaf : Bool) (pins : Pins) (now : Ticks) (choices : Nat)
    (pending : List Instr) : State :=
  { vbi := Vbi.reset lineLow lowSince, pc := Pc.reset, gtu := Gtu.cleared fun _ => .empty, cm := Cm.reset, cu := Cu.reset,
    ae := Ae.reset, sl := Sl.reset, mp := { Mp.reset with deaf := deaf }, pins := pins, now := now, choices := choices, pending := pending }

/-- The machine at power-up with RST asserted: every block in its full-reset condition and nothing waiting (R42). -/
def State.reset : State :=
  State.afterFullReset false 0 false Pins.quiet 0 0 []

end Sys2Proof.Machine
end

