-- ==== Sys2Proof/Machine/Ops.lean ====
section
/-! DEFINITION. The operations every block shares: the clock, the durations of the manual, the byte arrays of the staging areas, the table
rows, and the participation states read as sets. -/

namespace Sys2Proof.Machine

/-! ## The clock -/

/-- Time goes on to instant `t`, and never back: an event that is due at `t` happens at `t` or later (assumption 1). -/
def State.advanceTo (t : Ticks) (s : State) : State := { s with now := max s.now t }

/-- One unit of time passes. -/
def State.tick (s : State) : State := { s with now := s.now + 1 }

/-- A cell lasts 5 µs (R18). -/
def cellTime : Ticks := us 5

/-- A cell is sampled 2.5 µs into it (R18). -/
def sampleOffset : Ticks := 25

/-- A dominant cell is released 3.5 µs into it (R18). -/
def dominantTime : Ticks := 35

/-- A low stretch of 20 µs is a marker (R19). -/
def markerRecognition : Ticks := us 20

/-- A marker is driven for 40 µs (R19). -/
def markerDrive : Ticks := us 40

/-- A recognised stretch of 80 µs is a long marker (R19). -/
def longMarkerTime : Ticks := us 80

/-- The epoch period, 1.000 ms (R22). -/
def epochPeriod : Ticks := ms 1

/-- The entry period of LISTENING, 2.000 ms (R22). -/
def entryPeriod : Ticks := ms 2

/-- The settling delay before the EEPROM read, 1 ms (R156). -/
def settlingDelay : Ticks := ms 1

/-- The pause after a failed address phase attempt, 5 ms (R157). -/
def attemptPause : Ticks := ms 5

/-- The unit of holdoffs as stored, 10 ms (R109). -/
def holdoffUnit : Ticks := ms 10

/-- The unit of the silence threshold as stored, 10 µs (R109). -/
def silenceUnit : Ticks := us 10

/-- The unit of DWELL durations and AWAIT timeouts, 100 µs (R139). -/
def stepUnit : Ticks := us 100

/-- The snapshot discard time, 250 ms (R180). -/
def discardTime : Ticks := ms 250

/-! ## Participation states as sets -/

/-- LEARNING or IN_STEP: the station takes part in the group (R41). -/
def Participation.inGroup (p : Participation) : Bool := p = .learning || p = .inStep

/-- LISTENING, LEARNING or IN_STEP: the states in which the epoch timer runs (R22) and records are judged (R45). -/
def Participation.timed (p : Participation) : Bool := p = .listening || p = .learning || p = .inStep

/-- LISTENING to CONFLICT: the states in which the receiver runs (R20, R41). -/
def Participation.receiving (p : Participation) : Bool := p.timed || p = .isolated || p = .conflict

/-- The participation state of the station. -/
def State.participation (s : State) : Participation := s.pc.participation

/-- The port serves transactions in every participation state except RESET, from the first frame that begins after the release (R171). -/
def State.portServed (s : State) : Bool := s.participation ≠ .reset && !s.mp.deaf

/-! ## Table rows -/

/-- Entry `n` of the table. -/
def Gtu.entry (g : Gtu) (n : Pos) : Entry := g.entries[n]

/-- Entry `n` replaced. -/
def Gtu.setEntry (g : Gtu) (n : Pos) (e : Entry) : Gtu := { g with entries := g.entries.set n e }

/-- Every entry rewritten by its position. -/
def Gtu.mapEntries (g : Gtu) (f : Pos → Entry → Entry) : Gtu := { g with entries := tabulate fun n => f n (g.entry n) }

/-- The own entry (R61). -/
def State.ownEntry (s : State) : Entry := s.gtu.entry s.sl.ownPos

/-! ## Byte arrays -/

/-- What a byte reads as that no cell lists: both staging areas are 0x00 throughout after a full reset (R164). -/
def Memory.unlisted : Byte := 0x00#8

/-- The byte at index `a`. -/
def Memory.read : Memory → Nat → Byte
  | [], _ => Memory.unlisted
  | (b, w) :: m, a => if a = b then w else Memory.read m a

/-- The byte at index `a` becomes `v`, in the canonical form: indexes rising, and no cell that holds 0x00. -/
def Memory.write : Memory → Nat → Byte → Memory
  | [], a, v => if v = Memory.unlisted then [] else [(a, v)]
  | (b, w) :: m, a, v =>
    if a < b then
      if v = Memory.unlisted then (b, w) :: m else (a, v) :: (b, w) :: m
    else if a = b then
      if v = Memory.unlisted then m else (a, v) :: m
    else (b, w) :: Memory.write m a v

/-- The canonical form, above the index `lo` when there is one. -/
def Memory.wfAbove : Option Nat → Memory → Bool
  | _, [] => true
  | lo, (a, v) :: m => (match lo with | none => true | some b => decide (b < a)) && v != Memory.unlisted && Memory.wfAbove (some a) m

/-- The canonical form: indexes strictly rising, and no cell that holds 0x00. -/
def Memory.wf (m : Memory) : Bool := Memory.wfAbove none m

/-- The first `n` bytes of a byte array from index `a`. -/
def Memory.bytes (m : Memory) (a n : Nat) : List Byte := (List.range n).map fun i => m.read (a + i)

/-- Byte `i` of a list of bytes, 0x00 beyond its end. -/
def byteAt (l : List Byte) (i : Nat) : Byte := l.getD i 0x00#8

/-- Two bytes as a quantity, high byte first (Section 1.5, "Bit order"). -/
def be16 (hi lo : Byte) : Nat := 256 * hi.toNat + lo.toNat

end Sys2Proof.Machine
end

