-- ==== Sys2Proof/Machine/Flags.lean ====
section
/-! DEFINITION. Flags: the interrupt status and its enables (R177, R178), and the set of framing faults of an epoch (R33). -/

namespace Sys2Proof.Machine

/-- The bit of a flag in ISTAT and IEN (R186). -/
def Irq.index : Irq → Nat
  | .part => 0
  | .owncover => 1
  | .cmddone => 2
  | .engine => 3
  | .cond => 4
  | .snap => 5

/-- The flag alone, as a value of ISTAT. -/
def Irq.mask (i : Irq) : BitVec 6 := 1#6 <<< i.index

/-- A flag is raised, and stays raised until it is cleared (R177). -/
def Mp.raise (i : Irq) (m : Mp) : Mp := { m with istat := m.istat ||| i.mask }

/-- A flag is raised in the station's port (R177). -/
def State.raise (i : Irq) (s : State) : State := { s with mp := s.mp.raise i }

/-- A flag is raised when a condition holds. -/
def State.raiseIf (c : Bool) (i : Irq) (s : State) : State := if c then s.raise i else s

/-- A flag stands in ISTAT. -/
def Mp.raised (m : Mp) (i : Irq) : Bool := m.istat.getLsbD i.index

/-- INT is driven low while any flag is raised whose enable is set (R178). -/
def Mp.intLow (m : Mp) : Bool := m.istat &&& m.ien != 0#6

/-- The record is FAULTED: some kind of framing fault was found (R33, R36). -/
def FramingFaults.any (f : FramingFaults) : Bool :=
  f.earlyMarker || f.longMarker || f.lineHeld || f.unheardMarker || f.quiet || f.request || f.digest || f.mirror

end Sys2Proof.Machine
end

