-- ==== Sys2Proof/Machine/Operands.lean ====
section
/-! DEFINITION. Every layout of Chapter 12 the block reads or writes: the codes of its names, the configuration block and local parameters, the
directory and step records, the mirror slice, the cells of the epoch and the request word. -/

namespace Sys2Proof.Machine

/-! ## Codes (R184, R186) -/

def Participation.code : Participation → Nat
  | .reset => 0
  | .loading => 1
  | .unconfigured => 2
  | .listening => 3
  | .learning => 4
  | .inStep => 5
  | .isolated => 6
  | .conflict => 7

def Cause.code : Cause → Nat
  | .none => 0
  | .missed => 1
  | .split => 2
  | .sync => 3
  | .soft => 4
  | .config => 5
  | .drive => 6
  | .position => 7

def Condition.code : Condition → Nat
  | .clear => 0
  | .degraded => 1
  | .failed => 2

def Condition.ofCode : Nat → Option Condition
  | 0 => some .clear
  | 1 => some .degraded
  | 2 => some .failed
  | _ => none

/-- Role codes are those of R1. -/
def Role.code : Role → Nat
  | .empty => 0
  | .primary => 1
  | .backup => 2

def Presence.code : Presence → Nat
  | .absent => 0
  | .joining => 1
  | .present => 2
  | .lost => 3

def Presence.ofCode : Nat → Presence
  | 0 => .absent
  | 1 => .joining
  | 2 => .present
  | _ => .lost

def Assignment.code : Assignment → Nat
  | .none => 0
  | .yielding => 1
  | .taking => 2
  | .active => 3
  | .dropping => 4

def Assignment.ofCode : Nat → Option Assignment
  | 0 => some .none
  | 1 => some .yielding
  | 2 => some .taking
  | 3 => some .active
  | 4 => some .dropping
  | _ => none

/-- The number of a class; a smaller non-zero number is more urgent (R5). -/
def Cls.code : Cls → Nat
  | .none => 0
  | .force => 1
  | .fail => 2
  | .degrade => 3
  | .manual => 4
  | .waitRestore => 5
  | .hold => 6

def Cls.ofCode : Nat → Option Cls
  | 0 => some .none
  | 1 => some .force
  | 2 => some .fail
  | 3 => some .degrade
  | 4 => some .manual
  | 5 => some .waitRestore
  | 6 => some .hold
  | _ => none

/-- Class FORCE, FAIL or DEGRADE: the classes that may wait on the list (R5, R68). -/
def Cls.mayWait : Cls → Bool
  | .force | .fail | .degrade => true
  | .none | .manual | .waitRestore | .hold => false

def Request.code : Request → Nat
  | .lockout => 0
  | .force => 1
  | .manual => 2
  | .clear => 3
  | .unlock => 4
  | .restore => 5

/-- The request values that can be granted, 0 to 5 (R12, R30). -/
def Request.ofCode : Nat → Option Request
  | 0 => some .lockout
  | 1 => some .force
  | 2 => some .manual
  | 3 => some .clear
  | 4 => some .unlock
  | 5 => some .restore
  | _ => none

def Kind.request : Kind → Request
  | .lockout => .lockout
  | .force => .force
  | .manual => .manual
  | .clear => .clear
  | .unlock => .unlock

/-- The host commands, by the request value of their kind; 5 to 7 name none (R121). -/
def Kind.ofCode : Nat → Option Kind
  | 0 => some .lockout
  | 1 => some .force
  | 2 => some .manual
  | 3 => some .clear
  | 4 => some .unlock
  | _ => none

/-- The outcome codes of a CMDTAB slot, 0 when absent; STALE is never the outcome of a host command (R124, R186). -/
def CmdOutcome.code : Option CmdOutcome → Nat
  | none => 0
  | some .accepted => 1
  | some .parked => 2
  | some .refusedRole => 3
  | some .refusedLocked => 4
  | some .refusedNoBackup => 5
  | some .noChange => 6
  | some .expired => 7
  | some .abandoned => 8
  | some .stale => 0

def CmdState.code : CmdState → Nat
  | .queued => 0
  | .contending => 1
  | .done => 2

def Engine.code : Engine → Nat
  | .idle => 0
  | .running => 1
  | .holding => 2
  | .held => 3
  | .stopped => 4
  | .faulted => 5

/-- The engine is STOPPED or FAULTED, the states that write the fault cell (R138, R146). -/
def Engine.out (e : Engine) : Bool := e = .stopped || e = .faulted

/-- A sequence is in progress: RUNNING or HOLDING (R146). -/
def Engine.moving (e : Engine) : Bool := e = .running || e = .holding

def ActState.code : ActState → Nat
  | .released => 0
  | .carrying => 1
  | .yielded => 2
  | .taken _ => 3
  | .idle => 4
  | .unknown => 5

def FaultCause.code : FaultCause → Nat
  | .none => 0
  | .timeout => 1
  | .loop => 2
  | .overflow => 3

def LoadState.code : LoadState → Nat
  | .held => 0
  | .reading => 1
  | .failed => 2
  | .frozen => 3

def LoadCause.code : LoadCause → Nat
  | .none => 0
  | .noDevice => 1
  | .noImage => 2
  | .crc => 3
  | .invalid => 4

def LoadSource.code : LoadSource → Nat
  | .none => 0
  | .eepromShort => 1
  | .eepromFull => 2
  | .hostShort => 3
  | .hostFull => 4

def SnapState.code : SnapState → Nat
  | .idle => 0
  | .armed => 1
  | .ready => 2

def CaptureKind.code : CaptureKind → Nat
  | .record => 1
  | .founding => 2
  | .leave => 3
  | .soft => 4
  | .atOnce => 5

def Verdict.code : Verdict → Nat
  | .noNarrator => 0
  | .consistent => 1
  | .disagreement => 2
  | .mixed => 3

/-- A directive is its directory entry number (R134, R186). -/
def Directive.entryNumber : Directive → Nat
  | .take p => p.val
  | .drop p => 16 + p.val
  | .yield => 32
  | .reclaim => 33
  | .releaseAll => 34
  | .start => 35

/-- The actuated state a directive sets at its completion (R135). -/
def Directive.target : Directive → ActState
  | .take p => .taken p
  | .drop _ => .idle
  | .yield => .yielded
  | .reclaim => .carrying
  | .releaseAll => .released
  | .start => .released

/-- The inverse of a directive; RELEASE-ALL and START have none (R137). -/
def Directive.inverse : Directive → Option Directive
  | .take p => some (.drop p)
  | .drop p => some (.take p)
  | .yield => some .reclaim
  | .reclaim => some .yield
  | .releaseAll => none
  | .start => none

/-! ## The group configuration block and the local parameters (R15, R185) -/

/-- The role code of position `n` in a block, two bits of bytes 0 to 3. -/
def blockRoleCode (a : List Byte) (n : Pos) : Nat := (byteAt a (n.val / 4)).toNat / 4 ^ (3 - n.val % 4) % 4

/-- The role of position `n`; code 3 is not a role and stands in no block in force (R1, R16). -/
def blockRole (a : List Byte) (n : Pos) : Role :=
  match blockRoleCode a n with
  | 1 => .primary
  | 2 => .backup
  | _ => .empty

/-- The partner of position `n`, when its valid flag is set. -/
def blockPartner (a : List Byte) (n : Pos) : Option Pos :=
  let b := byteAt a (4 + n.val)
  if b.getLsbD 7 then some (Fin.ofNat 16 b.toNat) else none

/-- The scheme is POOLED. -/
def blockPooled (a : List Byte) : Bool := (byteAt a 20).getLsbD 0

/-- The group is revertive. -/
def blockRevertive (a : List Byte) : Bool := (byteAt a 20).getLsbD 1

/-- The wait-to-restore time in seconds. -/
def blockWtr (a : List Byte) : Nat := be16 (byteAt a 21) (byteAt a 22)

/-- The loss threshold. -/
def blockLossThreshold (a : List Byte) : Nat := (byteAt a 23).toNat

/-- Line `n` is enabled in the line enable mask. -/
def localLineEnabled (a : List Byte) (n : Fin 4) : Bool := (byteAt a 24).getLsbD n.val

/-- The set holdoff as stored. -/
def localSetHoldoff (a : List Byte) : Nat := (byteAt a 25).toNat

/-- The clear holdoff as stored. -/
def localClearHoldoff (a : List Byte) : Nat := (byteAt a 26).toNat

/-- The silence threshold as stored. -/
def localSilence (a : List Byte) : Nat := (byteAt a 27).toNat

/-! ## The directory and the step records (R134, R139, R185) -/

/-- The directory byte that means none. -/
def directoryNone : Byte := 0xFF#8

/-- The start index of directory entry `e`, or none. -/
def directoryEntry (d : List Byte) (e : Nat) : Option Nat :=
  let b := d.getD e directoryNone
  if b = directoryNone then none else some b.toNat

/-- The kind of a step record, bits 7–5 of byte 0; 4 to 7 are invalid. -/
def StepRecord.kind (r : StepRecord) : Option StepKind :=
  match r.head.toNat / 32 with
  | 0 => some .drive
  | 1 => some .release
  | 2 => some .dwell
  | 3 => some .await
  | _ => none

/-- The LAST flag. -/
def StepRecord.last (r : StepRecord) : Bool := r.head.getLsbD 4

/-- The HAS_FALLBACK flag. -/
def StepRecord.hasFallback (r : StepRecord) : Bool := r.head.getLsbD 3

/-- The retry count of an AWAIT. -/
def StepRecord.retryCount (r : StepRecord) : Nat := r.head.toNat % 8

/-- Bytes 4–5, the output set of DRIVE and RELEASE as stored and the duration of DWELL. -/
def StepRecord.first16 (r : StepRecord) : Nat := be16 r.op0 r.op1

/-- The output set of DRIVE and RELEASE. -/
def StepRecord.outputSet (r : StepRecord) : BitVec 12 := BitVec.ofNat 12 r.first16

/-- The duration of DWELL in units of 100 µs. -/
def StepRecord.duration (r : StepRecord) : Nat := r.first16

/-- The timeout of AWAIT in units of 100 µs. -/
def StepRecord.timeout (r : StepRecord) : Nat := be16 r.op2 r.op3

/-- Every masked input stands at its required level (R141). -/
def StepRecord.satisfied (r : StepRecord) (fb : BitVec 8) : Bool := (fb ^^^ r.op1) &&& r.op0 = 0#8

/-- The step record at byte offset `o` of an image part or staging area. -/
def stepRecordAt (b : Nat → Byte) (o : Nat) : StepRecord :=
  { head := b o, nextIndex := b (o + 1), fallbackIndex := b (o + 2), retryTarget := b (o + 3), op0 := b (o + 4),
    op1 := b (o + 5), op2 := b (o + 6), op3 := b (o + 7) }

/-- The bytes of a step record, byte 0 first. -/
def StepRecord.bytes (r : StepRecord) : List Byte :=
  [r.head, r.nextIndex, r.fallbackIndex, r.retryTarget, r.op0, r.op1, r.op2, r.op3]

/-! ## The mirror slice (R73, R184) -/

/-- The 25-bit slice of an entry. -/
def Entry.slice (e : Entry) : BitVec 25 :=
  BitVec.ofNat 2 e.presence.code ++ BitVec.ofNat 4 e.runCount ++ BitVec.ofNat 2 e.condition.code ++ BitVec.ofBool e.locked ++
    BitVec.ofBool e.faulted ++ BitVec.ofNat 3 e.assignment.code ++ BitVec.ofBool e.partner.isSome ++
    BitVec.ofNat 4 (match e.partner with | some p => p.val | none => 0) ++ BitVec.ofNat 3 e.cls.code ++
    BitVec.ofNat 4 e.waitRank

/-- The entry of role `r` a slice carries, when every field holds a defined code and an absent partner is sent as 0 (R75, R184). -/
def Entry.ofSlice (r : Role) (w : BitVec 25) : Option Entry :=
  let field (lo len : Nat) : Nat := (w.extractLsb' lo len).toNat
  match Condition.ofCode (field 17 2), Assignment.ofCode (field 12 3), Cls.ofCode (field 4 3) with
  | some c, some a, some k =>
    if field 11 1 = 0 && field 7 4 ≠ 0 then none
    else
      some
        { role := r, presence := Presence.ofCode (field 23 2), runCount := field 19 4, condition := c, locked := field 16 1 = 1,
          faulted := field 15 1 = 1, assignment := a,
          partner := if field 11 1 = 1 then some (Fin.ofNat 16 (field 7 4)) else none, cls := k, waitRank := field 0 4 }
  | _, _, _ => none

/-- The 29 bits of the mirror field: the slice index, then the slice of its entry. -/
def mirrorBits (k : Fin 16) (w : BitVec 25) : BitVec 29 := BitVec.ofNat 4 k.val ++ w

/-! ## The request word (R12, R30) -/

/-- The 7-bit request word of a value and a position. -/
def requestWord (v : Request) (p : Pos) : BitVec 7 := BitVec.ofNat 3 v.code ++ BitVec.ofNat 4 p.val

/-! ## The cells of the epoch (R184) -/

/-- The reading of cell `k`; a cell not sampled is given as recessive. -/
def cellAt (cells : List Bool) (k : Nat) : Bool := cells.getD k false

/-- The `n` cells from cell `k` as a number, most significant bit first; a dominant cell is a 0 bit. -/
def cellField (cells : List Bool) (k n : Nat) : Nat :=
  (List.range n).foldl (fun acc i => 2 * acc + if cellAt cells (k + i) then 0 else 1) 0

def requestField : Nat := 80
def digestField : Nat := 87
def digestComplement : Nat := 95
def mirrorField : Nat := 103
def mirrorComplement : Nat := 132
def quietField : Nat := 161
def cellCount : Nat := 168

/-- The verdict on pairs of a true and a complement reading (R31). -/
def verdictOf (pairs : List (Bool × Bool)) : Verdict :=
  if pairs.all fun p => !p.1 && !p.2 then .noNarrator
  else if pairs.all fun p => p.1 != p.2 then .consistent
  else if pairs.all fun p => p.1 || p.2 then .disagreement
  else .mixed

/-- The pairs of the `n`-bit field whose true cells begin at `t` and complement cells at `c` (R184). -/
def pairsOf (cells : List Bool) (t c n : Nat) : List (Bool × Bool) :=
  (List.range n).map fun i => (cellAt cells (t + i), cellAt cells (c + i))

/-- The verdict on the digest field. -/
def digestVerdict (cells : List Bool) : Verdict := verdictOf (pairsOf cells digestField digestComplement 8)

/-- The verdict on the mirror field. -/
def mirrorVerdict (cells : List Bool) : Verdict := verdictOf (pairsOf cells mirrorField mirrorComplement 29)

/-! ## Packing -/

/-- Booleans as the bits of a number, the first the least significant. -/
def packBits : List Bool → Nat
  | [] => 0
  | b :: l => (if b then 1 else 0) + 2 * packBits l

/-- A flag as a bit at place `i`. -/
def bitAt (b : Bool) (i : Nat) : Nat := if b then 2 ^ i else 0

end Sys2Proof.Machine
end

