-- ==== Sys2Proof/Machine/Monitor.lean ====
section
/-! DEFINITION. The condition monitor (Chapter 6): line filters, the TX activity monitor, the own condition, and its five events. -/

namespace Sys2Proof.Machine

/-! ## The configuration in force, as CM and the others read it -/

/-- The configuration area in force; no byte before the freeze. -/
def State.area (s : State) : List Byte := match s.sl.config with | none => [] | some c => c.area

/-- The own role, EMPTY before the freeze (R1). -/
def State.ownRole (s : State) : Role := blockRole s.area s.sl.ownPos

/-- The configuration is frozen (R162). -/
def State.frozen (s : State) : Bool := s.sl.config.isSome

/-- Line `n` takes part in the own condition; every line does before the freeze (R109). -/
def State.lineEnabled (s : State) (n : Fin 4) : Bool := !s.frozen || localLineEnabled s.area n

/-- The set holdoff, 100 ms before the freeze (R109). -/
def State.setHoldoff (s : State) : Ticks := if s.frozen then holdoffUnit * localSetHoldoff s.area else ms 100

/-- The clear holdoff, 100 ms before the freeze (R109). -/
def State.clearHoldoff (s : State) : Ticks := if s.frozen then holdoffUnit * localClearHoldoff s.area else ms 100

/-- The silence threshold as stored; 0, the monitor disabled, before the freeze (R109). -/
def State.silenceThreshold (s : State) : Nat := if s.frozen then localSilence s.area else 0

/-! ## Line filters (R106 to R108) -/

/-- The raw level of a pair of inputs SFn, SDn (R106). -/
def rawLevel (sf sd : Bool) : Condition := if sf then .failed else if sd then .degraded else .clear

/-- The raw level of line `n`, which follows its inputs. -/
def State.raw (s : State) (n : Fin 4) : Condition := rawLevel s.pins.sf[n] s.pins.sd[n]

/-- The filter of line `n`. -/
def State.filter (s : State) (n : Fin 4) : LineFilter := s.cm.filters[n]

/-- The filter of line `n` replaced. -/
def State.setFilter (s : State) (n : Fin 4) (f : LineFilter) : State :=
  { s with cm := { s.cm with filters := s.cm.filters.set n f } }

/-- The holdoff of a change from filtered level `f` to level `c`: set toward worse, clear toward better (R107). -/
def State.holdoff (s : State) (f c : Condition) : Ticks := if f.code < c.code then s.setHoldoff else s.clearHoldoff

/-- The filter of line `n` judged against its raw level: no pending change when they agree, an immediate change at a holdoff of 0, and a new
pending change otherwise (R107, R108). -/
def State.judgedFilter (s : State) (n : Fin 4) : LineFilter :=
  let f := s.filter n
  let c := s.raw n
  if c = f.filtered then ⟨f.filtered, none⟩
  else if s.holdoff f.filtered c = 0 then ⟨c, none⟩
  else ⟨f.filtered, some (c, s.now + s.holdoff f.filtered c)⟩

/-- The filter of line `n` is judged against its raw level. -/
def State.judgeLine (s : State) (n : Fin 4) : State := s.setFilter n (s.judgedFilter n)

/-- The four lines. -/
def allLines : List (Fin 4) := [0, 1, 2, 3]

/-! ## The own condition (R114) -/

/-- The own condition its sources give. -/
def State.ownConditionNow (s : State) : Condition :=
  let any := fun c => allLines.any fun n => s.lineEnabled n && (s.filter n).filtered = c
  if any .failed || s.cm.txSilent then .failed else if any .degraded then .degraded else .clear

/-- The own condition is derived again, and COND raised when it changes. -/
def State.deriveOwn (s : State) : State :=
  if s.ownConditionNow = s.cm.own then s else ({ s with cm := { s.cm with own := s.ownConditionNow } }).raise .cond

/-! ## The TX activity monitor (R111 to R113) -/

/-- The actuated state carries traffic: CARRYING for a primary, TAKEN(p) for a backup (R111). -/
def ActState.carries (r : Role) : ActState → Bool
  | .carrying => r = .primary
  | .taken _ => r = .backup
  | .released | .yielded | .idle | .unknown => false

/-- The conditions of R111 hold. -/
def State.monitorCalled (s : State) : Bool :=
  1 ≤ s.silenceThreshold && s.ae.actuated.carries s.ownRole && !s.ae.engine.moving

/-- The silence timer's setting from this instant. -/
def State.silenceDue (s : State) : Ticks := s.now + silenceUnit * s.silenceThreshold

/-- Activity is judged again (R111), with what becoming active or inactive does (R112). -/
def State.judgeMonitor (s : State) : State :=
  if s.monitorCalled = s.cm.monitorActive then s
  else if s.monitorCalled then
    { s with cm := { s.cm with monitorActive := true, silenceTimer := some s.silenceDue } }
  else ({ s with cm := { s.cm with monitorActive := false, silenceTimer := none, txSilent := false } }).deriveOwn

/-- The freeze takes the local parameters over, in one event (R109). -/
def State.takeParameters (s : State) : State := ((allLines.foldl State.judgeLine s).judgeMonitor).deriveOwn

/-! ## Events -/

/-- LINE_INPUT_CHANGE (R106 to R108). In RESET the pins change and CM is held in its reset condition (R116). -/
def execLineInputChange (line : Fin 4) (sf sd : Bool) (s : State) : Host.Outcome State Fault Refusal :=
  let t := { s with pins := { s.pins with sf := s.pins.sf.set line sf, sd := s.pins.sd.set line sd } }
  if t.raw line = s.raw line || s.participation = .reset then .next t else .next (t.judgeLine line).deriveOwn

/-- HOLDOFF_EXPIRY (R108): the filtered level takes the pending target. Without a pending change there is no timer to expire. -/
def execHoldoffExpiry (line : Fin 4) (s : State) : Host.Outcome State Fault Refusal :=
  match (s.filter line).pending with
  | none => .next s
  | some (c, due) => .next ((s.advanceTo due).setFilter line ⟨c, none⟩).deriveOwn

/-- TXACT_TRANSITION (R113): the silence timer restarts and TX-SILENT is cleared. While inactive it is disregarded (R112). -/
def execTxactTransition (s : State) : Host.Outcome State Fault Refusal :=
  let t := { s with pins := { s.pins with txact := !s.pins.txact } }
  if t.cm.monitorActive then
    .next ({ t with cm := { t.cm with silenceTimer := some t.silenceDue, txSilent := false } }).deriveOwn
  else .next t

/-- SILENCE_TIMER_EXPIRY (R113): TX-SILENT is raised and the timer is not restarted. -/
def execSilenceTimerExpiry (s : State) : Host.Outcome State Fault Refusal :=
  match s.cm.silenceTimer with
  | none => .next s
  | some due =>
    let t := s.advanceTo due
    .next ({ t with cm := { t.cm with silenceTimer := none, txSilent := true } }).deriveOwn

end Sys2Proof.Machine
end

