-- ==== Sys2Proof/Machine/Commands.lean ====
section
/-! DEFINITION. The command unit (Chapter 7): the command table, contention, outcomes, expiry, and the wait-to-restore timer with its restore slot. The
host's writes to CMDSUB and CMDACK stand in Port.lean. -/

namespace Sys2Proof.Machine

/-! ## The head (R119) -/

/-- The state a record has when it is head or not: the head is CONTENDING while IN_STEP, and every other record not DONE is QUEUED. -/
def settleHead (inStep : Bool) : List CmdRecord → List CmdRecord
  | [] => []
  | c :: l =>
    if c.state = .done then c :: settleHead inStep l
    else
      { c with state := if inStep then .contending else .queued } ::
        l.map fun d => if d.state = .done then d else { d with state := .queued }

/-- The head: the oldest record whose state is not DONE. -/
def headOf (l : List CmdRecord) : Option CmdRecord := l.find? fun c => c.state ≠ .done

/-- The tag of the head. -/
def Cu.headTag (c : Cu) : Option (Fin 16) := (headOf c.table).map fun r => r.tag

/-- The command table replaced, and its head made for the participation state (R119). -/
def State.setTable (l : List CmdRecord) (s : State) : State :=
  { s with cu := { s.cu with table := settleHead (s.participation = .inStep) l } }

/-- The head made again after a participation move. -/
def State.settleCommands (s : State) : State := s.setTable s.cu.table

/-! ## Outcomes (R124, R125, R127) -/

/-- A record becomes DONE with outcome `o`. -/
def CmdRecord.finish (o : CmdOutcome) (c : CmdRecord) : CmdRecord := { c with state := .done, outcome := some o }

/-- A record that is not DONE becomes DONE with outcome `o`. -/
def CmdRecord.finishOpen (o : CmdOutcome) (c : CmdRecord) : CmdRecord := if c.state = .done then c else c.finish o

/-- The record holding tag `t`, unless it is DONE, becomes DONE with outcome `o`. -/
def finishTag (t : Fin 16) (o : CmdOutcome) (l : List CmdRecord) : List CmdRecord :=
  l.map fun c => if c.tag = t then c.finishOpen o else c

/-- A record holding tag `t` stands in the table and is not DONE. -/
def openTag (t : Fin 16) (l : List CmdRecord) : Bool := l.any fun c => c.tag = t && c.state ≠ .done

/-- The station's own win is reported with outcome `o` and attributed to the offered record (R124). -/
def State.reportWin (o : CmdOutcome) (s : State) : State :=
  match s.cu.offered with
  | .none => s
  | .restoreSlot => { s with cu := { s.cu with restoreFull := false } }
  | .command t => if openTag t s.cu.table then (s.setTable (finishTag t o s.cu.table)).raise .cmddone else s

/-- The head count at which a command expires (R125). -/
def expiryCount : Nat := 64

/-- The head count of the record holding tag `t` is increased by one. -/
def countTag (t : Fin 16) (l : List CmdRecord) : List CmdRecord :=
  l.map fun c => if c.tag = t then { c with headCount := c.headCount + 1 } else c

/-- A head whose count has reached 64 becomes DONE with outcome EXPIRED (R125). -/
def State.expireHead (s : State) : State :=
  match headOf s.cu.table with
  | none => s
  | some h =>
    if expiryCount ≤ h.headCount then (s.setTable (finishTag h.tag .expired s.cu.table)).raise .cmddone else s

/-- A record has been delivered in LEARNING or IN_STEP: the head that stood before it, when it is still head, is counted, and expires at 64
(R125). -/
def State.countHead (before : Option (Fin 16)) (s : State) : State :=
  match before with
  | none => s
  | some t =>
    if s.cu.headTag = some t then (s.setTable (countTag t s.cu.table)).expireHead else s

/-- A leaving move: every record QUEUED or CONTENDING becomes DONE ABANDONED, with CMDDONE once for the move (R127). -/
def State.abandonCommands (s : State) : State :=
  (s.setTable (s.cu.table.map (CmdRecord.finishOpen .abandoned))).raiseIf (headOf s.cu.table).isSome .cmddone

/-! ## Contention (R122) -/

/-- The word the CU gives at a marker start, and the record it offers. -/
def State.contention (s : State) : Option (BitVec 7) × Offered :=
  if s.participation ≠ .inStep then (none, .none)
  else
    match headOf s.cu.table with
    | some h => (some (requestWord h.kind.request s.sl.ownPos), .command h.tag)
    | none => if s.cu.restoreFull then (some (requestWord .restore s.sl.ownPos), .restoreSlot) else (none, .none)

/-! ## The wait-to-restore timer and the restore slot (R129 to R131) -/

/-- GTU notifies that WAIT-RESTORE was entered: the slot is emptied and the timer started; with WTR 0 it expires at once (R129). -/
def State.enterWaitRestore (s : State) : State :=
  if blockWtr s.area = 0 then { s with cu := { s.cu with wtrTimer := none, restoreFull := true } }
  else { s with cu := { s.cu with wtrTimer := some (s.now + sec (blockWtr s.area)), restoreFull := false } }

/-- GTU notifies that WAIT-RESTORE was left: the timer is stopped and the slot emptied (R131). -/
def State.leaveWaitRestore (s : State) : State := { s with cu := { s.cu with wtrTimer := none, restoreFull := false } }

/-- The notification a change of the own entry's class from `before` gives, if any (R80, R103). -/
def State.notifyWaitRestore (before : Cls) (s : State) : State :=
  if before = .waitRestore then (if s.ownEntry.cls = .waitRestore then s else s.leaveWaitRestore)
  else if s.ownEntry.cls = .waitRestore then s.enterWaitRestore
  else s

/-- The time left on the WTR timer in whole seconds, rounded up; 0 when it does not run (R133). -/
def State.wtrSecondsLeft (s : State) : Nat :=
  match s.cu.wtrTimer with
  | none => 0
  | some due => (due - s.now + (sec 1 - 1)) / sec 1

/-! ## Submission and acknowledgement (R120, R121, R128) -/

/-- The first value from `t` on, in the rolling order, that no record holds, looking at no more than `n + 1` values (R120). -/
def freeTag (l : List CmdRecord) : Nat → Fin 16 → Fin 16
  | 0, t => t
  | n + 1, t => if l.any (fun c => c.tag = t) then freeTag l n (t + 1) else t

/-- The capacity of the command table. -/
def tableDepth : Nat := 4

/-- The submission of kind code `k`: its result, with the record added when it is accepted (R121). -/
def State.submit (k : Nat) (s : State) : SubResult × State :=
  match Kind.ofCode k with
  | none => (.kind, s)
  | some kind =>
    if tableDepth ≤ s.cu.table.length then (.full, s)
    else if s.cu.table.any fun c => c.kind = kind && c.state ≠ .done then (.duplicate, s)
    else
      let t := freeTag s.cu.table tableDepth s.cu.nextTag
      let s := { s with cu := { s.cu with nextTag := t + 1 } }
      (.accepted t, s.setTable (s.cu.table ++ [⟨t, kind, .queued, none, 0⟩]))

/-- The acknowledgement of tag `t`: its result, with the record removed when it is DONE (R128). -/
def State.acknowledge (t : Fin 16) (s : State) : AckResult × State :=
  match s.cu.table.find? fun c => c.tag = t with
  | none => (.unknown, s)
  | some c =>
    if c.state = .done then (.acknowledged, s.setTable (s.cu.table.filter fun c => c.tag ≠ t)) else (.notDone, s)

/-- CU's soft reset: everything but the next tag (R132). -/
def State.commandsSoftReset (s : State) : State := { s with cu := { Cu.reset with nextTag := s.cu.nextTag } }

/-! ## Events -/

/-- COMMAND_EXPIRY (R125): a head whose count stands at 64 becomes DONE EXPIRED. A record's delivery makes the same expiry itself (assumption 6). -/
def execCommandExpiry (s : State) : Host.Outcome State Fault Refusal := .next s.expireHead

/-- WTR_TIMER_EXPIRY (R130): the timer stops and the restore slot becomes full. -/
def execWtrTimerExpiry (s : State) : Host.Outcome State Fault Refusal :=
  match s.cu.wtrTimer with
  | none => .next s
  | some due =>
    let t := s.advanceTo due
    .next { t with cu := { t.cu with wtrTimer := none, restoreFull := true } }

end Sys2Proof.Machine
end

