-- ==== Sys2Proof/Machine/Engine.lean ====
section
/-! DEFINITION. The actuation engine (Chapter 8): offers and the queue, sequences and step records, failure, and the events of its timers and of
its feedback inputs. -/

namespace Sys2Proof.Machine

/-! ## Step records (R139 to R144) -/

/-- A sequence may enter at most 1024 records (R144). -/
def entryLimit : Nat := 1024

/-- How a chain of records entered within one event ends. -/
inductive ChainEnd where
  /-- A DWELL or an unsatisfied AWAIT waits. -/
  | waits
  /-- A record marked LAST is done. -/
  | completes
  /-- The loop limit refuses the record at this index. -/
  | loops (index : Nat)
deriving DecidableEq, Repr

/-- The retry counter set on entry to the AWAIT record `r` at index `i` (R142). -/
def Ae.loadRetry (i : Nat) (r : StepRecord) (a : Ae) : Ae :=
  if a.retryOwner = some i then a else { a with retryCount := r.retryCount, retryOwner := some i }

/-- The outputs change to `o`, at the pins too (R139, R140). -/
def Ae.drives (o : BitVec 12) (a : Ae) : Ae := { a with outputs := o, driven := o :: a.driven }

/-- What entering record `r` at index `i` does, once counted, and whether the record is done at its entry (R140, R141). -/
def Ae.act (fb : BitVec 8) (now : Ticks) (i : Nat) (r : StepRecord) (a : Ae) : Ae × Bool :=
  match r.kind with
  | some .drive => (a.drives (a.outputs ||| r.outputSet), true)
  | some .release => (a.drives (a.outputs &&& ~~~r.outputSet), true)
  | some .dwell => ({ a with waiting := .dwell (now + stepUnit * r.duration) }, false)
  | some .await =>
    let a := a.loadRetry i r
    if r.satisfied fb then ({ a with retryOwner := none }, true)
    else ({ a with waiting := .await (now + stepUnit * r.timeout) }, false)
  | none => (a, false)

/-- Records entered from index `i` with `n` entries left before the loop limit. An index with no record, which no configuration in force holds
(R139, R160), leaves the sequence waiting without a timer. -/
def Ae.enterUpTo (steps : List StepRecord) (fb : BitVec 8) (now : Ticks) : Nat → Nat → Ae → Ae × ChainEnd
  | 0, i, a => (a, .loops i)
  | n + 1, i, a =>
    let a := { a with stepCount := a.stepCount + 1, stepIndex := some i }
    match steps[i]? with
    | none => (a, .waits)
    | some r =>
      match a.act fb now i r with
      | (a, false) => (a, .waits)
      | (a, true) => if r.last then (a, .completes) else Ae.enterUpTo steps fb now n r.nextIndex.toNat a

/-- The record at index `i` is entered, and the chain it begins is followed (R140, R144). -/
def Ae.enter (steps : List StepRecord) (fb : BitVec 8) (now : Ticks) (i : Nat) (a : Ae) : Ae × ChainEnd :=
  a.enterUpTo steps fb now (entryLimit - a.stepCount) i

/-- The step records in force (R134). -/
def State.steps (s : State) : List StepRecord := match s.sl.config with | none => [] | some c => c.steps

/-- The start index of a directive's directory entry, or none; every entry is none before the freeze (R134). -/
def State.dirEntry (s : State) (d : Directive) : Option Nat :=
  match s.sl.config with
  | none => none
  | some c => directoryEntry c.directory d.entryNumber

/-! ## Failure (R147) -/

/-- The engine becomes FAULTED with the given fault record. -/
def State.engineFault (f : FaultRecord) (s : State) : State :=
  (({ s with ae :=
      { s.ae with engine := .faulted, queue := [], running := none, debt := 0, actuated := .unknown, waiting := .none,
                  fault := f } }).raise .engine).judgeMonitor

/-! ## Completion and the queue (R138, R140, R145) -/

/-- Directive `d` completes: the actuated state, the debt and ENGINE (R145, steps 1 to 3). -/
def State.completed (d : Directive) (s : State) : State :=
  ({ s with ae :=
      { s.ae with running := none, waiting := .none, actuated := d.target, debt := s.ae.debt - 1 } }).raiseIf
    s.ae.fallbackTaken .engine

/-- The engine rests IDLE with an empty queue. -/
def State.engineRests (s : State) : State := ({ s with ae := { s.ae with engine := .idle, queue := [] } }).judgeMonitor

/-- The sequence of directive `d` begins, with `rest` left queued: the counters start again and the engine is RUNNING (R140). CM judges the monitor at the
beginning (R111), of a sequence that completes within the same event too (assumption 30). -/
def State.sequenceBegins (d : Directive) (rest : List Directive) (s : State) : State :=
  ({ s with ae :=
      { s.ae with engine := .running, queue := rest, running := some d, waiting := .none, fallbackTaken := false,
                  stepCount := 0, retryCount := 0, retryOwner := none } }).judgeMonitor

/-- The oldest of `ds` is begun, and after each completion within the event the next, until one waits, one fails or none is left (R140, R145). -/
def State.runQueue : List Directive → State → State
  | [], s => s.engineRests
  | d :: rest, s =>
    match s.dirEntry d with
    | none => State.runQueue rest (({ s with ae := { s.ae with queue := rest } }).completed d)
    | some i =>
      let t := s.sequenceBegins d rest
      match t.ae.enter t.steps t.pins.fb t.now i with
      | (a, .waits) => { t with ae := a }
      | (a, .loops j) => ({ t with ae := a }).engineFault ⟨.loop, some d, some j⟩
      | (a, .completes) => State.runQueue rest (({ t with ae := a }).completed d)

/-- The sequence of `d` in progress completes: a HOLDING engine becomes HELD, another goes on with its queue (R145). -/
def State.sequenceCompletes (d : Directive) (s : State) : State :=
  let t := s.completed d
  if t.ae.engine = .holding then (({ t with ae := { t.ae with engine := .held } }).raise .engine).judgeMonitor
  else t.runQueue t.ae.queue

/-- The sequence of `d` in progress enters the record at index `i`. -/
def State.sequenceEnters (d : Directive) (i : Nat) (s : State) : State :=
  match s.ae.enter s.steps s.pins.fb s.now i with
  | (a, .waits) => { s with ae := a }
  | (a, .loops j) => ({ s with ae := a }).engineFault ⟨.loop, some d, some j⟩
  | (a, .completes) => ({ s with ae := a }).sequenceCompletes d

/-- The waiting record `r` of the sequence of `d` is done (R140). -/
def State.recordDone (d : Directive) (r : StepRecord) (s : State) : State :=
  let t := { s with ae := { s.ae with waiting := .none } }
  if r.last then t.sequenceCompletes d else t.sequenceEnters d r.nextIndex.toNat

/-- The sequence in progress with the record it stands at: its directive, the record's index and the record. -/
def State.atRecord (s : State) : Option (Directive × Nat × StepRecord) :=
  match s.ae.running, s.ae.stepIndex with
  | some d, some i => (s.steps[i]?).map fun r => (d, i, r)
  | _, _ => none

/-! ## Offers (R136, R137) -/

/-- The capacity of the queue. -/
def queueDepth : Nat := 4

/-- The offer of `d` coalesces with the newest directive of the queue (R137). -/
def Ae.coalesces (a : Ae) (d : Directive) : Bool :=
  match a.queue.getLast?, d.inverse with
  | some n, some v => n = v
  | _, _ => false

/-- Directive `d` is offered to AE. -/
def State.offer (d : Directive) (s : State) : State :=
  match s.ae.engine with
  | .idle => ({ s with ae := { s.ae with debt := s.ae.debt + 1 } }).runQueue [d]
  | .running | .holding | .held =>
    if s.ae.coalesces d then { s with ae := { s.ae with queue := s.ae.queue.dropLast, debt := s.ae.debt - 1 } }
    else if s.ae.queue.length < queueDepth then
      { s with ae := { s.ae with queue := s.ae.queue ++ [d], debt := s.ae.debt + 1 } }
    else s.engineFault ⟨.overflow, some d, if s.ae.engine.moving then s.ae.stepIndex else none⟩
  | .stopped | .faulted => s

/-! ## Soft reset and STOP (R151, R154) -/

/-- Any sequence is abandoned, the queue is cleared and the debt becomes 0. -/
def Ae.abandoned (a : Ae) : Ae := { a with queue := [], running := none, debt := 0, waiting := .none }

/-- AE's soft reset (R154). -/
def State.engineSoftReset (s : State) : State :=
  ({ s with ae :=
      { s.ae.abandoned with
          engine := .idle, actuated := if s.ae.engine.moving then .unknown else s.ae.actuated,
          fault := { s.ae.fault with cause := .none }, fallbackTaken := false, retryCount := 0, retryOwner := none,
          stepIndex := none, stepCount := 0 } }).judgeMonitor

/-- AE's STOP, in a state that takes it (R151). -/
def State.engineStop (s : State) : State :=
  ({ s with ae := { s.ae.abandoned with engine := .stopped, actuated := .unknown } }).judgeMonitor

/-! ## Events -/

/-- DWELL_EXPIRY (R140): the waiting DWELL is done. Without a dwell timer there is nothing to expire. -/
def execDwellExpiry (s : State) : Host.Outcome State Fault Refusal :=
  match s.ae.waiting, s.atRecord with
  | .dwell due, some (d, _, r) => .next ((s.advanceTo due).recordDone d r)
  | _, _ => .next s

/-- FEEDBACK_CHANGE (R141): the levels change, and a waiting AWAIT tests its condition again. -/
def execFeedbackChange (levels : BitVec 8) (s : State) : Host.Outcome State Fault Refusal :=
  let t := { s with pins := { s.pins with fb := levels } }
  match t.ae.waiting, t.atRecord with
  | .await _, some (d, _, r) =>
    if r.satisfied levels then .next (({ t with ae := { t.ae with retryOwner := none } }).recordDone d r) else .next t
  | _, _ => .next t

/-- AWAIT_TIMEOUT (R142, R143): a retry at the target, or exhaustion with the fallback path or failure. -/
def execAwaitTimeout (s : State) : Host.Outcome State Fault Refusal :=
  match s.ae.waiting, s.atRecord with
  | .await due, some (d, i, r) =>
    let t := s.advanceTo due
    let t := { t with ae := { t.ae with waiting := .none } }
    if 0 < t.ae.retryCount then
      .next (({ t with ae := { t.ae with retryCount := t.ae.retryCount - 1 } }).sequenceEnters d r.retryTarget.toNat)
    else if r.hasFallback then
      .next (({ t with ae := { t.ae with retryOwner := none, fallbackTaken := true } }).sequenceEnters d r.fallbackIndex.toNat)
    else .next (({ t with ae := { t.ae with retryOwner := none } }).engineFault ⟨.timeout, some d, some i⟩)
  | _, _ => .next s

end Sys2Proof.Machine
end

