-- ==== Sys2Proof/Machine/Snapshots.lean ====
section
/-! DEFINITION. The snapshot unit (R179 to R183): captures, the buffer's bytes, and the expiry of the discard timer. -/

namespace Sys2Proof.Machine

/-- A capture from the table as it stands: the buffer, SNAPPTR, SNAP and the discard timer (R180). -/
def State.capture (k : CaptureKind) (p : Participation) (mark : Bool) (s : State) : State :=
  ({ s with mp :=
      { s.mp with
          snapshot := some ⟨k, mark, p, s.gtu.sliceIndex, s.gtu.waitList, s.gtu.entries⟩, snapPtr := 0, snapTaken := false,
          snapState := .ready, discardTimer := some (s.now + discardTime) } }).raise .snap

/-- An ARMED unit is completed; a unit in another state is left as it is (R179). -/
def State.captureIfArmed (k : CaptureKind) (p : Participation) (mark : Bool) (s : State) : State :=
  if s.mp.snapState = .armed then s.capture k p mark else s

/-- The buffer is discarded, the discard timer stops, and the unit takes state `x`. -/
def Mp.discard (x : SnapState) (m : Mp) : Mp := { m with snapshot := none, discardTimer := none, snapTaken := false, snapState := x }

/-- The four bytes of an entry in the buffer (R186). -/
def Entry.snapshotBytes (e : Entry) : List Byte :=
  [BitVec.ofNat 8 (64 * e.role.code + 16 * e.presence.code + e.runCount),
   BitVec.ofNat 8 (64 * e.condition.code + bitAt e.locked 5 + bitAt e.faulted 4 + 2 * e.assignment.code + bitAt e.partner.isSome 0),
   BitVec.ofNat 8 (16 * (match e.partner with | some p => p.val | none => 0) + e.cls.code),
   BitVec.ofNat 8 e.waitRank]

/-- The capture kind and the mark, byte 0 of the buffer. -/
def Snapshot.headByte (b : Snapshot) : Byte := BitVec.ofNat 8 (b.kind.code + bitAt b.notInStep 7)

/-- The 83 bytes of the buffer (R180, R186). -/
def Snapshot.bytes (b : Snapshot) : List Byte :=
  [b.headByte, BitVec.ofNat 8 b.participation.code, BitVec.ofNat 8 b.sliceIndex.val, BitVec.ofNat 8 b.waitList.length] ++
    ((List.range 15).map fun i => match b.waitList[i]? with | some p => BitVec.ofNat 8 p.val | none => 0xFF#8) ++
    allPos.flatMap fun n => b.entries[n].snapshotBytes

/-- The NONE marker (R182). -/
def noneMarker : Byte := 0x00#8

/-- The NOT_READY marker (R182). -/
def notReadyMarker : Byte := 0xA5#8

/-- What a SNAPDATA read returns (R182). -/
def Mp.snapByte (m : Mp) : Byte :=
  match m.snapState with
  | .idle => noneMarker
  | .armed => notReadyMarker
  | .ready => match m.snapshot with | some b => byteAt b.bytes m.snapPtr | none => noneMarker

/-- DISCARD_TIMER_EXPIRY (R181): the buffer is discarded and the unit becomes IDLE; nothing is raised. -/
def execDiscardTimerExpiry (s : State) : Host.Outcome State Fault Refusal :=
  match s.mp.discardTimer with
  | none => .next s
  | some due =>
    let t := s.advanceTo due
    .next { t with mp := t.mp.discard .idle }

end Sys2Proof.Machine
end

