-- ==== Sys2Proof/Machine/Table.lean ====
section
/-! DEFINITION. The group table's own operations: relations and ranks, the wait list, the ways a cover ends, selection and service. Each works on
one station's copy; `blk` is the configuration area in force. -/

namespace Sys2Proof.Machine

/-! ## Relations (R62) -/

/-- YIELDING, TAKING or ACTIVE. -/
def Assignment.engaged : Assignment → Bool
  | .yielding | .taking | .active => true
  | .none | .dropping => false

/-- Primary `p` holds backup `b` in YIELDING, TAKING or ACTIVE. -/
def Gtu.holds (g : Gtu) (p b : Pos) : Bool :=
  (g.entry p).role = .primary && (g.entry p).assignment.engaged && (g.entry p).partner = some b

/-- Primary `p` holds backup `b` in DROPPING. -/
def Gtu.drops (g : Gtu) (p b : Pos) : Bool :=
  (g.entry p).role = .primary && (g.entry p).assignment = .dropping && (g.entry p).partner = some b

/-- The primary that holds backup `b` in YIELDING, TAKING or ACTIVE. -/
def Gtu.holder (g : Gtu) (b : Pos) : Option Pos := allPos.find? fun p => g.holds p b

/-- Backup `b` is free for selection, whatever DROPPING relation it has. -/
def Gtu.free (g : Gtu) (b : Pos) : Bool := (g.holder b).isNone

/-- Position `p` is on the wait list. -/
def Gtu.waiting (g : Gtu) (p : Pos) : Bool := p ∈ g.waitList

/-- The place of `p` on a list, counted from 1; 0 when it is not on it (R71). -/
def rankOf : List Pos → Pos → Nat
  | [], _ => 0
  | q :: l, p => if q = p then 1 else match rankOf l p with
    | 0 => 0
    | r + 1 => r + 2

/-- Backup entries set again from the primaries (R62), and ranks from the wait list (R71). Made at the end of every stage. -/
def Gtu.settle (g : Gtu) : Gtu :=
  g.mapEntries fun n e =>
    match e.role with
    | .empty => e
    | .primary => { e with waitRank := rankOf g.waitList n }
    | .backup =>
      match g.holder n with
      | some p => { e with assignment := (g.entry p).assignment, partner := some p }
      | none => { e with assignment := .none, partner := none }

/-! ## The wait list (R69, R70) -/

/-- The class number of position `q`. -/
def Gtu.rankClass (g : Gtu) (q : Pos) : Nat := (g.entry q).cls.code

/-- `p` leaves the wait list; those behind it move up. -/
def Gtu.offList (p : Pos) (g : Gtu) : Gtu := { g with waitList := g.waitList.filter fun q => q ≠ p }

/-- Arrival: `p` is placed behind every entry of its class and in front of every entry of a greater class. -/
def Gtu.arrive (p : Pos) (g : Gtu) : Gtu :=
  let l := (g.offList p).waitList
  let front := fun q => decide (g.rankClass q ≤ g.rankClass p)
  { g with waitList := l.takeWhile front ++ p :: l.dropWhile front }

/-- Requeue: `p` is placed in front of every entry of its class and behind every entry of a smaller class. Several requeues of one stage are put in
order by `Gtu.orderRequeues`. -/
def Gtu.requeue (p : Pos) (g : Gtu) : Gtu :=
  let l := (g.offList p).waitList
  let front := fun q => decide (g.rankClass q < g.rankClass p)
  { g with waitList := l.takeWhile front ++ p :: l.dropWhile front }

/-- Every primary on the list that was covered at the start of the stage, and so was requeued in it, is placed again in descending order of position: those
of one class then stand together at the front of their class in ascending order (R69). -/
def Gtu.orderRequeues (g start : Gtu) : Gtu :=
  allPos.reverse.foldl (fun g p => if g.waiting p && (start.entry p).assignment ≠ .none then g.requeue p else g) g

/-- The end of a stage that began at `start`: the requeues of the stage put in order, backup entries and ranks set again. -/
def Gtu.settleFrom (g start : Gtu) : Gtu := (g.orderRequeues start).settle

/-! ## Ending a cover (R82 to R84) -/

/-- Assignment, partner and class of position `p` replaced. -/
def Gtu.setCover (p : Pos) (a : Assignment) (b : Option Pos) (c : Cls) (g : Gtu) : Gtu :=
  g.setEntry p { g.entry p with assignment := a, partner := b, cls := c }

/-- The class of position `p` replaced. -/
def Gtu.setCls (p : Pos) (c : Cls) (g : Gtu) : Gtu := g.setEntry p { g.entry p with cls := c }

/-- `p` is cleared: assignment NONE, no partner, class 0, off the list (R77, R82). -/
def Gtu.clearPrimary (p : Pos) (g : Gtu) : Gtu := (g.setCover p .none none .none).offList p

/-- `p` returns to NONE, requeued when it is PRESENT, not locked and of class 1–3, and cleared otherwise (R82, R84). -/
def Gtu.requeueOrClear (p : Pos) (g : Gtu) : Gtu :=
  let e := g.entry p
  if e.presence = .present && !e.locked && e.cls.mayWait then (g.setCover p .none none e.cls).requeue p else g.clearPrimary p

/-- Primary `q` is in DROPPING with backup `b`, which is not LOST. -/
def Gtu.dropsHeard (g : Gtu) (q b : Pos) : Bool := g.drops q b && (g.entry b).presence ≠ .lost

/-- `p` goes to DROPPING with class `c`, its partner kept. Any other primary still in DROPPING with that partner is cleared, so that the backup stays the
partner of at most one primary in DROPPING (R62, in the way of R77, assumption 21). Of a backup that is LOST none is cleared, since the record that loses it
ends every DROPPING of it (R85). -/
def Gtu.toDropping (p : Pos) (c : Cls) (g : Gtu) : Gtu :=
  let b := (g.entry p).partner
  (allPos.foldl (fun g q => if q ≠ p && b.any (g.dropsHeard q) then g.clearPrimary q else g) g).setCover p .dropping b c

/-- The cover of `p` is revoked (R82). -/
def Gtu.revoke (p : Pos) (g : Gtu) : Gtu :=
  let e := g.entry p
  match e.assignment with
  | .yielding => g.requeueOrClear p
  | .taking | .active => g.toDropping p (if e.cls.mayWait then e.cls else .hold)
  | .none | .dropping => g

/-- The claim or cover of `p` is released (R83). -/
def Gtu.release (p : Pos) (g : Gtu) : Gtu :=
  let e := g.entry p
  match e.assignment with
  | .none => if g.waiting p then g.clearPrimary p else g
  | .yielding => g.clearPrimary p
  | .taking | .active => g.toDropping p .hold
  | .dropping => g.setCls p .hold

/-- Every primary that holds `b` in YIELDING, TAKING or ACTIVE has its cover revoked, in ascending order. -/
def Gtu.revokeHolders (b : Pos) (g : Gtu) : Gtu := allPos.foldl (fun g p => if g.holds p b then g.revoke p else g) g

/-- Every primary that holds `b` in DROPPING ends its DROPPING, in ascending order (R84, R85). -/
def Gtu.endDroppings (b : Pos) (g : Gtu) : Gtu := allPos.foldl (fun g p => if g.drops p b then g.requeueOrClear p else g) g

/-! ## Selection and service (R89 to R92, R102) -/

/-- Backup `b` is eligible for a new cover of class `c` (R8). -/
def Gtu.eligible (g : Gtu) (b : Pos) (c : Cls) : Bool :=
  let e := g.entry b
  e.presence = .present && !e.locked && !e.faulted && (e.condition = .clear || e.condition = .degraded && c = .force)

/-- `b` is free, or held at a class that `c` preempts (R89). -/
def Gtu.available (g : Gtu) (b : Pos) (c : Cls) : Bool :=
  match g.holder b with
  | none => true
  | some q => c.code < g.rankClass q

/-- Selection is made for `p` at all: a PRESENT primary, not locked and not faulted (R89). -/
def Gtu.selectable (g : Gtu) (p : Pos) : Bool :=
  let e := g.entry p
  e.role = .primary && e.presence = .present && !e.locked && !e.faulted

/-- `b` is a candidate for primary `p` and class `c` (R89). -/
def Gtu.candidate (blk : List Byte) (g : Gtu) (p : Pos) (c : Cls) (b : Pos) : Bool :=
  g.selectable p && (g.entry b).role = .backup && (blockPooled blk || blockPartner blk p = some b) && g.eligible b c && g.available b c

/-- The candidates for `p` and class `c`, in ascending order. -/
def Gtu.candidates (blk : List Byte) (g : Gtu) (p : Pos) (c : Cls) : List Pos := allPos.filter (g.candidate blk p c)

/-- The class number of the cover that backup `b` is held at. -/
def Gtu.heldClass (g : Gtu) (b : Pos) : Nat :=
  match g.holder b with
  | none => 0
  | some q => g.rankClass q

/-- Of a list in ascending order, the backup held at the greatest class, the lowest position among equals (R90). -/
def Gtu.leastUrgent (g : Gtu) : List Pos → Option Pos
  | [] => none
  | b :: l =>
    match g.leastUrgent l with
    | none => some b
    | some b' => if g.heldClass b < g.heldClass b' then some b' else some b

/-- The backup chosen for `p` and class `c`: the lowest free candidate, otherwise the candidate of the least urgent cover (R90). -/
def Gtu.choose (blk : List Byte) (g : Gtu) (p : Pos) (c : Cls) : Option Pos :=
  let l := g.candidates blk p c
  match l.find? g.free with
  | some b => some b
  | none => g.leastUrgent l

/-- Backup `b` is selected for `p` with class `c`: its current primary is preempted, and `p` takes it in YIELDING (R91, R92). -/
def Gtu.select (p b : Pos) (c : Cls) (g : Gtu) : Gtu :=
  let g := match g.holder b with
    | none => g
    | some q => g.revoke q
  (g.setCover p .yielding (some b) c).offList p

/-- The first primary on a list that has a candidate for its own class, with the backup chosen for it. -/
def Gtu.firstServed (blk : List Byte) (g : Gtu) : List Pos → Option (Pos × Pos)
  | [] => none
  | p :: l =>
    match g.choose blk p (g.entry p).cls with
    | some b => some (p, b)
    | none => g.firstServed blk l

/-- The wait list is served, with at most `n` selections, in a service that began at `start` (R102). Its requeues stand in order after each selection, as
the next one sees them. -/
def Gtu.serveUpTo (blk : List Byte) (start : Gtu) : Nat → Gtu → Gtu
  | 0, g => g
  | n + 1, g =>
    match g.firstServed blk g.waitList with
    | none => g
    | some (p, b) => Gtu.serveUpTo blk start n ((g.select p b (g.entry p).cls).orderRequeues start)

/-- The wait list is served until no primary on it has a candidate (R102). Each selection takes a backup that is free, or held at a greater
class than the one served, so it lowers the sum over the positions of the class each is held at, 7 where it is free: 7 × 16 selections suffice
(assumption 16). -/
def Gtu.serve (blk : List Byte) (g : Gtu) : Gtu := Gtu.serveUpTo blk g 112 g

end Sys2Proof.Machine
end

