-- ==== Sys2Proof/Machine/Stages.lean ====
section
/-! DEFINITION. The table stages of the application of a record (R81, stages a to h), learning overwrite and repair, and founding. `blk` is the
configuration area in force and `np` its count of primaries. -/

namespace Sys2Proof.Machine

/-! ## The record's readings -/

/-- P[n] reads dominant. -/
def EpochRecord.presence (r : EpochRecord) (n : Pos) : Bool := cellAt r.cells n.val

/-- F[n] reads dominant. -/
def EpochRecord.fail (r : EpochRecord) (n : Pos) : Bool := cellAt r.cells (16 + n.val)

/-- D[n] reads dominant. -/
def EpochRecord.degrade (r : EpochRecord) (n : Pos) : Bool := cellAt r.cells (32 + n.val)

/-- B[n] reads dominant. -/
def EpochRecord.busy (r : EpochRecord) (n : Pos) : Bool := cellAt r.cells (48 + n.val)

/-- X[n] reads dominant. -/
def EpochRecord.fault (r : EpochRecord) (n : Pos) : Bool := cellAt r.cells (64 + n.val)

/-- The condition read from F[n] and D[n] (R66). -/
def EpochRecord.condition (r : EpochRecord) (n : Pos) : Condition :=
  if r.fail n then .failed else if r.degrade n then .degraded else .clear

/-! ## (a) Comparison, overwrite and repair (R74 to R77) -/

/-- The slice laws an entry of a BACKUP position meets (R75). -/
def backupSliceOk (blk : List Byte) (k : Pos) (d : Entry) : Bool :=
  d.cls = .none && d.waitRank = 0 && d.assignment ≠ .dropping && (d.partner.isSome = (d.assignment ≠ .none)) &&
    match d.partner with
    | none => true
    | some q => blockRole blk q = .primary && (blockPooled blk || blockPartner blk k = some q)

/-- The slice laws an entry of a PRIMARY position meets (R75). -/
def primarySliceOk (blk : List Byte) (np : Nat) (k : Pos) (d : Entry) : Bool :=
  (d.partner.isSome = (d.assignment ≠ .none)) &&
    (match d.partner with
      | none => true
      | some q => blockRole blk q = .backup && (blockPooled blk || blockPartner blk k = some q)) &&
    ((d.cls = .none) = (d.assignment = .none ∧ d.waitRank = 0)) &&
    (d.waitRank = 0 ||
      d.presence = .present && !d.locked && d.assignment = .none && d.cls.mayWait && d.waitRank ≤ np) &&
    (!d.locked || (d.assignment = .none || d.assignment = .dropping) && d.waitRank = 0)

/-- The presence laws an entry of a configured position meets (R75). -/
def presenceSliceOk (blk : List Byte) (d : Entry) : Bool :=
  match d.presence with
  | .absent => false
  | .lost => d.runCount = 0 && d.condition = .clear && !d.faulted
  | .joining => d.runCount = 1 || d.runCount = 2
  | .present => d.runCount < blockLossThreshold blk

/-- A decoded slice of position `k` passes every check of R75. -/
def sliceOk (blk : List Byte) (np : Nat) (k : Pos) (d : Entry) : Bool :=
  match d.role with
  | .empty => d = Entry.cleared .empty
  | .backup => presenceSliceOk blk d && backupSliceOk blk k d
  | .primary => presenceSliceOk blk d && primarySliceOk blk np k d

/-- The result GTU reports for a CONSISTENT mirror, on the table as it stood (R74). -/
def Gtu.compare (g : Gtu) (k : Fin 16) (w : BitVec 25) : Comparison :=
  if w = (g.entry k).slice then (if k = g.sliceIndex then .matching else .indexOnly) else .differs

/-- The wait list with position `k` of class number `c` put at rank `r`, or as near to it as the run of its class allows; off the list at
rank 0 (R76). -/
def Gtu.placeAtRank (k : Pos) (r : Nat) (g : Gtu) : Gtu :=
  let l := (g.offList k).waitList
  let c := g.rankClass k
  let lo := (l.filter fun q => decide (g.rankClass q < c)).length
  let hi := (l.filter fun q => decide (g.rankClass q ≤ c)).length
  if r = 0 then { g with waitList := l }
  else
    let i := max lo (min (r - 1) hi)
    { g with waitList := l.take i ++ k :: l.drop i }

/-- Every primary but `k` that holds what entry `k` now holds, in the same kind of relation, is cleared (R77, step 1). -/
def Gtu.repairRivals (k : Pos) (g : Gtu) : Gtu :=
  match (g.entry k).partner with
  | none => g
  | some b =>
    allPos.foldl
      (fun g' p =>
        if p ≠ k && ((g.holds k b && g'.holds p b) || (g.drops k b && g'.drops p b)) then g'.clearPrimary p else g') g

/-- Every primary that holds in YIELDING, TAKING or ACTIVE a backup that satisfies `bad` is cleared (R77, steps 2 and 3). -/
def Gtu.repairHolders (bad : Entry → Bool) (g : Gtu) : Gtu :=
  allPos.foldl
    (fun g p =>
      match (g.entry p).partner with
      | none => g
      | some b => if g.holds p b && bad (g.entry b) then g.clearPrimary p else g) g

/-- The repair of the relations an overwrite of entry `k` has made inconsistent (R77). -/
def Gtu.repair (k : Pos) (g : Gtu) : Gtu :=
  (((g.repairRivals k).repairHolders fun e => e.locked).repairHolders fun e => e.presence ≠ .present || e.faulted).settle

/-- Entry `k` is overwritten with a slice that passed R75, and the wait list brought into line with its rank (R76). -/
def Gtu.overwrite (k : Pos) (d : Entry) (g : Gtu) : Gtu :=
  (((g.setEntry k { d with role := (g.entry k).role }).placeAtRank k d.waitRank).settle).repair k

/-- The comparison stage of a learner's application (R74). -/
def Gtu.compareStage (blk : List Byte) (np : Nat) (v : Option (Fin 16 × BitVec 25)) (g : Gtu) : Gtu :=
  match v with
  | none => g
  | some (k, w) =>
    match g.compare k w with
    | .matching => g
    | .indexOnly => { g with sliceIndex := k }
    | .differs =>
      let g := { g with sliceIndex := k }
      match Entry.ofSlice (g.entry k).role w with
      | none => g
      | some d => if sliceOk blk np k d then g.overwrite k d else g

/-! ## (b) Presence (R64, R65, R85) -/

/-- Presence and run count after one applied record that read P[n] as `seen`, with loss threshold `limit`. A position that enters LOST has its
condition set to CLEAR and its faulted flag cleared. -/
def Entry.track (limit : Nat) (seen : Bool) (e : Entry) : Entry :=
  let lost := { e with presence := .lost, runCount := 0, condition := .clear, faulted := false }
  match e.role, e.presence, seen with
  | .empty, _, _ => e
  | _, .absent, _ => e
  | _, .present, true => { e with runCount := 0 }
  | _, .present, false => if e.runCount + 1 < limit then { e with runCount := e.runCount + 1 } else lost
  | _, .lost, true => { e with presence := .joining, runCount := 1 }
  | _, .lost, false => { e with runCount := 0 }
  | _, .joining, true =>
    if e.runCount + 1 < 3 then { e with runCount := e.runCount + 1 } else { e with presence := .present, runCount := 0 }
  | _, .joining, false => lost

/-- The effects of position `n` having entered LOST (R85): a primary's claim or cover is released; a backup's covers are revoked, and then every DROPPING of it
ends, those the revocation has just made among them. -/
def Gtu.applyLoss (g : Gtu) (n : Pos) : Gtu :=
  match (g.entry n).role with
  | .empty => g
  | .primary => g.release n
  | .backup => (g.revokeHolders n).endDroppings n

/-- The presence stage: every position first, then the losses in ascending order. -/
def Gtu.presenceStage (blk : List Byte) (r : EpochRecord) (g : Gtu) : Gtu :=
  let g1 := g.mapEntries fun n e => e.track (blockLossThreshold blk) (r.presence n)
  let lost := allPos.filter fun n => (g1.entry n).presence = .lost && (g.entry n).presence ≠ .lost
  (lost.foldl Gtu.applyLoss g1).settleFrom g

/-! ## (c) Fault (R67, R86) -/

/-- The faulted flag after a record that read X[n] as `x`. -/
def Entry.readFault (x : Bool) (e : Entry) : Entry :=
  match e.role, e.presence with
  | .empty, _ => e
  | _, .present | _, .joining => { e with faulted := x }
  | _, .lost | _, .absent => { e with faulted := false }

/-- The effects of position `n` standing faulted. -/
def Gtu.applyFault (g : Gtu) (n : Pos) : Gtu :=
  let e := g.entry n
  if e.faulted then
    match e.role with
    | .empty => g
    | .backup => g.revokeHolders n
    | .primary => if e.assignment = .yielding then g.revoke n else g
  else g

/-- The fault stage. -/
def Gtu.faultStage (r : EpochRecord) (g : Gtu) : Gtu :=
  (allPos.foldl Gtu.applyFault (g.mapEntries fun n e => e.readFault (r.fault n))).settleFrom g

/-! ## (d) Condition (R66, R87, R88) -/

/-- The condition after a record that read condition `c`: every record applied is read, with a silent PRESENT position too (R66, assumption 24). -/
def Entry.readCondition (c : Condition) (e : Entry) : Entry :=
  match e.role, e.presence with
  | .empty, _ => e
  | _, .present | _, .joining => { e with condition := c }
  | _, .lost | _, .absent => { e with condition := .clear }

/-- The class a condition that is not CLEAR claims. -/
def Condition.claim : Condition → Option Cls
  | .clear => none
  | .degraded => some .degrade
  | .failed => some .fail

/-- Class FAIL or DEGRADE. -/
def Cls.fromCondition (c : Cls) : Bool := c = .fail || c = .degrade

/-- What the condition of primary `p` makes of its class (the table of R87). The table has no row for DROPPING with class MANUAL or WAIT-RESTORE, which only a
learned slice can bring; the model leaves such a class unchanged (assumption 29). -/
def Gtu.applyCondition (blk : List Byte) (g : Gtu) (p : Pos) : Gtu :=
  let e := g.entry p
  if e.role ≠ .primary || e.presence ≠ .present || e.locked then g
  else
    match e.assignment with
    | .none =>
      if g.waiting p then
        if e.cls.fromCondition then
          match e.condition.claim with
          | none => g.clearPrimary p
          | some c => if c = e.cls then g else (g.setCls p c).arrive p
        else g
      else if e.cls = .none then
        match e.condition.claim with
        | none => g
        | some c => (g.setCls p c).arrive p
      else g
    | .yielding | .taking | .active =>
      if e.cls = .force then g
      else
        match e.condition.claim with
        | some c => g.setCls p c
        | none => if e.cls.fromCondition then g.setCls p (if blockRevertive blk then .waitRestore else .hold) else g
    | .dropping =>
      if e.cls.fromCondition || e.cls = .hold then
        match e.condition.claim with
        | some c => g.setCls p c
        | none => g.setCls p .hold
      else g

/-- The revocations of a PRESENT backup that reads FAILED (R88). -/
def Gtu.applyBackupFailed (g : Gtu) (b : Pos) : Gtu :=
  let e := g.entry b
  if e.role = .backup && e.presence = .present && e.condition = .failed then g.revokeHolders b else g

/-- The condition stage. -/
def Gtu.conditionStage (blk : List Byte) (r : EpochRecord) (g : Gtu) : Gtu :=
  let g1 := g.mapEntries fun n e => e.readCondition (r.condition n)
  (allPos.foldl Gtu.applyBackupFailed (allPos.foldl (Gtu.applyCondition blk) g1)).settleFrom g

/-! ## (e) Handshake (R93, R94) -/

/-- Primary `p` still holds the assignment and partner it held in `standing`, the table at the end of the comparison stage. -/
def Gtu.stands (standing g : Gtu) (p : Pos) : Bool :=
  (g.entry p).role = .primary && (g.entry p).assignment = (standing.entry p).assignment &&
    (g.entry p).partner = (standing.entry p).partner

/-- Pass 1: TAKING and DROPPING. -/
def Gtu.handshakeOne (standing : Gtu) (r : EpochRecord) (g : Gtu) (p : Pos) : Gtu :=
  let e := g.entry p
  match e.partner with
  | none => g
  | some b =>
    if g.stands standing p && !r.busy b then
      match e.assignment with
      | .taking => g.setCover p .active (some b) e.cls
      | .dropping => if (g.entry b).faulted then g else g.requeueOrClear p
      | .none | .yielding | .active => g
    else g

/-- Pass 2: YIELDING. -/
def Gtu.handshakeTwo (standing : Gtu) (r : EpochRecord) (g : Gtu) (p : Pos) : Gtu :=
  let e := g.entry p
  match e.partner with
  | none => g
  | some b =>
    if g.stands standing p && e.assignment = .yielding && !r.busy p && allPos.all fun q => !g.drops q b then
      g.setCover p .taking (some b) e.cls
    else g

/-- The handshake stage. -/
def Gtu.handshakeStage (standing : Gtu) (r : EpochRecord) (g : Gtu) : Gtu :=
  (allPos.foldl (Gtu.handshakeTwo standing r) (allPos.foldl (Gtu.handshakeOne standing r) g)).settleFrom g

/-! ## (f) Grant (R95 to R101) -/

/-- LOCKOUT granted to `p` (R96). -/
def Gtu.grantLockout (p : Pos) (g : Gtu) : Gtu × CmdOutcome :=
  let e := g.entry p
  match e.role with
  | .empty => (g, .noChange)
  | .primary => if e.locked then (g, .noChange) else ((g.setEntry p { e with locked := true }).release p, .accepted)
  | .backup => ((g.setEntry p { e with locked := true }).revokeHolders p, .accepted)

/-- UNLOCK granted to `p` (R97). -/
def Gtu.grantUnlock (p : Pos) (g : Gtu) : Gtu × CmdOutcome :=
  let e := g.entry p
  if !e.locked then (g, .noChange)
  else
    let g := g.setEntry p { e with locked := false }
    if e.role = .primary && e.presence = .present then
      match e.condition.claim, e.assignment with
      | some c, .none => ((g.setCls p c).arrive p, .accepted)
      | some c, .dropping => (if e.cls = .hold then g.setCls p c else g, .accepted)
      | _, _ => (g, .accepted)
    else (g, .accepted)

/-- FORCE granted to `p` (R98). -/
def Gtu.grantForce (blk : List Byte) (p : Pos) (g : Gtu) : Gtu × CmdOutcome :=
  let e := g.entry p
  if e.role = .backup then (g, .refusedRole)
  else if e.locked then (g, .refusedLocked)
  else if e.presence ≠ .present then (g, .noChange)
  else
    match e.assignment with
    | .yielding | .taking | .active => (g.setCls p .force, .accepted)
    | .dropping => (g.setCls p .force, .parked)
    | .none =>
      if g.waiting p then
        if e.cls = .force then (g, .accepted) else ((g.setCls p .force).arrive p, .accepted)
      else
        match g.choose blk p .force with
        | some b => (g.select p b .force, .accepted)
        | none => ((g.setCls p .force).arrive p, .parked)

/-- MANUAL granted to `p` (R99). -/
def Gtu.grantManual (blk : List Byte) (p : Pos) (g : Gtu) : Gtu × CmdOutcome :=
  let e := g.entry p
  if e.role = .backup then (g, .refusedRole)
  else if e.locked then (g, .refusedLocked)
  else if e.presence = .present && e.assignment = .none && !g.waiting p && e.cls = .none && e.condition = .clear then
    match g.choose blk p .manual with
    | some b => (g.select p b .manual, .accepted)
    | none => (g, .refusedNoBackup)
  else (g, .noChange)

/-- CLEAR granted to `p` (R100). -/
def Gtu.grantClear (p : Pos) (g : Gtu) : Gtu × CmdOutcome :=
  let e := g.entry p
  if e.role = .backup || !(e.cls = .force || e.cls = .manual || e.cls = .hold) || e.assignment = .dropping then (g, .noChange)
  else
    match e.condition.claim with
    | none => (g.release p, .accepted)
    | some c =>
      if g.waiting p && c ≠ e.cls then ((g.setCls p c).arrive p, .accepted) else (g.setCls p c, .accepted)

/-- RESTORE granted to `p` (R101). -/
def Gtu.grantRestore (p : Pos) (g : Gtu) : Gtu × CmdOutcome :=
  let e := g.entry p
  if e.role = .primary && e.cls = .waitRestore then (g.release p, .accepted) else (g, .stale)

/-- A grant applied to its requester's entry, with its outcome (R95). -/
def Gtu.applyGrant (blk : List Byte) (v : Request) (p : Pos) (g : Gtu) : Gtu × CmdOutcome :=
  if (g.entry p).role = .empty then (g, .noChange)
  else
    match v with
    | .lockout => g.grantLockout p
    | .force => g.grantForce blk p
    | .manual => g.grantManual blk p
    | .clear => g.grantClear p
    | .unlock => g.grantUnlock p
    | .restore => g.grantRestore p

/-- The grant stage. A record without a grant has outcome NO_CHANGE, which no report carries. -/
def Gtu.grantStage (blk : List Byte) (r : EpochRecord) (g : Gtu) : Gtu × CmdOutcome :=
  match r.grant with
  | none => (g, .noChange)
  | some (v, p) => ((g.applyGrant blk v p).1.settleFrom g, (g.applyGrant blk v p).2)

/-! ## (g) Service and (h) slice (R72, R102) -/

/-- The service stage. -/
def Gtu.serviceStage (blk : List Byte) (g : Gtu) : Gtu := (g.serve blk).settle

/-- The slice stage. -/
def Gtu.sliceStage (g : Gtu) : Gtu := { g with sliceIndex := g.sliceIndex + 1 }

/-- Stages (b) to (h), from the table at the end of the comparison stage, with the outcome of the grant (R81). -/
def Gtu.tableStages (blk : List Byte) (r : EpochRecord) (g : Gtu) : Gtu × CmdOutcome :=
  let granted :=
    (Gtu.handshakeStage g r (((g.presenceStage blk r).faultStage r).conditionStage blk r)).grantStage blk r
  ((granted.1.serviceStage blk).sliceStage, granted.2)

/-! ## Founding (R78) -/

/-- The founded value of a configured entry. -/
def foundedEntry (r : EpochRecord) (n : Pos) (role : Role) : Entry :=
  let e := Entry.cleared role
  if role ≠ .empty && r.presence n then
    { e with presence := .present, condition := r.condition n, faulted := r.fault n }
  else e

/-- The claim a founded primary forms, as an arrival. -/
def Gtu.foundClaim (g : Gtu) (p : Pos) : Gtu :=
  let e := g.entry p
  if e.role = .primary && e.presence = .present then
    match e.condition.claim with
    | none => g
    | some c => (g.setCls p c).arrive p
  else g

/-- The fresh table built from the founding record, with its claims formed and its wait list served. The requested state is left to the
reconciliation that follows. -/
def Gtu.found (blk : List Byte) (r : EpochRecord) (g : Gtu) : Gtu :=
  let fresh : Gtu :=
    { entries := tabulate fun n => foundedEntry r n (blockRole blk n), waitList := [], sliceIndex := 0, requested := g.requested }
  (allPos.foldl Gtu.foundClaim fresh).settle.serviceStage blk

end Sys2Proof.Machine
end

