-- ==== Sys2Proof/Machine/Participation.lean ====
section
/-! DEFINITION. The participation controller (Chapter 3) with what its moves and records set going: directives and reconciliation (R104, R105,
R148), the application of a record (R81, R103), and the delivery of a record (R45, R46). -/

namespace Sys2Proof.Machine

/-! ## Directives (R104, R105, R148) -/

/-- The desired state, from the own entry (R104). -/
def State.desired (s : State) : ActState :=
  let e := s.ownEntry
  match e.role with
  | .primary => if e.assignment = .none then .carrying else .yielded
  | .backup =>
    match e.assignment, e.partner with
    | .taking, some p | .active, some p => .taken p
    | _, _ => .idle
  | .empty => .idle

/-- The directives that bring requested state `req` to desired state `des` (R105). -/
def directivesFor (req des : ActState) : List Directive :=
  match req, des with
  | .carrying, .yielded => [.yield]
  | .yielded, .carrying | .released, .carrying => [.reclaim]
  | .idle, .taken p | .released, .taken p => [.take p]
  | .taken p, .idle => [.drop p]
  | .taken p, .taken q => if p = q then [] else [.drop p, .take q]
  | _, _ => []

/-- The requested state after the directives of R105: the desired state when any is offered, unchanged otherwise. -/
def requestedAfter (req des : ActState) : ActState := if directivesFor req des = [] then req else des

/-- Directives offered to AE, in order. -/
def State.offerAll (ds : List Directive) (s : State) : State := ds.foldl (fun s d => s.offer d) s

/-- The requested state replaced. -/
def State.setRequested (a : ActState) (s : State) : State := { s with gtu := { s.gtu with requested := a } }

/-- AE owes START: its sequence is in progress, or it is queued (R166). -/
def Ae.owesStart (a : Ae) : Bool := a.running = some .start || .start ∈ a.queue

/-- Nothing is asked of AE while it owes START, in a part that follows R166 there and not R148 and R105 (assumption 27). -/
def State.waitsForStart (s : State) : Bool := s.ae.owesStart && Config.comparisonWaitsForStart

/-- The comparison of R105, made once: the requested state is changed at the offer, whatever AE does with it. A comparison that waits for START (R166) asks
for nothing, and the first directive stage after START asks. -/
def State.directiveStage (s : State) : State :=
  if s.waitsForStart then s
  else (s.setRequested (requestedAfter s.gtu.requested s.desired)).offerAll (directivesFor s.gtu.requested s.desired)

/-- The directive WITHDRAW names for the own role (R56). -/
def State.withdrawDirective (s : State) : Directive := if s.ownRole = .backup then .releaseAll else .reclaim

/-- PC offers WITHDRAW (R56). -/
def State.offerWithdraw (s : State) : State := s.offer s.withdrawDirective

/-- The last directive AE owes: while it owes work, the newest queued one, or the running one when the queue is empty (R148). -/
def Ae.lastOwed (a : Ae) : Option Directive :=
  if a.engine.moving || a.engine = .held && a.queue ≠ [] then
    match a.queue.getLast? with
    | some d => some d
    | none => a.running
  else none

/-- The engine's outcome state (R148). -/
def Ae.outcomeState (a : Ae) : ActState :=
  match a.lastOwed with
  | some d => d.target
  | none => a.actuated

/-- The requested state is set to the outcome state; UNKNOWN is brought to RELEASED first (R148). -/
def State.realign (s : State) : State :=
  if s.ae.outcomeState = .unknown then (s.setRequested .released).offer .releaseAll else s.setRequested s.ae.outcomeState

/-- GTU reconciles (R148). In IN_STEP the comparison is made once at this event, but that it may wait for a START still owed (R166, assumption 27). -/
def State.reconcile (s : State) : State :=
  match s.participation with
  | .inStep => s.realign.directiveStage
  | .learning => s.realign
  | .listening | .isolated | .conflict => if s.ae.outcomeState = s.withdrawDirective.target then s else s.offerWithdraw
  | .reset | .loading | .unconfigured => s.setRequested .released

/-! ## Moves (R44, R52 to R56) -/

/-- The participation state replaced, with PART raised (R59). -/
def State.moveTo (p : Participation) (s : State) : State := ({ s with pc := { s.pc with participation := p } }).raise .part

/-- The participation cause replaced. -/
def State.setCause (c : Cause) (s : State) : State := { s with pc := { s.pc with cause := c } }

/-- The receiver leaves OFF when PC enters LISTENING, by the level of the line (R20). -/
def Vbi.leaveOff (v : Vbi) : Vbi :=
  if v.receiver = .off then { v with receiver := if v.lineLow then .blocked else .seeking } else v

/-- Entry to LISTENING from any state, without PART: counters, history, epoch timer and receiver (R20, R22, R44). -/
def State.enterListening (s : State) : State :=
  { s with
    pc := { s.pc with participation := .listening, cleanCount := 0, verifyCount := 0, noNarratorCount := 0, syncHistory := [] }
    vbi :=
      { s.vbi.leaveOff with
          epochTimer := if s.participation.timed then s.vbi.epochTimer else some (s.now + entryPeriod) } }

/-- GTU puts its table in the cleared condition with the roles of the block, and notifies CU when WAIT-RESTORE is left by it (R60, R80). -/
def State.clearTable (s : State) : State :=
  let before := s.ownEntry.cls
  ({ s with gtu := Gtu.cleared (blockRole s.area) }).notifyWaitRestore before

/-- The leaving actions of a move from LEARNING or IN_STEP to `dest` (R55). -/
def State.leave (dest : Participation) (s : State) : State :=
  ((s.abandonCommands).captureIfArmed .leave dest true).clearTable

/-- The leaving actions, where the state left is LEARNING or IN_STEP. -/
def State.leaveGroup (dest : Participation) (s : State) : State := if s.participation.inGroup then s.leave dest else s

/-- The move to ISOLATED or CONFLICT: leaving actions, cause, epoch timer stopped, WITHDRAW (R22, R47, R48, R50, R51, R54). -/
def State.setApart (dest : Participation) (c : Cause) (s : State) : State :=
  let t := ((s.leaveGroup dest).moveTo dest).setCause c
  ({ t with vbi := { t.vbi with epochTimer := none } }).offerWithdraw

/-- Sync loss: LISTENING with cause SYNC (R49). -/
def State.syncLoss (s : State) : State :=
  (((s.leaveGroup .listening).enterListening.raise .part).setCause .sync).offerWithdraw

/-- The verify and no-narrator counters set to 0. -/
def State.zeroLearning (s : State) : State := { s with pc := { s.pc with verifyCount := 0, noNarratorCount := 0 } }

/-- The fall from IN_STEP to LEARNING, which is not a leave (R54). -/
def State.fall (c : Cause) (s : State) : State := ((s.zeroLearning.moveTo .learning).setCause c).settleCommands

/-- The move to IN_STEP, without its reconciliation (R52, R53, R119). -/
def State.joinStep (s : State) : State := (s.zeroLearning.moveTo .inStep).settleCommands

/-! ## Application of a record (R81, R103) -/

/-- The own entry's assignment, partner or class differs from what it was. -/
def coverDiffers (a b : Entry) : Bool := a.assignment ≠ b.assignment || a.partner ≠ b.partner || a.cls ≠ b.cls

/-- WAIT-RESTORE and OWNCOVER, from the own entry as it was (R103). -/
def State.notifyOwn (before : Entry) (s : State) : State :=
  (s.notifyWaitRestore before.cls).raiseIf (coverDiffers before s.ownEntry) .owncover

/-- The notification stage (R103). -/
def State.notificationStage (r : EpochRecord) (o : CmdOutcome) (before : Entry) (s : State) : State :=
  (if r.ownWin then s.reportWin o else s).notifyOwn before

/-- The table after stages (a) to (h), and the outcome of the grant. -/
def State.applyTable (full : Bool) (r : EpochRecord) (s : State) : Gtu × CmdOutcome :=
  let np := match s.sl.config with | none => 0 | some c => c.primaries
  let g := if full then s.gtu else s.gtu.compareStage s.area np r.mirrorValue
  g.tableStages s.area r

/-- A record is applied in full, or as a learner's record (R81). -/
def State.applyRecord (full : Bool) (r : EpochRecord) (s : State) : State :=
  let go := s.applyTable full r
  let t := { s with gtu := go.1 }
  let t := if full then t.directiveStage else t
  (t.notificationStage r go.2 s.ownEntry).captureIfArmed .record (if full then .inStep else .learning) false

/-- Founding: the fresh table in place of an application, its notifications, IN_STEP, an armed snapshot, reconciliation (R53, R78, R103). -/
def State.found (r : EpochRecord) (s : State) : State :=
  ((({ s with gtu := s.gtu.found s.area r }).notifyOwn s.ownEntry).joinStep.captureIfArmed .founding .inStep false).reconcile

/-! ## Judgement (R45 to R54) -/

/-- The own config digest. -/
def State.ownDigest (s : State) : BitVec 8 := match s.sl.config with | none => 0#8 | some c => c.digest

/-- The record is FRAMED. -/
def EpochRecord.framed (r : EpochRecord) : Bool := !r.faults.any

/-- Some own status cell reads dominant that the station did not write dominant (R48). -/
def EpochRecord.foreign (r : EpochRecord) (p : Pos) : Bool :=
  [0, 16, 32, 48, 64].any fun f => cellAt r.cells (f + p.val) && !cellAt r.wrote (f + p.val)

/-- The depth of the sync history. -/
def historyDepth : Nat := 8

/-- The record's verdict entered in the sync history as the newest, the oldest dropped beyond 8 (R49). -/
def State.enterHistory (r : EpochRecord) (s : State) : State :=
  { s with pc := { s.pc with syncHistory := (r.faults.any :: s.pc.syncHistory).take historyDepth } }

/-- How many verdicts of the sync history are FAULTED. -/
def State.faultedVerdicts (s : State) : Nat := (s.pc.syncHistory.filter id).length

/-- LISTENING (R50). -/
def State.judgeListening (r : EpochRecord) (s : State) : State :=
  if !r.framed || r.presence s.sl.ownPos then { s with pc := { s.pc with cleanCount := 0 } }
  else
    let t := { s with pc := { s.pc with cleanCount := s.pc.cleanCount + 1 } }
    if t.pc.cleanCount < 8 then t
    else if r.digestVerdict = .noNarrator || (r.digestVerdict = .consistent && r.digestTrue = s.ownDigest) then
      t.zeroLearning.moveTo .learning
    else t.setApart .isolated .config

/-- The counters after a learner's mirror (the table of R51): the verify counter and the no-narrator counter. -/
def learnCounters (v : Verdict) (c : Option Comparison) (verify noNarrator : Nat) : Nat × Nat :=
  match v, c with
  | .consistent, some .matching => (verify + 1, 0)
  | .consistent, _ => (0, 0)
  | .noNarrator, _ => (0, noNarrator + 1)
  | .disagreement, _ => (0, 0)
  | .mixed, _ => (0, 0)

/-- LEARNING (R51 to R53). -/
def State.judgeLearning (r : EpochRecord) (s : State) : State :=
  if !r.framed then s.zeroLearning
  else if r.digestVerdict = .consistent && r.digestTrue ≠ s.ownDigest then s.setApart .isolated .config
  else
    let cmp := r.mirrorValue.map fun kw => s.gtu.compare kw.1 kw.2
    let n := learnCounters r.mirrorVerdict cmp s.pc.verifyCount s.pc.noNarratorCount
    let t := { s with pc := { s.pc with verifyCount := n.1, noNarratorCount := n.2 } }
    if 16 ≤ n.2 then t.found r
    else
      let t := t.applyRecord false r
      if 16 ≤ n.1 then t.joinStep.reconcile else t

/-- IN_STEP (R54). Read-back compares what the station wrote, which is nothing unless IN_STEP was latched. -/
def State.judgeInStep (r : EpochRecord) (s : State) : State :=
  if !r.framed then s.fall .missed
  else if r.own.participation = .inStep && r.digestTrue ≠ r.own.digest then s.setApart .isolated .config
  else if r.own.participation = .inStep && r.mirrorTrue ≠ r.own.mirror then (s.fall .split).applyRecord false r
  else s.applyRecord true r

/-- The judgement of a record and GTU's work on it, in LISTENING, LEARNING or IN_STEP (R45, R46). -/
def State.judge (r : EpochRecord) (s : State) : State :=
  if r.driveFault then s.setApart .isolated .drive
  else if r.foreign s.sl.ownPos then s.setApart .conflict .position
  else
    let t := s.enterHistory r
    if t.participation.inGroup && 3 ≤ t.faultedVerdicts then t.syncLoss
    else
      match t.participation with
      | .listening => t.judgeListening r
      | .learning => t.judgeLearning r
      | .inStep => t.judgeInStep r
      | .reset | .loading | .unconfigured | .isolated | .conflict => t

/-- The last view a record gives (R59). -/
def EpochRecord.view (r : EpochRecord) : LastView :=
  { presence := tabulate fun n => r.presence n, digestVerdict := r.digestVerdict, digestValue := r.digestValue,
    mirrorVerdict := r.mirrorVerdict, faulted := r.faults.any }

/-- A record is delivered to PC and GTU (R36): the last view, the judgement and application, and the head count (R59, R45, R125). The head is counted after
the judgement: R125 and R127 do not order the count and a leaving move of the same record, and the model has the move first, so that a head it makes
ABANDONED is not counted (assumption 23). -/
def State.deliver (r : EpochRecord) (s : State) : State :=
  if s.participation.receiving then
    let t := { s with pc := { s.pc with lastView := some r.view } }
    if s.participation.timed then
      let u := t.judge r
      if s.participation.inGroup then u.countHead s.cu.headTag else u
    else t
  else s

end Sys2Proof.Machine
end

