-- ==== Sys2Proof/Machine/Bus.lean ====
section
/-! DEFINITION. The vote bus interface (Chapter 2): the line and its stretches, markers and the epoch timer, the outgoing record, the cells of an
epoch, and the epoch record it delivers. -/

namespace Sys2Proof.Machine

/-! ## The epoch record (R30, R31, R36) -/

/-- The grant decoded from the request cells (R30). -/
def decodeGrant (cells : List Bool) : Option (Request × Pos) :=
  (Request.ofCode (cellField cells requestField 3)).map fun v => (v, Fin.ofNat 16 (cellField cells (requestField + 3) 4))

/-- The read word of the request field is invalid: value 6, or value 7 with a position other than 15 (R30). -/
def requestInvalid (cells : List Bool) : Bool :=
  let v := cellField cells requestField 3
  v = 6 || (v = 7 && cellField cells (requestField + 3) 4 ≠ 15)

/-- The value of the mirror field: slice index and slice (R31). -/
def mirrorValueOf (cells : List Bool) : Fin 16 × BitVec 25 :=
  (Fin.ofNat 16 (cellField cells mirrorField 4), BitVec.ofNat 25 (cellField cells (mirrorField + 4) 25))

/-- The record of cells `cells` written as `wrote`, with the faults, drive fault and contention given and `own` the latched record. A record
with any framing fault carries no grant, no own win, no digest value and no mirror value (R30, R33). -/
def recordOf (cells wrote : List Bool) (faults : FramingFaults) (driveFault : Bool) (c : Contention) (own : Outgoing) : EpochRecord :=
  let framed := !faults.any
  { faults := faults, driveFault := driveFault, cells := cells, wrote := wrote,
    grant := if framed then decodeGrant cells else none,
    ownWin := framed && c = .contending,
    digestVerdict := digestVerdict cells,
    digestValue := if framed && digestVerdict cells = .consistent then some (BitVec.ofNat 8 (cellField cells digestField 8)) else none,
    digestTrue := BitVec.ofNat 8 (cellField cells digestField 8),
    mirrorVerdict := mirrorVerdict cells,
    mirrorValue := if framed && mirrorVerdict cells = .consistent then some (mirrorValueOf cells) else none,
    mirrorTrue := BitVec.ofNat 29 (cellField cells mirrorField 29),
    own := own }

/-- The record of the epoch in progress, with the faults given. -/
def Vbi.record (v : Vbi) (faults : FramingFaults) : EpochRecord :=
  recordOf v.epoch.cells v.epoch.wrote faults v.epoch.driveFault v.epoch.contention v.outgoing

/-- A record with every field read recessive and nothing written (R24, R33), with the outgoing record last latched. Of a LINE HELD record R23, R33 and R36 state
neither the fields nor the own record; the model gives it the same ones (assumption 26). -/
def Vbi.emptyRecord (v : Vbi) (faults : FramingFaults) (driveFault : Bool) : EpochRecord :=
  recordOf [] [] faults driveFault .none v.outgoing

/-- The VBI replaced. -/
def State.setVbi (v : Vbi) (s : State) : State := { s with vbi := v }

/-! ## The latch (R27, R122) -/

/-- The outgoing record the blocks give at this instant. -/
def State.outgoingNow (s : State) : Outgoing :=
  { participation := s.participation, condition := s.cm.own, owesWork := 0 < s.ae.debt, engineOut := s.ae.engine.out,
    request := s.contention.1, digest := s.ownDigest,
    mirror := mirrorBits s.gtu.sliceIndex (s.gtu.entry s.gtu.sliceIndex).slice }

/-- The outgoing record is latched, and CU records what it offers. -/
def State.latch (s : State) : State :=
  { s with vbi := { s.vbi with outgoing := s.outgoingNow }, cu := { s.cu with offered := s.contention.2 } }

/-- The station is a contender for the epoch that begins with its latched record (R29). -/
def Outgoing.contention (o : Outgoing) : Contention :=
  if o.participation = .inStep && o.request.isSome then .contending else .none

/-- A drive of the station's own marker has been heard (R24). -/
def Driver.heard : Driver → Driver
  | .marker t _ => .marker t true
  | .released => .released
  | .cell t => .cell t

/-- The new epoch begins at a marker start with the latched record: receiver, timer from the marker edge, cells (R19, R22). -/
def State.epochBegins (s : State) : State :=
  s.setVbi
    { s.vbi with
        receiver := .inMarker, driver := s.vbi.driver.heard,
        epochTimer := if s.participation.timed then some (s.vbi.lowSince + epochPeriod) else s.vbi.epochTimer,
        epoch := Epoch.fresh s.vbi.outgoing.contention }

/-- An early marker (R34): the epoch in progress is abandoned and its record `r` delivered, before or after the latch as the part chooses (R46). -/
def State.earlyMarker (latchFirst : Bool) (r : EpochRecord) (s : State) : State :=
  if latchFirst then s.latch.epochBegins.deliver r else (s.deliver r).latch.epochBegins

/-- A free choice has been taken. -/
def State.chosen (s : State) : State := { s with choices := s.choices + 1 }

/-! ## Writing cells (R25 to R29, R184) -/

/-- Both the latched and the present participation state permit the status fields (R28). -/
def State.mayWriteStatus (s : State) : Bool := s.vbi.outgoing.participation.inGroup && s.participation.inGroup

/-- Both the latched and the present participation state permit the request, digest and mirror fields (R28). -/
def State.mayWriteGroup (s : State) : Bool := s.vbi.outgoing.participation = .inStep && s.participation = .inStep

/-- The own status cell of field `f`, 0 presence to 4 fault, is called for dominant by the latched record (R25). -/
def Outgoing.statusCell (o : Outgoing) (f : Nat) : Bool :=
  match f with
  | 0 => true
  | 1 => o.condition = .failed
  | 2 => o.condition = .degraded
  | 3 => o.participation = .learning || o.owesWork
  | 4 => o.engineOut
  | _ => false

/-- Cell `k` is called for dominant by the latched record of the station at `n`, were every field permitted (R25, R26, R29, R184). -/
def Outgoing.dominantAt (o : Outgoing) (n : Pos) (c : Contention) (k : Nat) : Bool :=
  if k < requestField then k % 16 = n.val && o.statusCell (k / 16)
  else if k < digestField then
    match o.request with
    | none => false
    | some w => c = .contending && !w.getMsbD (k - requestField)
  else if k < digestComplement then !o.digest.getMsbD (k - digestField)
  else if k < mirrorField then o.digest.getMsbD (k - digestComplement)
  else if k < mirrorComplement then !o.mirror.getMsbD (k - mirrorField)
  else if k < quietField then o.mirror.getMsbD (k - mirrorComplement)
  else false

/-- Cell `k` is written dominant (R28). -/
def State.writesDominant (s : State) (k : Nat) : Bool :=
  (if k < requestField then s.mayWriteStatus else s.mayWriteGroup) &&
    s.vbi.outgoing.dominantAt s.sl.ownPos s.vbi.epoch.contention k

/-- Cell `k` is a request cell. -/
def inRequestField (k : Nat) : Bool := requestField ≤ k && k < digestField

/-- The contention as cell `k` begins: a station not permitted the request field is no contender (R28, R29). -/
def State.contentionAt (s : State) (k : Nat) : Contention :=
  if inRequestField k && !s.mayWriteGroup then .none else s.vbi.epoch.contention

/-! ## Sampling cells (R18, R29 to R31, R33, R35) -/

/-- The framing faults found when cell `k` has been read as the last of `cells` (R30, R31, R33). -/
def faultsAt (cells : List Bool) (k : Nat) (f : FramingFaults) : FramingFaults :=
  { f with
      request := f.request || (k + 1 = digestField && requestInvalid cells),
      digest := f.digest || (k + 1 = mirrorField && digestVerdict cells = .mixed),
      mirror := f.mirror || (k + 1 = quietField && mirrorVerdict cells = .mixed),
      quiet := f.quiet || (quietField ≤ k && cellAt cells k) }

/-- The epoch after cell `k`, written as `wrote`, has been read as `reading`. -/
def Epoch.sampled (e : Epoch) (k : Nat) (wrote reading : Bool) : Epoch :=
  let cells := e.cells ++ [reading]
  { e with
      cells := cells,
      contention := if inRequestField k && e.contention = .contending && !wrote && reading then .lost else e.contention,
      driveFault := e.driveFault || (wrote && !reading),
      faults := faultsAt cells k e.faults }

/-! ## Events of the line -/

/-- The line rises; a BLOCKED receiver goes to SEEKING (R20). -/
def Vbi.rises (v : Vbi) : Vbi :=
  { v with lineLow := false, receiver := if v.receiver = .blocked then .seeking else v.receiver }

/-- LOW_STRETCH_BEGIN (R19): a falling edge of the line. -/
def execLowStretchBegin (s : State) : Host.Outcome State Fault Refusal :=
  if s.vbi.lineLow then .next s else .next (s.setVbi { s.vbi with lineLow := true, lowSince := s.now })

/-- SHORT_STRETCH_END (R19): a low stretch ends that was not recognised as a marker. A recognised one ends with MARKER_END. -/
def execShortStretchEnd (s : State) : Host.Outcome State Fault Refusal :=
  if s.vbi.lineLow && s.vbi.receiver ≠ .inMarker then .next (s.setVbi s.vbi.rises) else .next s

/-- LINE_RELEASED (R20): the line goes high while BLOCKED. While OFF the receiver takes no stretch for anything, and the line may rise. -/
def execLineReleased (s : State) : Host.Outcome State Fault Refusal :=
  if s.vbi.lineLow && (s.vbi.receiver = .blocked || s.vbi.receiver = .off) then .next (s.setVbi s.vbi.rises) else .next s

/-- The receiver states in which a low stretch that reaches 20 µs is a marker (R20). -/
def Receiver.takesMarker : Receiver → Bool
  | .seeking | .inCells | .resting => true
  | .off | .inMarker | .blocked => false

/-- MARKER_START (R19, R27, R34): a low stretch has lasted 20 µs. -/
def execMarkerStart (s : State) : Host.Outcome State Fault Refusal :=
  if s.vbi.lineLow && s.vbi.receiver.takesMarker then
    let t := s.advanceTo (s.vbi.lowSince + markerRecognition)
    if s.vbi.receiver = .inCells then
      .next (t.earlyMarker (Config.earlyMarkerLatchesFirst s.choices)
        (s.vbi.record { s.vbi.epoch.faults with earlyMarker := true })).chosen
    else .next t.latch.epochBegins
  else .next s

/-- MARKER_END (R19, R21): the rising edge of a recognised stretch, from which the cells are timed. -/
def execMarkerEnd (s : State) : Host.Outcome State Fault Refusal :=
  if s.vbi.receiver = .inMarker then
    .next (s.setVbi { s.vbi with receiver := .inCells, lineLow := false, markerEnd := s.now })
  else .next s

/-- LONG_MARKER (R33): a recognised stretch has lasted 80 µs. -/
def execLongMarker (s : State) : Host.Outcome State Fault Refusal :=
  if s.vbi.receiver = .inMarker then
    let t := s.advanceTo (s.vbi.lowSince + longMarkerTime)
    .next ((t.setVbi { s.vbi with receiver := .blocked, epoch := Epoch.fresh .none }).deliver
      (s.vbi.emptyRecord { longMarker := true } false))
  else .next s

/-! ## Events of the epoch timer and of the station's own marker (R22 to R24) -/

/-- EPOCH_TIMER_EXPIRY (R23; the content of a LINE HELD record: assumption 26). An expiry does not fall in IN_MARKER or IN_CELLS, and in OFF the timer does not run. -/
def execEpochTimerExpiry (s : State) : Host.Outcome State Fault Refusal :=
  match s.vbi.epochTimer with
  | none => .next s
  | some due =>
    let t := s.advanceTo due
    match s.vbi.receiver with
    | .seeking | .resting => .next (t.setVbi { s.vbi with driver := .marker t.now false, epochTimer := none })
    | .blocked =>
      .next ((t.setVbi { s.vbi with epochTimer := some (t.now + epochPeriod) }).deliver
        (s.vbi.emptyRecord { lineHeld := true } false))
    | .off | .inMarker | .inCells => .next s

/-- UNHEARD_MARKER (R24): 20 µs of own driving without a recognised marker. -/
def execUnheardMarker (s : State) : Host.Outcome State Fault Refusal :=
  match s.vbi.driver with
  | .marker since false =>
    let t := s.advanceTo (since + markerRecognition)
    .next ((t.setVbi
        { s.vbi with
            driver := .released,
            epochTimer := if s.participation.timed then some (since + epochPeriod) else s.vbi.epochTimer }).deliver
      (s.vbi.emptyRecord { unheardMarker := true } true))
  | .marker _ true | .released | .cell _ => .next s

/-- MARKER_DRIVE_RELEASE (R19, R23): the 40 µs of the station's own marker are over. -/
def execMarkerDriveRelease (s : State) : Host.Outcome State Fault Refusal :=
  match s.vbi.driver with
  | .marker since _ => .next ((s.advanceTo (since + markerDrive)).setVbi { s.vbi with driver := .released })
  | .released | .cell _ => .next s

/-! ## Events of the cells (R18, R21) -/

/-- A cell is due to begin: cells are timed, none is in progress, and cell 167 has not been read. -/
def Vbi.cellDue (v : Vbi) : Bool :=
  v.receiver = .inCells && v.epoch.wrote.length = v.epoch.cells.length && v.epoch.cells.length < cellCount

/-- CELL_BEGIN (R18, R21, R28): the next cell begins and is written. The driver goes over to the cell in every case: should the station's own marker drive
still run at a marker end, which takes a failed driver, R23 and R18 do not say which of the two drives stands, and the model has the cell's (assumption 22). -/
def execCellBegin (s : State) : Host.Outcome State Fault Refusal :=
  if s.vbi.cellDue then
    let k := s.vbi.epoch.wrote.length
    let t := s.advanceTo (s.vbi.markerEnd + cellTime * k)
    let d := s.writesDominant k
    .next (t.setVbi
      { s.vbi with
          driver := if d then .cell t.now else .released,
          epoch := { s.vbi.epoch with wrote := s.vbi.epoch.wrote ++ [d], contention := s.contentionAt k } })
  else .next s

/-- A cell is in progress and has not been read. -/
def Vbi.sampleDue (v : Vbi) : Bool := v.receiver = .inCells && v.epoch.wrote.length = v.epoch.cells.length + 1

/-- CELL_SAMPLE (R18): the cell in progress is read from the line. -/
def execCellSample (s : State) : Host.Outcome State Fault Refusal :=
  if s.vbi.sampleDue then
    let k := s.vbi.epoch.cells.length
    .next ((s.advanceTo (s.vbi.markerEnd + cellTime * k + sampleOffset)).setVbi
      { s.vbi with epoch := s.vbi.epoch.sampled k (cellAt s.vbi.epoch.wrote k) s.vbi.lineLow })
  else .next s

/-- DOMINANT_CELL_RELEASE (R18): 3.5 µs into a cell written dominant the driver releases the line. -/
def execDominantCellRelease (s : State) : Host.Outcome State Fault Refusal :=
  match s.vbi.driver with
  | .cell since => .next ((s.advanceTo (since + dominantTime)).setVbi { s.vbi with driver := .released })
  | .released | .marker _ _ => .next s

/-- The epoch has run to the end of cell 167. -/
def Vbi.closes (v : Vbi) : Bool := v.receiver = .inCells && v.epoch.cells.length = cellCount

/-- The faults of the record that closes, with the line checked high (R21, R33). -/
def Vbi.closingFaults (v : Vbi) : FramingFaults := { v.epoch.faults with quiet := v.epoch.faults.quiet || v.lineLow }

/-- RECORD_DELIVERY (R21, R36): the record closes at the end of cell 167 and is delivered. -/
def execRecordDelivery (s : State) : Host.Outcome State Fault Refusal :=
  if s.vbi.closes then
    let t := s.advanceTo (s.vbi.markerEnd + cellTime * cellCount)
    .next ((t.setVbi { s.vbi with receiver := .resting, epoch := Epoch.fresh .none }).deliver
      (s.vbi.record s.vbi.closingFaults))
  else .next s

end Sys2Proof.Machine
end

