-- ==== Sys2Proof/Machine/Frame.lean ====
section
/-! DEFINITION. The SPI frame in progress (R169 to R171): what a data byte written or read does to its address, and the addresses of the
register window (R186). -/

namespace Sys2Proof.Machine

/-! ## Addresses (R186) -/

def ctrlAddress : BitVec 7 := 0x01#7
def cmdsubAddress : BitVec 7 := 0x02#7
def cmdackAddress : BitVec 7 := 0x03#7
def istatAddress : BitVec 7 := 0x04#7
def ienAddress : BitVec 7 := 0x05#7
def snapdataAddress : BitVec 7 := 0x08#7

/-- The address of a pointer register. -/
def pointerAddress : PointerReg → BitVec 7
  | .snapPtr => 0x07#7
  | .cfgPtr => 0x09#7
  | .stepPtrHigh => 0x0B#7
  | .stepPtrLow => 0x0C#7

/-- The address of a window's data register. -/
def stagingAddress : StagingWindow → BitVec 7
  | .config => 0x0A#7
  | .step => 0x0D#7

/-- The first address of a group. -/
def groupAddress : Group → BitVec 7
  | .pstat => 0x10#7
  | .ostat => 0x30#7
  | .cmdtab => 0x50#7

/-- The number of bytes of a group. -/
def groupSize : Group → Nat
  | .pstat => 18
  | .ostat => 29
  | .cmdtab => 13

/-- The address is that of a window data register, where it stays after a data byte (R169). -/
def windowAddress (a : BitVec 7) : Bool :=
  a = snapdataAddress || a = stagingAddress .config || a = stagingAddress .step

/-- The address after a data byte at `a`: the next one, 127 followed by 0, except at a window data register (R169). -/
def addressAfter (a : BitVec 7) : BitVec 7 := if windowAddress a then a else a + 1

/-! ## Data bytes -/

/-- The frame after a data byte written at `a`; only a write frame takes one. -/
def Frame.wrote (a : BitVec 7) (f : Frame) : Frame := if f.write then { f with address := addressAfter a } else f

/-- A data byte has been written at `a`: the address of the frame in progress goes on. -/
def Mp.wrote (a : BitVec 7) (m : Mp) : Mp := { m with frame := m.frame.map (Frame.wrote a) }

/-- The port replaced. -/
def State.setMp (m : Mp) (s : State) : State := { s with mp := m }

/-- A data byte has been written at `a`. -/
def State.wrote (a : BitVec 7) (s : State) : State := s.setMp (s.mp.wrote a)

/-- A data byte can be written at `a`: the port is served, and the frame in progress is a write frame that stands at `a`. With no frame in progress the
command is a whole frame of its own (assumption 7). -/
def State.takesWrite (a : BitVec 7) (s : State) : Bool :=
  s.portServed && match s.mp.frame with | none => true | some f => f.write && f.address = a

/-- A write of a data byte at `a` with effect `f`; where none can be written there, nothing happens (R169, R171). -/
def State.portWrite (a : BitVec 7) (f : State → State) (s : State) : State := if s.takesWrite a then (f s).wrote a else s

end Sys2Proof.Machine
end

