-- ==== Sys2Proof/Machine/Loader.lean ====
section
/-! DEFINITION. The start-up loader (Chapter 9): the EEPROM read, the checks of an image and of the staging, the defaults of a short image, and
the freeze. -/

namespace Sys2Proof.Machine

/-! ## Check sums (R17, R159) -/

/-- One left shift of a CRC register with the generator's low bits `g`. -/
def crcShift {w : Nat} (g r : BitVec w) : BitVec w := if r.msb then (r <<< 1) ^^^ g else r <<< 1

/-- Eight left shifts. -/
def crcShift8 {w : Nat} (g r : BitVec w) : BitVec w :=
  crcShift g (crcShift g (crcShift g (crcShift g (crcShift g (crcShift g (crcShift g (crcShift g r)))))))

/-- The CRC-8 of a list of bytes (R17). -/
def crc8 (l : List Byte) : BitVec 8 := l.foldl (fun r b => crcShift8 0x07#8 (r ^^^ b)) 0x00#8

/-- The CRC-16 of a list of bytes (R159). -/
def crc16 (l : List Byte) : BitVec 16 :=
  l.foldl (fun r b => crcShift8 0x1021#16 (r ^^^ (BitVec.zeroExtend 16 b <<< 8))) 0xFFFF#16

/-! ## Validity of the group configuration block (R3, R16) -/

/-- The length of the group configuration block. -/
def blockLength : Nat := 24

/-- Position `n` meets the PAIRED partner checks: a backup and the primary it names name each other, a primary that names a partner and that
backup name each other, and an EMPTY position names none (R3, R16, assumption 9). -/
def pairedOk (a : List Byte) (n : Pos) : Bool :=
  match blockRole a n, blockPartner a n with
  | .backup, some q => blockRole a q = .primary && blockPartner a q = some n
  | .backup, none => false
  | .primary, some q => blockRole a q = .backup && blockPartner a q = some n
  | .primary, none => true
  | .empty, some _ => false
  | .empty, none => true

/-- The block at the head of area `a` passes every check of R16 for a station at `own`. -/
def blockValid (own : Pos) (a : List Byte) : Bool :=
  (blockRoleCode a own = 1 || blockRoleCode a own = 2) &&
    (allPos.all fun n => blockRoleCode a n ≠ 3) &&
    (allPos.any fun n => blockRoleCode a n = 1) &&
    (allPos.any fun n => blockRoleCode a n = 2) &&
    (blockPooled a || allPos.all (pairedOk a)) &&
    blockWtr a ≤ 1023 && 4 ≤ blockLossThreshold a && blockLossThreshold a ≤ 16

/-! ## Validity of the directory and the step records (R160) -/

/-- The number of directory entries. -/
def directoryLength : Nat := 36

/-- The length of a step record. -/
def recordLength : Nat := 8

/-- The capacity of step memory (R139). -/
def stepCapacity : Nat := 256

/-- A directory byte is 0xFF or lies below the step count. -/
def directoryByteOk (count : Nat) (b : Byte) : Bool := b = directoryNone || b.toNat < count

/-- A step record passes the record checks for a step count. -/
def StepRecord.valid (count : Nat) (r : StepRecord) : Bool :=
  r.nextIndex.toNat < count && r.fallbackIndex.toNat < count &&
    match r.kind with
    | some .drive | some .release => r.first16 < 2 ^ 12
    | some .dwell => 1 ≤ r.duration
    | some .await => 1 ≤ r.timeout && r.retryTarget.toNat < count
    | none => false

/-- The directory and the records pass the checks for a step count. -/
def stepsValid (directory : List Byte) (count : Nat) (steps : List StepRecord) : Bool :=
  count ≤ stepCapacity && directory.all (directoryByteOk count) && steps.all (StepRecord.valid count)

/-! ## Defaults (R161, R185) -/

/-- The built-in step records: assert TXEN, release TXEN, release all twelve outputs. -/
def defaultSteps : List StepRecord :=
  [⟨0x10#8, 0x00#8, 0x00#8, 0x00#8, 0x01#8, 0x00#8, 0x00#8, 0x00#8⟩,
   ⟨0x30#8, 0x00#8, 0x00#8, 0x00#8, 0x01#8, 0x00#8, 0x00#8, 0x00#8⟩,
   ⟨0x30#8, 0x00#8, 0x00#8, 0x00#8, 0x0F#8, 0xFF#8, 0x00#8, 0x00#8⟩]

/-- The built-in directory: TAKE 0, DROP and YIELD 1, RECLAIM 0, RELEASE-ALL and START 2. -/
def defaultDirectory : List Byte :=
  List.replicate 16 0x00#8 ++ List.replicate 17 0x01#8 ++ [0x00#8, 0x02#8, 0x02#8]

/-! ## The freeze (R162) -/

/-- How many positions of an area are primaries. -/
def primariesOf (a : List Byte) : Nat := (allPos.filter fun n => blockRole a n = .primary).length

/-- What is put in force and held with it. -/
def frozenOf (a directory : List Byte) (steps : List StepRecord) : Frozen :=
  { area := a, directory := directory, steps := steps, digest := crc8 (a.take blockLength), primaries := primariesOf a }

/-- SL's part of the freeze. -/
def Sl.freeze (src : LoadSource) (f : Frozen) (l : Sl) : Sl :=
  { l with loadState := .frozen, loadCause := .none, loadSource := src, phase := .ended, image := [], config := some f }

/-- GTU's table cleared with the roles of the block (R60). -/
def State.takeRoles (a : List Byte) (s : State) : State := { s with gtu := Gtu.cleared (blockRole a) }

/-- The freeze, in the order of R162: SL, GTU, CM, PC and the START directive. -/
def State.freeze (src : LoadSource) (f : Frozen) (s : State) : State :=
  (((({ s with sl := s.sl.freeze src f }).takeRoles f.area).takeParameters.enterListening).raise .part).offer .start

/-! ## The end of a load (R156) -/

/-- SL at the end of a read that failed: nothing of the image is kept (R159, R160). -/
def Sl.fail (c : LoadCause) (l : Sl) : Sl := { l with loadState := .failed, loadCause := c, phase := .ended, image := [] }

/-- What SL does on its I2C lines at an event of the read (R157, R158). -/
def Sl.acts (w : List I2cAction) (l : Sl) : Sl := { l with wire := w }

/-- SL clocks SCL: an attempt or the transfer of the image is in progress. Otherwise both lines are released (R157, R163). -/
def Sl.drivesBus (l : Sl) : Bool :=
  match l.phase with
  | .addressing _ | .receiving => true
  | .ended | .settling _ | .pausing _ _ => false

/-- The load fails with cause `c`: PC enters UNCONFIGURED and PART is raised (R42, R156, R160). -/
def State.loadFails (c : LoadCause) (s : State) : State := ({ s with sl := s.sl.fail c }).moveTo .unconfigured

/-- SL replaced. -/
def State.setSl (l : Sl) (s : State) : State := { s with sl := l }

/-! ## The address phase (R157) -/

/-- The device address 0x56 with the write direction, as a byte. -/
def deviceWrite : Byte := 0xAC#8

/-- The device address 0x56 with the read direction, as a byte. -/
def deviceRead : Byte := 0xAD#8

/-- The bus check: with SDA low, pulses of SCL until SDA reads high, nine at most, and a STOP. -/
def busCheck (p : AddressPhase) : List I2cAction :=
  if p.sdaHighAfter = 0 then [] else List.replicate (min p.sdaHighAfter 9) .pulse ++ [.stop]

/-- The bytes of the attempt, ended by a STOP at the first one not acknowledged. -/
def addressBytes (p : AddressPhase) : List I2cAction :=
  if !p.ackWrite then [.start, .send deviceWrite, .stop]
  else if !p.ackOffsetHigh then [.start, .send deviceWrite, .send 0x00#8, .stop]
  else if !p.ackOffsetLow then [.start, .send deviceWrite, .send 0x00#8, .send 0x00#8, .stop]
  else [.start, .send deviceWrite, .send 0x00#8, .send 0x00#8, .start, .send deviceRead] ++ if p.ackRead then [] else [.stop]

/-- What SL does in an address phase: the bus check and, with SDA released, the bytes. -/
def addressActions (p : AddressPhase) : List I2cAction := busCheck p ++ if p.sdaHighAfter ≤ 9 then addressBytes p else []

/-- SDA is released by nine pulses of SCL at most, and the four bytes are acknowledged. -/
def attemptSucceeds (p : AddressPhase) : Bool :=
  p.sdaHighAfter ≤ 9 && p.ackWrite && p.ackOffsetHigh && p.ackOffsetLow && p.ackRead

/-- An address phase is made at most three times. -/
def attemptLimit : Nat := 3

/-- Attempt `n` has failed: the next follows after the pause, and the third ends the read. -/
def State.attemptFails (n : Nat) (s : State) : State :=
  if n < attemptLimit then s.setSl { s.sl with phase := .pausing n (s.now + attemptPause) } else s.loadFails .noDevice

/-- LOAD_READ_START (R157): the settling delay is over and the first attempt is made. -/
def execLoadReadStart (s : State) : Host.Outcome State Fault Refusal :=
  match s.sl.phase with
  | .settling due => .next ((s.advanceTo due).setSl { s.sl with phase := .addressing 1, wire := [] })
  | .ended | .addressing _ | .pausing _ _ | .receiving => .next s

/-- ADDRESS_PHASE_ATTEMPT (R157): the bus check and the attempt in progress, which ends as `p` says. -/
def execAddressPhaseAttempt (p : AddressPhase) (s : State) : Host.Outcome State Fault Refusal :=
  match s.sl.phase with
  | .addressing n =>
    let t := s.setSl (s.sl.acts (addressActions p))
    if attemptSucceeds p then .next (t.setSl { t.sl with phase := .receiving }) else .next (t.attemptFails n)
  | .ended | .settling _ | .pausing _ _ | .receiving => .next s

/-- ADDRESS_ATTEMPT_RETRY (R157): the pause after a failed attempt is over and the next one is made. -/
def execAddressAttemptRetry (s : State) : Host.Outcome State Fault Refusal :=
  match s.sl.phase with
  | .pausing n due => .next ((s.advanceTo due).setSl { s.sl with phase := .addressing (n + 1), wire := [] })
  | .ended | .settling _ | .addressing _ | .receiving => .next s

/-- CLOCK_STRETCH_TIMEOUT (R157): SCL has been held low for 10 ms, and SL releases both lines. -/
def execClockStretchTimeout (s : State) : Host.Outcome State Fault Refusal :=
  match s.sl.phase with
  | .addressing n => .next ((s.setSl (s.sl.acts [.release])).attemptFails n)
  | .receiving => .next ((s.setSl (s.sl.acts [.release])).loadFails .noDevice)
  | .ended | .settling _ | .pausing _ _ => .next s

/-! ## Image bytes (R158 to R160) -/

/-- The format byte of a short image. -/
def formatShort : Byte := 0x3C#8

/-- The format byte of a full image. -/
def formatFull : Byte := 0xC3#8

/-- The step count field of an image. -/
def imageStepCount (l : List Byte) : Nat := be16 (byteAt l 65) (byteAt l 66)

/-- The step records of an image or staging area given by its bytes `b`, `count` of them from offset `o`. -/
def recordsFrom (b : Nat → Byte) (o count : Nat) : List StepRecord :=
  (List.range count).map fun i => stepRecordAt b (o + recordLength * i)

/-- What an image says once the bytes so far have arrived. -/
inductive ImageStatus where
  /-- More bytes are needed. -/
  | more
  /-- The read ends here with this cause. -/
  | stop (c : LoadCause)
  /-- The last byte needed has arrived. -/
  | whole
deriving DecidableEq, Repr

/-- The judgement of the bytes so far (the table of R158). -/
def imageStatus (l : List Byte) : ImageStatus :=
  if byteAt l 0 = formatShort then (if l.length < 31 then .more else .whole)
  else if byteAt l 0 = formatFull then
    if l.length < 67 then .more
    else if stepCapacity < imageStepCount l then .stop .invalid
    else if l.length < 69 + recordLength * imageStepCount l then .more
    else .whole
  else .stop .noImage

/-- The CRC computed over a whole image and the CRC stored in it (R159). -/
def imageCrcs (l : List Byte) : BitVec 16 × BitVec 16 :=
  let n := l.length - 2
  (crc16 (l.take n), BitVec.ofNat 16 (be16 (byteAt l n) (byteAt l (n + 1))))

/-- The block and local parameters of an image. -/
def imageArea (l : List Byte) : List Byte := (l.drop 1).take 28

/-- The directory of a full image. -/
def imageDirectory (l : List Byte) : List Byte := (l.drop 29).take directoryLength

/-- The step records of a full image. -/
def imageSteps (l : List Byte) : List StepRecord := recordsFrom (byteAt l) 67 (imageStepCount l)

/-- SL after byte `b`: the byte count, the format byte and the step count found (R156, R167). -/
def Sl.received (b : Byte) (l : Sl) : Sl :=
  let image := l.image ++ [b]
  { l with
      image := image, byteCount := l.byteCount + 1,
      formatFound := if image.length = 1 then some b else l.formatFound,
      stepCountFound :=
        if image.length = 67 && byteAt image 0 = formatFull then some (imageStepCount image) else l.stepCountFound }

/-- The validity checks of a whole image whose CRC is correct, and the freeze or the failure they give (R160, R162). -/
def State.judgeImage (s : State) : State :=
  let l := s.sl.image
  let a := imageArea l
  if !blockValid s.sl.ownPos a then s.loadFails .invalid
  else if byteAt l 0 = formatShort then s.freeze .eepromShort (frozenOf a defaultDirectory defaultSteps)
  else if stepsValid (imageDirectory l) (imageStepCount l) (imageSteps l) then
    s.freeze .eepromFull (frozenOf a (imageDirectory l) (imageSteps l))
  else s.loadFails .invalid

/-- The CRC check of a whole image (R159). -/
def State.checkImage (s : State) : State :=
  let c := imageCrcs s.sl.image
  let t := s.setSl { s.sl with crcs := some c }
  if c.1 = c.2 then t.judgeImage else t.loadFails .crc

/-- SL's answer to an image byte: a byte still followed by one it needs is acknowledged; the last one, and one that ends the read early, is not, and a STOP
follows (R158). -/
def ImageStatus.answer : ImageStatus → List I2cAction
  | .more => [.ack]
  | .stop _ | .whole => [.nack, .stop]

/-- IMAGE_BYTE_RECEIVED (R158): a byte is received, counted and answered, and the read goes on, ends early or ends with its checks. -/
def execImageByteReceived (b : Byte) (s : State) : Host.Outcome State Fault Refusal :=
  match s.sl.phase with
  | .receiving =>
    let status := imageStatus (s.sl.received b).image
    let t := s.setSl ((s.sl.received b).acts status.answer)
    match status with
    | .more => .next t
    | .stop c => .next (t.loadFails c)
    | .whole => .next t.checkImage
  | .ended | .settling _ | .addressing _ | .pausing _ _ => .next s

/-! ## The host path (R164, R165) -/

/-- The offset of the records in the step staging area. -/
def stagedRecords : Nat := 38

/-- The staged configuration area. -/
def Mp.stagedArea (m : Mp) : List Byte := m.cfgStaging.bytes 0 28

/-- The staged directory. -/
def Mp.stagedDirectory (m : Mp) : List Byte := m.stepStaging.bytes 0 directoryLength

/-- The staged step count. -/
def Mp.stagedCount (m : Mp) : Nat := be16 (m.stepStaging.read 36) (m.stepStaging.read 37)

/-- The staged step records below the step count. -/
def Mp.stagedSteps (m : Mp) : List StepRecord := recordsFrom m.stepStaging.read stagedRecords (min m.stagedCount stepCapacity)

/-- What a START would freeze from the staging, and from which source; none when a check fails (R165). -/
def State.stagedConfig (s : State) : Option (LoadSource × Frozen) :=
  let m := s.mp
  if !blockValid s.sl.ownPos m.stagedArea then none
  else if !m.stepsStaged then some (.hostShort, frozenOf m.stagedArea defaultDirectory defaultSteps)
  else if stepsValid m.stagedDirectory m.stagedCount m.stagedSteps then
    some (.hostFull, frozenOf m.stagedArea m.stagedDirectory m.stagedSteps)
  else none

end Sys2Proof.Machine
end

