-- ==== Sys2Proof/Machine/Control.lean ====
section
/-! DEFINITION. Full reset and its release (R42, R116, R156), and the control commands a write to CTRL carries (R175). -/

namespace Sys2Proof.Machine

/-! ## Full reset -/

/-- FULL_RESET (R38, R42, R60, R116, R132, R153, R156, R163, R171): every block takes its full-reset condition at once. A frame in progress is ended
without effect, and is not served again after the release. The input pins, the VB line, the model's clock, its count of choices and its queue are not
the part's to reset. -/
def execFullReset (s : State) : Host.Outcome State Fault Refusal :=
  .next (State.afterFullReset s.vbi.lineLow s.vbi.lowSince (s.mp.deaf || s.mp.frame.isSome) s.pins s.now s.choices s.pending)

/-- SL at the release of the full reset: the straps are sampled and the read begins after the settling delay (R1, R156). -/
def Sl.released (straps : Pos) (now : Ticks) (l : Sl) : Sl :=
  { l with ownPos := straps, loadState := .reading, phase := .settling (now + settlingDelay) }

/-- PC enters LOADING at the release, which raises no PART (R156). -/
def State.enterLoading (s : State) : State := { s with pc := { s.pc with participation := .loading } }

/-- CM samples every line's inputs at the release (R116). -/
def State.sampleLines (s : State) : State := allLines.foldl State.judgeLine s

/-- MP at the release: a frame whose SCS fell before it, which is in progress when SCS is low, is not served (R171). -/
def Mp.released (scsLow : Bool) (m : Mp) : Mp := { m with deaf := m.deaf || scsLow }

/-- FULL_RESET_RELEASE (R1, R42, R116, R156, R171), with the straps and the level of SCS. There is a full reset to release in RESET alone. -/
def execFullResetRelease (pos : ReleasePins) (s : State) : Host.Outcome State Fault Refusal :=
  if s.participation = .reset then .next (((s.setSl (s.sl.released pos.straps s.now)).setMp (s.mp.released pos.scsLow)).enterLoading.sampleLines) else .next s

/-! ## The result of a control command (R175) -/

/-- CTRL's read-back replaced. -/
def State.ctrlReads (code : BitVec 4) (r : CtrlResult) (s : State) : State :=
  s.setMp { s.mp with ctrlCode := code, ctrlResult := r }

/-- The write of a control code: the command's state when its block accepts it, and nothing but the result when it refuses. Where CTRL takes no write
nothing happens (R171). -/
def State.control (code : BitVec 4) (taken : Option State) (s : State) : State :=
  s.portWrite ctrlAddress fun s =>
    match taken with
    | some t => t.ctrlReads code .accepted
    | none => s.ctrlReads code .refused

/-! ## Commands to PC and SL -/

/-- START (R43, R165): taken in UNCONFIGURED alone, where an invalid staging changes the load cause and nothing else. -/
def State.startTaken (s : State) : Option State :=
  if s.participation = .unconfigured then
    match s.stagedConfig with
    | some c => some (s.freeze c.1 c.2)
    | none => some (s.setSl { s.sl with loadCause := .invalid })
  else none

def execStart (s : State) : Host.Outcome State Fault Refusal := .next (s.control 1#4 s.startTaken)

/-- REJOIN (R57). -/
def State.rejoinTaken (s : State) : Option State :=
  if s.participation = .isolated || s.participation = .conflict then some (s.enterListening.raise .part) else none

def execRejoin (s : State) : Host.Outcome State Fault Refusal := .next (s.control 2#4 s.rejoinTaken)

/-! ## Soft reset (R58, R80, R117, R132, R154, R176) -/

/-- A READY snapshot is discarded by a soft reset; an ARMED one has been captured by then (R176). -/
def Mp.softDiscard (m : Mp) : Mp := if m.snapState = .ready then m.discard .idle else m

/-- MP's soft reset before any capture: the status is cleared, the results are NONE and a READY snapshot is discarded (R176). -/
def Mp.softReset (m : Mp) : Mp := { m.softDiscard with istat := 0#6, cmdsub := .none, cmdack := .none }

/-- MP's part of a soft reset, with the capture of an ARMED snapshot after the clearing of the status (R176, R180). -/
def State.portSoftReset (s : State) : State := (s.setMp s.mp.softReset).captureIfArmed .soft .listening true

/-- PC's and GTU's part by the participation state (the table of R58, R80). -/
def State.participationSoftReset (s : State) : State :=
  match s.participation with
  | .learning | .inStep => (s.clearTable.enterListening).setCause .soft
  | .listening => s.enterListening
  | .reset | .loading | .unconfigured | .isolated | .conflict => s

/-- WITHDRAW after a soft reset, in every state but UNCONFIGURED (R56, R58, R154). -/
def State.softWithdraw (s : State) : State := if s.participation = .unconfigured then s else s.offerWithdraw

/-- AE's, CU's and MP's parts. Whether the status is cleared before or after the change of the own condition that the engine's part causes is the part's
(R117, R176, assumption 4). -/
def State.cardSoftReset (clearsFirst : Bool) (s : State) : State :=
  if clearsFirst then s.portSoftReset.engineSoftReset.commandsSoftReset else s.engineSoftReset.commandsSoftReset.portSoftReset

/-- SOFT RESET: refused in LOADING (R58). PC's and GTU's parts come after the capture of an ARMED snapshot from the table (R176), and WITHDRAW is offered last,
to an engine that has taken its own soft reset and with the status cleared (R58, R154). -/
def State.softResetTaken (s : State) : Option State :=
  if s.participation = .loading then none
  else
    let t := { s with choices := s.choices + 1 }
    some ((t.cardSoftReset (Config.softResetClearsStatusFirst s.choices)).participationSoftReset.softWithdraw)

def execSoftReset (s : State) : Host.Outcome State Fault Refusal := .next (s.control 3#4 s.softResetTaken)

/-! ## Commands to AE (R149 to R152) -/

/-- The engine state replaced. -/
def State.setEngine (e : Engine) (s : State) : State := { s with ae := { s.ae with engine := e } }

/-- HOLD (R149). -/
def State.holdTaken (s : State) : Option State :=
  match s.ae.engine with
  | .idle => some ((s.setEngine .held).raise .engine)
  | .running => some (s.setEngine .holding)
  | .holding | .held | .stopped | .faulted => none

def execHold (s : State) : Host.Outcome State Fault Refusal := .next (s.control 4#4 s.holdTaken)

/-- RESUME (R150). -/
def State.resumeTaken (s : State) : Option State :=
  match s.ae.engine with
  | .holding => some (s.setEngine .running)
  | .held => some (s.runQueue s.ae.queue)
  | .stopped => some (s.setEngine .idle).reconcile
  | .idle | .running | .faulted => none

def execResume (s : State) : Host.Outcome State Fault Refusal := .next (s.control 5#4 s.resumeTaken)

/-- STOP (R151). -/
def State.stopTaken (s : State) : Option State := if s.ae.engine = .faulted then none else some s.engineStop

def execStop (s : State) : Host.Outcome State Fault Refusal := .next (s.control 6#4 s.stopTaken)

/-- CLEAR FAULT (R152). -/
def State.clearFaultTaken (s : State) : Option State :=
  if s.ae.engine = .faulted then some (s.setEngine .idle).reconcile else none

def execClearFault (s : State) : Host.Outcome State Fault Refusal := .next (s.control 7#4 s.clearFaultTaken)

/-! ## Commands to the snapshot unit (R179, R181) -/

/-- SNAP leaves the unit ARMED, a READY buffer being discarded (R179). -/
def State.armed (s : State) : State :=
  match s.mp.snapState with
  | .armed => s
  | .idle | .ready => s.setMp (s.mp.discard .armed)

/-- SNAP (R179): outside LEARNING and IN_STEP the unit captures at once. -/
def State.snapTaken (s : State) : Option State :=
  if s.participation.inGroup then some s.armed else some (s.armed.captureIfArmed .atOnce s.participation true)

def execSnap (s : State) : Host.Outcome State Fault Refusal := .next (s.control 8#4 s.snapTaken)

/-- SNAP RELEASE (R181). -/
def State.snapReleaseTaken (s : State) : Option State :=
  if s.mp.snapState = .idle then none else some (s.setMp (s.mp.discard .idle))

def execSnapRelease (s : State) : Host.Outcome State Fault Refusal := .next (s.control 9#4 s.snapReleaseTaken)

/-- CTRL_UNKNOWN_CODE (R175): refused by MP itself. A code of the nine commands is not this row's (`Instr.wf`), and changes nothing. -/
def execCtrlUnknownCode (code : Byte) (s : State) : Host.Outcome State Fault Refusal :=
  if knownControlCode code then .next s else .next (s.control (code.extractLsb' 0 4) none)

/-- The write of the byte `code` to CTRL, whatever it names (R175, R186). -/
def State.controlByte (code : Byte) (s : State) : State :=
  s.control (code.extractLsb' 0 4)
    (match code.toNat with
      | 1 => s.startTaken
      | 2 => s.rejoinTaken
      | 3 => s.softResetTaken
      | 4 => s.holdTaken
      | 5 => s.resumeTaken
      | 6 => s.stopTaken
      | 7 => s.clearFaultTaken
      | 8 => s.snapTaken
      | 9 => s.snapReleaseTaken
      | _ => none)

end Sys2Proof.Machine
end

