-- ==== Sys2Proof/Machine/Views.lean ====
section
/-! DEFINITION. What the host reads: the registers, the windows and the three status groups, byte by byte (R168, R173, R186). -/

namespace Sys2Proof.Machine

/-! ## Bytes -/

/-- A number as a byte. -/
def byteOf (n : Nat) : Byte := BitVec.ofNat 8 n

/-- A number below 65536 as two bytes, high byte first. -/
def bytes16 (n : Nat) : List Byte := [byteOf (n / 256), byteOf n]

/-- An optional number as a byte, 0x00 when absent. -/
def byteOr0 (o : Option Nat) : Byte := byteOf (o.getD 0)

/-- An optional directive as a byte, 0xFF when absent. -/
def directiveByte (o : Option Directive) : Byte :=
  match o with
  | some d => byteOf d.entryNumber
  | none => 0xFF#8

/-! ## Single registers -/

/-- What IDENT holds in every state (R173). -/
def identByte : Byte := 0x5B#8

def CtrlResult.code : CtrlResult → Nat
  | .none => 0
  | .accepted => 1
  | .refused => 2

/-- What CTRL reads (R175, R186). -/
def Mp.ctrlByte (m : Mp) : Byte := byteOf (16 * m.ctrlResult.code + m.ctrlCode.toNat)

/-- What CMDSUB reads (R174, R186). -/
def SubResult.byte : SubResult → Byte
  | .none => 0x00#8
  | .accepted t => byteOf (0x80 + t.val)
  | .kind => 0x41#8
  | .full => 0x42#8
  | .duplicate => 0x43#8

/-- What CMDACK reads (R174, R186). -/
def AckResult.byte : AckResult → Byte
  | .none => 0x00#8
  | .acknowledged => 0x01#8
  | .notDone => 0x02#8
  | .unknown => 0x03#8

/-- What SNAPST reads (R182, R186). -/
def Mp.snapstByte (m : Mp) : Byte :=
  byteOf (m.snapState.code + 16 *
    match m.snapState, m.snapshot with
    | .ready, some b => b.kind.code
    | _, _ => 0)

/-! ## Windows (R168, R172) -/

/-- The bytes of the step window once frozen: the directory, the step count and the records in force. -/
def Frozen.stepBytes (f : Frozen) : List Byte := f.directory ++ bytes16 f.steps.length ++ f.steps.flatMap StepRecord.bytes

/-- The byte of the configuration window at the pointer. -/
def State.configWindowByte (s : State) : Byte :=
  match s.sl.config with
  | none => s.mp.cfgStaging.read s.mp.cfgPtr
  | some f => byteAt f.area s.mp.cfgPtr

/-- The byte of the step window at the pointer, 0x00 past the records in force. -/
def State.stepWindowByte (s : State) : Byte :=
  match s.sl.config with
  | none => s.mp.stepStaging.read s.mp.stepPtr
  | some f => byteAt f.stepBytes s.mp.stepPtr

/-- The byte a window's data register reads. -/
def State.windowByte (s : State) : StagingWindow → Byte
  | .config => s.configWindowByte
  | .step => s.stepWindowByte

/-! ## PSTAT -/

/-- The last-view bytes, offsets 14 to 17; 0x00 when there is no last view. -/
def lastViewBytes : Option LastView → List Byte
  | none => [0x00#8, 0x00#8, 0x00#8, 0x00#8]
  | some v =>
    bytes16 (packBits v.presence.toList) ++
      [byteOf (v.digestVerdict.code + 4 * v.mirrorVerdict.code + bitAt v.faulted 4),
       match v.digestValue with | some d => d | none => 0x00#8]

/-- PSTAT, 18 bytes. -/
def State.pstat (s : State) : List Byte :=
  let l := s.sl
  [byteOf (s.pc.participation.code + 16 * s.pc.cause.code),
   byteOf (l.loadState.code + 4 * l.loadCause.code + bitAt s.mp.stepsStaged 5),
   byteOf (l.loadSource.code + 16 * l.ownPos.val)] ++
    bytes16 l.byteCount ++
    [byteOf (bitAt l.formatFound.isSome 0 + bitAt l.stepCountFound.isSome 1 + bitAt l.crcs.isSome 2 + bitAt l.config.isSome 3 +
      bitAt s.pc.lastView.isSome 4),
     l.formatFound.getD 0x00#8] ++
    bytes16 (l.stepCountFound.getD 0) ++
    (match l.crcs with
      | none => [0x00#8, 0x00#8, 0x00#8, 0x00#8]
      | some c => bytes16 c.1.toNat ++ bytes16 c.2.toNat) ++
    [match l.config with | none => 0x00#8 | some f => f.digest] ++
    lastViewBytes s.pc.lastView

/-! ## OSTAT -/

/-- The nibble of a line: raw level, filtered level. -/
def State.lineNibble (s : State) (n : Fin 4) : Nat := (s.raw n).code + 4 * (s.filter n).filtered.code

/-- The own-entry bytes, offsets 4 to 6. -/
def Entry.statusBytes (e : Entry) : List Byte :=
  [byteOf (e.presence.code + 4 * e.condition.code + bitAt e.locked 4 + bitAt e.faulted 5),
   byteOf (e.assignment.code + bitAt e.partner.isSome 3 + 16 * match e.partner with | some p => p.val | none => 0),
   byteOf (e.cls.code + 16 * e.waitRank)]

/-- The position of TAKEN(p), 0 for another actuated state. -/
def ActState.position : ActState → Nat
  | .taken p => p.val
  | .released | .carrying | .yielded | .idle | .unknown => 0

/-- The engine's bytes, offsets 7 to 22. -/
def Ae.statusBytes (a : Ae) : List Byte :=
  [byteOf (a.engine.code + 16 * a.debt), byteOf (a.actuated.code + 16 * a.actuated.position), directiveByte a.running,
   byteOf a.queue.length] ++
    ((List.range 4).map fun i => directiveByte a.queue[i]?) ++
    [byteOr0 a.stepIndex] ++ bytes16 a.stepCount ++
    [byteOf (a.retryCount + bitAt a.retryOwner.isSome 3 + bitAt a.fallbackTaken 4 + bitAt a.stepIndex.isSome 5), byteOr0 a.retryOwner,
     byteOf (a.fault.cause.code + bitAt a.fault.step.isSome 2), directiveByte a.fault.directive, byteOr0 a.fault.step]

/-- OSTAT, 29 bytes. -/
def State.ostat (s : State) : List Byte :=
  [byteOf (s.cm.own.code + bitAt s.cm.monitorActive 2 + bitAt s.cm.txSilent 3),
   byteOf (s.lineNibble 0 + 16 * s.lineNibble 1), byteOf (s.lineNibble 2 + 16 * s.lineNibble 3),
   byteOf (packBits (allLines.map fun n => (s.filter n).pending.isSome))] ++
    s.ownEntry.statusBytes ++ s.ae.statusBytes ++ bytes16 s.ae.outputs.toNat ++
    [s.pins.fb, byteOf (bitAt s.cu.wtrTimer.isSome 0 + bitAt s.cu.restoreFull 1)] ++
    bytes16 s.wtrSecondsLeft

/-! ## CMDTAB -/

/-- The three bytes of a slot. -/
def slotBytes : Option CmdRecord → List Byte
  | none => [0x00#8, 0x00#8, 0x00#8]
  | some c =>
    [byteOf (128 + 16 * c.kind.request.code + c.tag.val), byteOf (c.state.code + 16 * CmdOutcome.code c.outcome), byteOf c.headCount]

/-- CMDTAB, 13 bytes. -/
def State.cmdtab (s : State) : List Byte :=
  ((List.range 4).flatMap fun i => slotBytes s.cu.table[i]?) ++ [byteOf s.cu.nextTag.val]

/-- The bytes of a group as its blocks hold them. -/
def State.groupBytes (s : State) : Group → List Byte
  | .pstat => s.pstat
  | .ostat => s.ostat
  | .cmdtab => s.cmdtab

/-! ## The register window -/

/-- The group an address lies in, with its offset there. -/
def groupOf (a : BitVec 7) : Option (Group × Nat) :=
  [Group.pstat, Group.ostat, Group.cmdtab].findSome? fun g =>
    if (groupAddress g).toNat ≤ a.toNat && a.toNat < (groupAddress g).toNat + groupSize g then some (g, a.toNat - (groupAddress g).toNat) else none

/-- What an address outside the groups reads; one that names no register reads 0x00 (R171). -/
def State.registerByte (s : State) (a : BitVec 7) : Byte :=
  match a.toNat with
  | 0x00 => identByte
  | 0x01 => s.mp.ctrlByte
  | 0x02 => s.mp.cmdsub.byte
  | 0x03 => s.mp.cmdack.byte
  | 0x04 => s.mp.istat.zeroExtend 8
  | 0x05 => s.mp.ien.zeroExtend 8
  | 0x06 => s.mp.snapstByte
  | 0x07 => byteOf s.mp.snapPtr
  | 0x08 => s.mp.snapByte
  | 0x09 => byteOf s.mp.cfgPtr
  | 0x0A => s.configWindowByte
  | 0x0B => byteOf (s.mp.stepPtr / 256)
  | 0x0C => byteOf s.mp.stepPtr
  | 0x0D => s.stepWindowByte
  | _ => 0x00#8

/-- The byte a read frame takes at an address: from the group copy while one of that group is held, and as it stands otherwise (R170). -/
def State.readsAs (s : State) (a : BitVec 7) : Byte :=
  match groupOf a with
  | none => s.registerByte a
  | some (g, o) =>
    match s.mp.capture with
    | some (h, l) => if h = g then byteAt l o else byteAt (s.groupBytes g) o
    | none => byteAt (s.groupBytes g) o

end Sys2Proof.Machine
end

