-- ==== Sys2Proof/Machine/Port.lean ====
section
/-! DEFINITION. The management port's own accesses (Chapter 10): submission and acknowledgement, interrupt status and enables, the windows and
their pointers, group captures, and the SPI frame. The control commands stand in Control.lean. -/

namespace Sys2Proof.Machine

/-! ## Requests to CU (R121, R128, R174) -/

/-- The kind code in a byte written to CMDSUB. -/
def kindCode (value : Byte) : Nat := (value.extractLsb' 0 3).toNat

/-- The tag in a byte written to CMDACK. -/
def tagCode (value : Byte) : Fin 16 := Fin.ofNat 16 value.toNat

/-- A submission, with its result in CMDSUB. -/
def State.submitted (value : Byte) (s : State) : State :=
  let r := s.submit (kindCode value)
  r.2.setMp { s.mp with cmdsub := r.1 }

/-- COMMAND_SUBMISSION (R121, R174). -/
def execCommandSubmission (value : Byte) (s : State) : Host.Outcome State Fault Refusal :=
  .next (s.portWrite cmdsubAddress (State.submitted value))

/-- An acknowledgement, with its result in CMDACK. -/
def State.acknowledged (value : Byte) (s : State) : State :=
  let r := s.acknowledge (tagCode value)
  r.2.setMp { s.mp with cmdack := r.1 }

/-- COMMAND_ACKNOWLEDGE (R128, R174). -/
def execCommandAcknowledge (value : Byte) (s : State) : Host.Outcome State Fault Refusal :=
  .next (s.portWrite cmdackAddress (State.acknowledged value))

/-! ## Interrupts (R177, R178) -/

/-- The six flag bits of a byte. -/
def flagBits (value : Byte) : BitVec 6 := value.extractLsb' 0 6

/-- Each bit written 1 clears its flag. -/
def State.clearedFlags (value : Byte) (s : State) : State := s.setMp { s.mp with istat := s.mp.istat &&& ~~~flagBits value }

/-- ISTAT_WRITE (R177). -/
def execIstatWrite (value : Byte) (s : State) : Host.Outcome State Fault Refusal :=
  .next (s.portWrite istatAddress (State.clearedFlags value))

/-- The enables are set. -/
def State.enabledFlags (value : Byte) (s : State) : State := s.setMp { s.mp with ien := flagBits value }

/-- IEN_WRITE (R178). -/
def execIenWrite (value : Byte) (s : State) : Host.Outcome State Fault Refusal :=
  .next (s.portWrite ienAddress (State.enabledFlags value))

/-! ## Pointers (R172) -/

/-- The last index of the snapshot buffer. -/
def snapLast : Nat := 82

/-- The last index of a window. -/
def stagingLast : StagingWindow → Nat
  | .config => 27
  | .step => 2085

/-- A pointer written beyond the last index of its window is 0. -/
def pointerOf (last v : Nat) : Nat := if last < v then 0 else v

/-- The index after `i`, the last index being followed by 0. -/
def indexAfter (last i : Nat) : Nat := if last ≤ i then 0 else i + 1

/-- A pointer register written. -/
def Mp.writePointer (reg : PointerReg) (value : Byte) (m : Mp) : Mp :=
  match reg with
  | .snapPtr => { m with snapPtr := pointerOf snapLast value.toNat }
  | .cfgPtr => { m with cfgPtr := pointerOf (stagingLast .config) value.toNat }
  | .stepPtrHigh => { m with stepPtrHeld := value }
  | .stepPtrLow => { m with stepPtr := pointerOf (stagingLast .step) (be16 m.stepPtrHeld value) }

/-- A pointer register written. -/
def State.pointed (reg : PointerReg) (value : Byte) (s : State) : State := s.setMp (s.mp.writePointer reg value)

/-- POINTER_WRITE (R172). -/
def execPointerWrite (reg : PointerReg) (value : Byte) (s : State) : Host.Outcome State Fault Refusal :=
  .next (s.portWrite (pointerAddress reg) (State.pointed reg value))

/-! ## Windows (R164, R168, R172, R182) -/

/-- A window's pointer goes on by one. -/
def Mp.advance (w : StagingWindow) (m : Mp) : Mp :=
  match w with
  | .config => { m with cfgPtr := indexAfter (stagingLast .config) m.cfgPtr }
  | .step => { m with stepPtr := indexAfter (stagingLast .step) m.stepPtr }

/-- A byte is stored at a window's pointer; a byte stored in the step staging sets the steps-staged mark. -/
def Mp.stage (w : StagingWindow) (value : Byte) (m : Mp) : Mp :=
  match w with
  | .config => { m with cfgStaging := m.cfgStaging.write m.cfgPtr value }
  | .step => { m with stepStaging := m.stepStaging.write m.stepPtr value, stepsStaged := true }

/-- A data byte written to a window: taken in UNCONFIGURED, refused elsewhere with the byte not stored and the pointer where it was. -/
def State.staged (window : StagingWindow) (value : Byte) (s : State) : State :=
  if s.participation = .unconfigured then s.setMp ((s.mp.stage window value).advance window) else s

/-- STAGING_WRITE (R164, R172). -/
def execStagingWrite (window : StagingWindow) (value : Byte) (s : State) : Host.Outcome State Fault Refusal :=
  .next (s.portWrite (stagingAddress window) (State.staged window value))

/-- SNAPPTR goes on by one in READY. -/
def Mp.advanceSnap (m : Mp) : Mp := if m.snapState = .ready then { m with snapPtr := indexAfter snapLast m.snapPtr } else m

/-! ## Read frames (R169, R170) -/

/-- The whole of a group is copied from its blocks. -/
def State.takeCopy (g : Group) (s : State) : State := s.setMp { s.mp with capture := some (g, s.groupBytes g) }

/-- The byte at `a` is taken for shifting out. -/
def State.takeByte (a : BitVec 7) (s : State) : State :=
  s.setMp { s.mp with readout := some (s.readsAs a), snapTaken := a = snapdataAddress && s.mp.snapState = .ready }

/-- A read frame that has come to `a` takes its byte there: the first byte of a group with a group capture, a later one from the copy while the frame stays
in that group, and any other as it stands, a copy being dropped as the frame leaves its group. -/
def State.takeAt (a : BitVec 7) (s : State) : State :=
  match groupOf a with
  | some (g, 0) => (s.takeCopy g).takeByte a
  | some (g, _ + 1) => (s.setMp { s.mp with capture := s.mp.capture.filter fun c => c.1 = g }).takeByte a
  | none => (s.setMp { s.mp with capture := none }).takeByte a

/-- What the shifting out of a data byte at `a` moves: a window data register's pointer, SNAPPTR for a byte of the buffer alone (R172, R182). -/
def Mp.shifted (a : BitVec 7) (m : Mp) : Mp :=
  if a = stagingAddress .config then m.advance .config
  else if a = stagingAddress .step then m.advance .step
  else if a = snapdataAddress && m.snapTaken then m.advanceSnap
  else m

/-- The data byte of the read frame `f` has been shifted out: the address or the window's pointer goes on, and the next byte is taken. -/
def State.readOn (f : Frame) (s : State) : State :=
  (s.setMp { s.mp.shifted f.address with frame := some { f with address := addressAfter f.address } }).takeAt (addressAfter f.address)

/-- A command that reads a data byte at `a`. In a read frame that stands there, the byte taken for it has been shifted out. With no frame in progress it is a
whole frame of its own, which takes the byte and shifts it out (assumption 7). In any other frame no byte is read there. -/
def State.portRead (a : BitVec 7) (s : State) : State :=
  if s.portServed then
    match s.mp.frame with
    | none => (s.takeByte a).setMp { (s.takeByte a).mp.shifted a with snapTaken := false }
    | some f => if !f.write && f.address = a then s.readOn f else s
  else s

/-- WINDOW_DATA_READ (R168, R172). -/
def execWindowDataRead (window : StagingWindow) (s : State) : Host.Outcome State Fault Refusal :=
  .next (s.portRead (stagingAddress window))

/-- SNAPDATA_READ (R182). -/
def execSnapdataRead (s : State) : Host.Outcome State Fault Refusal := .next (s.portRead snapdataAddress)

/-- A read frame begins at `a` and takes its first byte. -/
def State.beginRead (a : BitVec 7) (s : State) : State := (s.setMp { s.mp with frame := some ⟨false, a⟩ }).takeAt a

/-- GROUP_CAPTURE (R170): a read frame comes to the first byte of a group, from the command byte or from the byte before it. Where the frame stands at that
byte its capture has been made, and in any other frame there is none to make (assumption 7). -/
def execGroupCapture (group : Group) (s : State) : Host.Outcome State Fault Refusal :=
  if s.portServed then
    match s.mp.frame with
    | none => .next (s.beginRead (groupAddress group))
    | some f => if !f.write && addressAfter f.address = groupAddress group then .next (s.readOn f) else .next s
  else .next s

/-! ## Frames (R169 to R171) -/

/-- REGISTER_WRITE_IGNORED (R171): the byte has no effect and the address goes on. An address that takes writes is not this row's
(`Instr.wf`), and changes nothing. -/
def execRegisterWriteIgnored (addr : BitVec 7) (s : State) : Host.Outcome State Fault Refusal :=
  if writableAddress addr then .next s else .next (s.portWrite addr id)

/-- The data byte `value` written at address `a` (R171, R186): the effect of its register, and none at an address that takes no write. -/
def State.writeAt (a : BitVec 7) (value : Byte) (s : State) : State :=
  match a.toNat with
  | 0x01 => s.controlByte value
  | 0x02 => s.portWrite a (State.submitted value)
  | 0x03 => s.portWrite a (State.acknowledged value)
  | 0x04 => s.portWrite a (State.clearedFlags value)
  | 0x05 => s.portWrite a (State.enabledFlags value)
  | 0x07 => s.portWrite a (State.pointed .snapPtr value)
  | 0x09 => s.portWrite a (State.pointed .cfgPtr value)
  | 0x0A => s.portWrite a (State.staged .config value)
  | 0x0B => s.portWrite a (State.pointed .stepPtrHigh value)
  | 0x0C => s.portWrite a (State.pointed .stepPtrLow value)
  | 0x0D => s.portWrite a (State.staged .step value)
  | _ => s.portWrite a id

/-- A frame begins with the command byte `byte`: bit 7 its direction, bits 6–0 its address; a read frame takes its first data byte (R169, R170). -/
def State.beginFrame (byte : Byte) (s : State) : State :=
  let a : BitVec 7 := byte.extractLsb' 0 7
  if byte.getLsbD 7 then s.setMp { s.mp with frame := some ⟨true, a⟩, capture := none, readout := none, snapTaken := false }
  else s.beginRead a

/-- COMMAND_BYTE_RECEIVED (R169, R170): eight bits of a frame. The first eight are the command byte. Eight more in a frame in progress are a data byte in its
direction (assumption 7). In RESET they are ignored, and so is the rest of their frame after the release (R171). -/
def execCommandByteReceived (byte : Byte) (s : State) : Host.Outcome State Fault Refusal :=
  if s.participation = .reset then .next (s.setMp { s.mp with deaf := true })
  else if s.portServed then
    match s.mp.frame with
    | none => .next (s.beginFrame byte)
    | some f => if f.write then .next (s.writeAt f.address byte) else .next (s.readOn f)
  else .next s

/-- TRANSACTION_END (R169 to R171): the frame ends, the group copy is dropped, SDO goes high-impedance, and the next frame is served. -/
def execTransactionEnd (s : State) : Host.Outcome State Fault Refusal :=
  .next (s.setMp { s.mp with frame := none, deaf := false, capture := none, readout := none, snapTaken := false })

end Sys2Proof.Machine
end

