-- ==== Sys2Proof/Machine/Dispatch.lean ====
section
/-! DEFINITION. The effect of each command: one arm for each constructor of `Instr`, one meaning for each arm. -/

namespace Sys2Proof.Machine

/-- The effect of a command on everything but the queue. -/
def exec (i : Instr) (s : State) : Host.Outcome State Fault Refusal :=
  match i with
  | .fullReset => Sys2Proof.Machine.execFullReset s
  | .fullResetRelease pos => Sys2Proof.Machine.execFullResetRelease pos s
  | .loadReadStart => Sys2Proof.Machine.execLoadReadStart s
  | .addressPhaseAttempt p => Sys2Proof.Machine.execAddressPhaseAttempt p s
  | .addressAttemptRetry => Sys2Proof.Machine.execAddressAttemptRetry s
  | .clockStretchTimeout => Sys2Proof.Machine.execClockStretchTimeout s
  | .imageByteReceived b => Sys2Proof.Machine.execImageByteReceived b s
  | .epochTimerExpiry => Sys2Proof.Machine.execEpochTimerExpiry s
  | .unheardMarker => Sys2Proof.Machine.execUnheardMarker s
  | .markerStart => Sys2Proof.Machine.execMarkerStart s
  | .markerEnd => Sys2Proof.Machine.execMarkerEnd s
  | .longMarker => Sys2Proof.Machine.execLongMarker s
  | .lineReleased => Sys2Proof.Machine.execLineReleased s
  | .recordDelivery => Sys2Proof.Machine.execRecordDelivery s
  | .commandExpiry => Sys2Proof.Machine.execCommandExpiry s
  | .dwellExpiry => Sys2Proof.Machine.execDwellExpiry s
  | .feedbackChange levels => Sys2Proof.Machine.execFeedbackChange levels s
  | .awaitTimeout => Sys2Proof.Machine.execAwaitTimeout s
  | .lineInputChange line sf sd => Sys2Proof.Machine.execLineInputChange line sf sd s
  | .holdoffExpiry line => Sys2Proof.Machine.execHoldoffExpiry line s
  | .txactTransition => Sys2Proof.Machine.execTxactTransition s
  | .silenceTimerExpiry => Sys2Proof.Machine.execSilenceTimerExpiry s
  | .wtrTimerExpiry => Sys2Proof.Machine.execWtrTimerExpiry s
  | .discardTimerExpiry => Sys2Proof.Machine.execDiscardTimerExpiry s
  | .commandSubmission value => Sys2Proof.Machine.execCommandSubmission value s
  | .commandAcknowledge value => Sys2Proof.Machine.execCommandAcknowledge value s
  | .start => Sys2Proof.Machine.execStart s
  | .rejoin => Sys2Proof.Machine.execRejoin s
  | .softReset => Sys2Proof.Machine.execSoftReset s
  | .hold => Sys2Proof.Machine.execHold s
  | .resume => Sys2Proof.Machine.execResume s
  | .stop => Sys2Proof.Machine.execStop s
  | .clearFault => Sys2Proof.Machine.execClearFault s
  | .snap => Sys2Proof.Machine.execSnap s
  | .snapRelease => Sys2Proof.Machine.execSnapRelease s
  | .ctrlUnknownCode code => Sys2Proof.Machine.execCtrlUnknownCode code s
  | .istatWrite value => Sys2Proof.Machine.execIstatWrite value s
  | .ienWrite value => Sys2Proof.Machine.execIenWrite value s
  | .pointerWrite reg value => Sys2Proof.Machine.execPointerWrite reg value s
  | .stagingWrite window value => Sys2Proof.Machine.execStagingWrite window value s
  | .windowDataRead window => Sys2Proof.Machine.execWindowDataRead window s
  | .snapdataRead => Sys2Proof.Machine.execSnapdataRead s
  | .groupCapture group => Sys2Proof.Machine.execGroupCapture group s
  | .registerWriteIgnored addr => Sys2Proof.Machine.execRegisterWriteIgnored addr s
  | .lowStretchBegin => Sys2Proof.Machine.execLowStretchBegin s
  | .shortStretchEnd => Sys2Proof.Machine.execShortStretchEnd s
  | .markerDriveRelease => Sys2Proof.Machine.execMarkerDriveRelease s
  | .cellBegin => Sys2Proof.Machine.execCellBegin s
  | .cellSample => Sys2Proof.Machine.execCellSample s
  | .dominantCellRelease => Sys2Proof.Machine.execDominantCellRelease s
  | .commandByteReceived byte => Sys2Proof.Machine.execCommandByteReceived byte s
  | .transactionEnd => Sys2Proof.Machine.execTransactionEnd s

end Sys2Proof.Machine
end

