-- ==== Sys2Proof/Safety.lean ====
section
/-! DEFINITION. What holds in every state a run reaches: the laws the manual states of the machine at all times. Each is decidable; the
obligations state that every step keeps them. -/

namespace Sys2Proof.Safety

open Sys2Proof.Machine

/-- RESET, LOADING or UNCONFIGURED: no configuration is in force and the receiver is OFF (R15, R20). -/
def unstarted (p : Participation) : Bool := p = .reset || p = .loading || p = .unconfigured

/-- The load state that goes with a participation state (the table of R156). -/
def loadStateOf (p : Participation) : LoadState :=
  match p with
  | .reset => .held
  | .loading => .reading
  | .unconfigured => .failed
  | .listening | .learning | .inStep | .isolated | .conflict => .frozen

/-- Start-up and participation go together: the receiver is OFF exactly before the first LISTENING (R20), the epoch timer runs only in LISTENING,
LEARNING and IN_STEP (R22), the load state follows the participation state and a configuration is in force once it is FROZEN (R156, R162), and an
EEPROM read is in progress only in LOADING (R157). -/
abbrev Started (s : State) : Prop :=
  (s.vbi.receiver = .off ↔ unstarted s.participation = true) ∧
  (s.vbi.epochTimer.isSome = true → s.participation.timed = true) ∧
  s.sl.loadState = loadStateOf s.participation ∧
  (s.sl.config.isSome = true ↔ unstarted s.participation = false) ∧
  (s.sl.phase = .ended ∨ s.participation = .loading)

/-- Outside LEARNING and IN_STEP no table is held: GTU is in its cleared condition with the roles of the block in force (R41, R60). -/
abbrev TableHeldInGroup (s : State) : Prop := s.participation.inGroup = false → s.gtu = Gtu.cleared (blockRole s.area)

/-- Roles are those of the block in force, and the backup entries and the ranks agree with the primaries and the wait list (R61, R62, R71). -/
abbrev TableSettled (s : State) : Prop := (∀ n : Pos, (s.gtu.entry n).role = blockRole s.area n) ∧ s.gtu.settle = s.gtu

/-- The relations of a table: a primary has a partner exactly when it has an assignment (R62), a partner is a backup, no backup is held by two
primaries in YIELDING, TAKING or ACTIVE, nor dropped by two (R62), a held backup is PRESENT, not locked and not faulted (R86, R94, R96), and a locked
primary holds none (R96). -/
abbrev CoversLawful (g : Gtu) : Prop :=
  (∀ p : Pos, (g.entry p).role = .primary → ((g.entry p).partner.isSome = true ↔ (g.entry p).assignment ≠ .none)) ∧
  (∀ p b : Pos, (g.entry p).role = .primary → (g.entry p).partner = some b → (g.entry b).role = .backup) ∧
  (∀ p q b : Pos, g.holds p b = true → g.holds q b = true → p = q) ∧
  (∀ p q b : Pos, g.drops p b = true → g.drops q b = true → p = q) ∧
  (∀ p b : Pos, g.holds p b = true →
    (g.entry b).presence = .present ∧ (g.entry b).locked = false ∧ (g.entry b).faulted = false ∧ (g.entry p).locked = false)

/-- The wait list holds no position twice, holds only PRESENT, unlocked primaries in NONE of class FORCE, FAIL or DEGRADE, and is in ascending order
of class (R68); a primary's class is 0 exactly when it is in NONE and off the list (R63). -/
abbrev WaitListLawful (g : Gtu) : Prop :=
  g.waitList.Nodup ∧
  (∀ p ∈ g.waitList, (g.entry p).role = .primary ∧ (g.entry p).presence = .present ∧ (g.entry p).locked = false ∧
    (g.entry p).assignment = .none ∧ (g.entry p).cls.mayWait = true) ∧
  g.waitList.Pairwise (fun p q => g.rankClass p ≤ g.rankClass q) ∧
  (∀ p : Pos, (g.entry p).role = .primary → ((g.entry p).cls = .none ↔ (g.entry p).assignment = .none ∧ p ∉ g.waitList))

/-- An EMPTY entry stands at its cleared value; a configured one is PRESENT with fewer misses than the loss threshold, JOINING with 1 or 2
presences, or LOST with no count, condition CLEAR and no fault (R61, R64 to R67). -/
abbrev PresenceLawful (s : State) : Prop :=
  ∀ n : Pos,
    ((s.gtu.entry n).role = .empty → s.gtu.entry n = Entry.cleared .empty) ∧
    ((s.gtu.entry n).role ≠ .empty →
      (s.gtu.entry n).presence ≠ .absent ∧
      ((s.gtu.entry n).presence = .present → (s.gtu.entry n).runCount < blockLossThreshold s.area) ∧
      ((s.gtu.entry n).presence = .joining → (s.gtu.entry n).runCount = 1 ∨ (s.gtu.entry n).runCount = 2) ∧
      ((s.gtu.entry n).presence = .lost →
        (s.gtu.entry n).runCount = 0 ∧ (s.gtu.entry n).condition = .clear ∧ (s.gtu.entry n).faulted = false))

/-- The configuration in force passed its checks, and the digest and the count of primaries held with it are its own (R16, R17, R160, R162). -/
abbrev ConfigurationValid (s : State) : Prop :=
  ∀ f : Frozen, s.sl.config = some f →
    blockValid s.sl.ownPos f.area = true ∧ f.area.length = 28 ∧ f.directory.length = 36 ∧
    stepsValid f.directory f.steps.length f.steps = true ∧
    f.digest = crc8 (f.area.take 24) ∧ f.primaries = primariesOf f.area

/-- The directive debt equals the number of directives in the queue plus one while a sequence runs, the queue holds at most 4 directives, and a
sequence is in progress exactly in RUNNING and HOLDING, with an empty queue in IDLE, STOPPED and FAULTED; the outputs stand at the level the pins took last,
all released before the first (R138, R139, R146, R153). -/
abbrev EngineAccounts (s : State) : Prop :=
  s.ae.debt = s.ae.queue.length + (if s.ae.running.isSome then 1 else 0) ∧
  s.ae.queue.length ≤ queueDepth ∧
  s.ae.running.isSome = s.ae.engine.moving ∧
  (s.ae.engine = .idle ∨ s.ae.engine = .stopped ∨ s.ae.engine = .faulted → s.ae.queue = []) ∧
  (s.ae.waiting ≠ .none → s.ae.running.isSome = true) ∧
  s.ae.outputs = s.ae.driven.headD 0#12

/-- STOPPED and FAULTED leave the actuated state UNKNOWN (R111, R147, R151). -/
abbrev OutIsUnknown (s : State) : Prop := s.ae.engine.out = true → s.ae.actuated = .unknown

/-- The commands a host sends through the management port (R169 to R182), but for the end of a transaction. -/
def portCommand : Instr → Bool
  | .commandSubmission _ | .commandAcknowledge _ | .start | .rejoin | .softReset | .hold | .resume | .stop | .clearFault | .snap
  | .snapRelease | .ctrlUnknownCode _ | .istatWrite _ | .ienWrite _ | .pointerWrite _ _ | .stagingWrite _ _ | .windowDataRead _
  | .snapdataRead | .groupCapture _ | .registerWriteIgnored _ | .commandByteReceived _ => true
  | .fullReset | .fullResetRelease _ | .loadReadStart | .addressPhaseAttempt _ | .addressAttemptRetry | .clockStretchTimeout
  | .imageByteReceived _ | .epochTimerExpiry | .unheardMarker | .markerStart | .markerEnd | .longMarker | .lineReleased
  | .recordDelivery | .commandExpiry | .dwellExpiry | .feedbackChange _ | .awaitTimeout | .lineInputChange _ _ _
  | .holdoffExpiry _ | .txactTransition | .silenceTimerExpiry | .wtrTimerExpiry | .discardTimerExpiry | .lowStretchBegin
  | .shortStretchEnd | .markerDriveRelease | .cellBegin | .cellSample | .dominantCellRelease | .transactionEnd => false

/-- The data byte a command of the port is: whether it is written or read, and its register's address. A command byte and a group capture are none. -/
def access : Instr → Option (Bool × BitVec 7)
  | .start | .rejoin | .softReset | .hold | .resume | .stop | .clearFault | .snap | .snapRelease | .ctrlUnknownCode _ => some (true, 0x01#7)
  | .commandSubmission _ => some (true, 0x02#7)
  | .commandAcknowledge _ => some (true, 0x03#7)
  | .istatWrite _ => some (true, 0x04#7)
  | .ienWrite _ => some (true, 0x05#7)
  | .pointerWrite r _ => some (true, pointerAddress r)
  | .stagingWrite w _ => some (true, stagingAddress w)
  | .registerWriteIgnored a => some (true, a)
  | .windowDataRead w => some (false, stagingAddress w)
  | .snapdataRead => some (false, 0x08#7)
  | _ => none

/-- The command that a data byte `v` written at address `a` is (R175, R186). -/
def writeCommand (a : BitVec 7) (v : Byte) : Instr :=
  match a.toNat with
  | 0x01 =>
    match v.toNat with
    | 1 => .start
    | 2 => .rejoin
    | 3 => .softReset
    | 4 => .hold
    | 5 => .resume
    | 6 => .stop
    | 7 => .clearFault
    | 8 => .snap
    | 9 => .snapRelease
    | _ => .ctrlUnknownCode v
  | 0x02 => .commandSubmission v
  | 0x03 => .commandAcknowledge v
  | 0x04 => .istatWrite v
  | 0x05 => .ienWrite v
  | 0x07 => .pointerWrite .snapPtr v
  | 0x09 => .pointerWrite .cfgPtr v
  | 0x0A => .stagingWrite .config v
  | 0x0B => .pointerWrite .stepPtrHigh v
  | 0x0C => .pointerWrite .stepPtrLow v
  | 0x0D => .stagingWrite .step v
  | _ => .registerWriteIgnored a

/-- At most 4 command records, no tag twice, and the head alone CONTENDING while IN_STEP, every other open record QUEUED (R119, R120). -/
abbrev CommandTableShaped (s : State) : Prop :=
  s.cu.table.length ≤ tableDepth ∧ (s.cu.table.map CmdRecord.tag).Nodup ∧
  settleHead (s.participation = .inStep) s.cu.table = s.cu.table

/-- The TX activity monitor is active exactly when R111 calls for it, its timer runs and TX-SILENT stands only while it is active, and the own
condition is the one its sources give (R111, R112, R114). -/
abbrev MonitorJudged (s : State) : Prop :=
  s.cm.monitorActive = s.monitorCalled ∧ (s.cm.silenceTimer.isSome = true → s.cm.monitorActive = true) ∧
  (s.cm.txSilent = true → s.cm.monitorActive = true) ∧ s.cm.own = s.ownConditionNow

/-- The buffer holds a snapshot and the discard timer runs exactly in READY, and the unit is ARMED only in LEARNING and IN_STEP (R179 to R181). -/
abbrev SnapshotUnitShaped (s : State) : Prop :=
  (s.mp.snapshot.isSome = true ↔ s.mp.snapState = .ready) ∧ (s.mp.discardTimer.isSome = true ↔ s.mp.snapState = .ready) ∧
  (s.mp.snapState = .armed → s.participation.inGroup = true)

/-- Every listed index of a byte array is below `n`. -/
def Memory.below (n : Nat) (m : Memory) : Bool := m.all fun c => decide (c.1 < n)

/-- The window pointers stand within their windows, and the staging areas keep their canonical form and their sizes (R164, R172). -/
abbrev WindowsBounded (s : State) : Prop :=
  s.mp.cfgPtr ≤ 27 ∧ s.mp.stepPtr ≤ 2085 ∧ s.mp.snapPtr ≤ 82 ∧
  s.mp.cfgStaging.wf = true ∧ s.mp.stepStaging.wf = true ∧
  Memory.below 28 s.mp.cfgStaging = true ∧ Memory.below 2086 s.mp.stepStaging = true

/-- The sync history holds at most 8 verdicts, fewer than 3 of them FAULTED in LEARNING and IN_STEP; in LISTENING its newest verdicts, as many as there are
clean epochs counted, are FRAMED; and the counters stay below their limits (R49 to R53). -/
abbrev CountersBounded (s : State) : Prop :=
  s.pc.syncHistory.length ≤ 8 ∧ (s.participation.inGroup = true → s.faultedVerdicts < 3) ∧
  (s.participation = .listening →
    s.pc.cleanCount < 8 ∧ s.pc.cleanCount ≤ s.pc.syncHistory.length ∧ ∀ v ∈ s.pc.syncHistory.take s.pc.cleanCount, v = false) ∧
  s.pc.verifyCount < 16 ∧ s.pc.noNarratorCount < 16

/-- The wait-to-restore timer runs, or the restore slot is full, only while the own class is WAIT-RESTORE, and never both (R129 to R131). -/
abbrev RestoreOnlyInWaitRestore (s : State) : Prop :=
  ((s.cu.wtrTimer.isSome = true ∨ s.cu.restoreFull = true) → s.ownEntry.cls = .waitRestore) ∧
  ¬(s.cu.wtrTimer.isSome = true ∧ s.cu.restoreFull = true)

/-- Every law together. -/
abbrev Lawful (s : State) : Prop :=
  Started s ∧ TableHeldInGroup s ∧ TableSettled s ∧ CoversLawful s.gtu ∧ WaitListLawful s.gtu ∧ PresenceLawful s ∧ ConfigurationValid s ∧
  EngineAccounts s ∧ OutIsUnknown s ∧ CommandTableShaped s ∧ MonitorJudged s ∧ SnapshotUnitShaped s ∧ WindowsBounded s ∧
  CountersBounded s ∧ RestoreOnlyInWaitRestore s

end Sys2Proof.Safety
end

