-- ==== Sys2Proof/Certificates/Slice0/Obligations.lean ====
section
/-! DEFINITION. The statements for the provers. A statement about a command gives the state it answers: the fields it names, and every other field as
it was. `now := max s.now due` is the model's clock at an event due at `due` (assumption 1), and a clause by which an event that cannot occur changes
nothing is the model's choice (assumption 3). A host write of the register at `a` is taken where `s.takesWrite a` holds: the port is served, and the frame
in progress, if any, is a write frame that stands at `a` (R169, R171, assumption 7); `frame := s.mp.frame.map (Frame.wrote a)` in its answer is the frame's
address going on. -/

open Sys2Proof Sys2Proof.Machine Sys2Proof.Safety

/-! ## The step -/

/-- A step takes the command at the front of the queue and runs it on the state with the queue's rest. With nothing waiting one unit of time passes
and nothing else happens (the model's choice, assumption 1). -/
def Obligations.StepRunsTheFrontCommand : Prop :=
  (∀ (c : Instr) (s : State) (rest : List Instr), s.pending = c :: rest → step s = exec c { s with pending := rest }) ∧
  (∀ s : State, s.pending = [] → step s = .next { s with now := s.now + 1 })

/-- Every command answers a next state from every state: none faults and none is refused (assumption 20). It leaves the queue, which is the
model's own (assumption 19), as it was, and the model's clock does not go back (assumption 1). -/
def Obligations.EveryCommandAnswersANextState : Prop :=
  ∀ (c : Instr) (s : State), ∃ t : State, exec c s = .next t ∧ t.pending = s.pending ∧ s.now ≤ t.now

/-! ## Full reset and its release -/

/-- The reset state, block by block, at the values the manual gives for a full reset. The outgoing record is emptied: in whatever state it stands, no cell
is written dominant from it. CTRL reads 0x00. The queue of commands is the model's own, and empty (assumption 19). -/
def Obligations.ResetStateHoldsTheResetValues : Prop :=
  (State.reset.vbi.receiver = .off ∧ State.reset.vbi.driver = .released ∧ State.reset.vbi.epochTimer = none ∧
    State.reset.vbi.epoch = { cells := [], wrote := [], contention := .none, driveFault := false, faults := {} } ∧
    State.reset.vbi.outgoing.condition = .clear ∧ State.reset.vbi.outgoing.owesWork = false ∧ State.reset.vbi.outgoing.engineOut = false ∧
    State.reset.vbi.outgoing.request = none ∧
    ∀ (s : State) (k : Nat), s.vbi.outgoing = State.reset.vbi.outgoing → s.writesDominant k = false) ∧
  (State.reset.pc.participation = .reset ∧ State.reset.pc.cause = .none ∧ State.reset.pc.cleanCount = 0 ∧
    State.reset.pc.verifyCount = 0 ∧ State.reset.pc.noNarratorCount = 0 ∧ State.reset.pc.syncHistory = [] ∧
    State.reset.pc.lastView = none) ∧
  ((∀ n : Pos, State.reset.gtu.entry n =
      { role := .empty, presence := .absent, runCount := 0, condition := .clear, locked := false, faulted := false,
        assignment := .none, partner := none, cls := .none, waitRank := 0 }) ∧
    State.reset.gtu.waitList = [] ∧ State.reset.gtu.sliceIndex = 0 ∧ State.reset.gtu.requested = .released) ∧
  ((∀ n : Fin 4, State.reset.filter n = ⟨.clear, none⟩) ∧ State.reset.cm.monitorActive = false ∧
    State.reset.cm.silenceTimer = none ∧ State.reset.cm.txSilent = false ∧ State.reset.cm.own = .clear) ∧
  (State.reset.cu.table = [] ∧ State.reset.cu.nextTag = 0 ∧ State.reset.cu.offered = .none ∧ State.reset.cu.wtrTimer = none ∧
    State.reset.cu.restoreFull = false) ∧
  (State.reset.ae.outputs = 0#12 ∧ State.reset.ae.engine = .idle ∧ State.reset.ae.queue = [] ∧ State.reset.ae.debt = 0 ∧
    State.reset.ae.running = none ∧ State.reset.ae.waiting = .none ∧ State.reset.ae.actuated = .released ∧
    State.reset.ae.stepIndex = none ∧ State.reset.ae.stepCount = 0 ∧ State.reset.ae.retryCount = 0 ∧
    State.reset.ae.retryOwner = none ∧ State.reset.ae.fallbackTaken = false ∧ State.reset.ae.fault.cause = .none) ∧
  (State.reset.sl.loadState = .held ∧ State.reset.sl.loadCause = .none ∧ State.reset.sl.loadSource = .none ∧
    State.reset.sl.byteCount = 0 ∧ State.reset.sl.phase = .ended ∧ State.reset.sl.drivesBus = false ∧ State.reset.sl.config = none) ∧
  (State.reset.mp.istat = 0#6 ∧ State.reset.mp.ien = 0#6 ∧ State.reset.mp.ctrlCode = 0#4 ∧
    State.reset.mp.ctrlResult = .none ∧ State.reset.mp.cmdsub = .none ∧ State.reset.mp.cmdack = .none ∧ State.reset.mp.cfgPtr = 0 ∧ State.reset.mp.stepPtr = 0 ∧ State.reset.mp.stepPtrHeld = 0#8 ∧
    State.reset.mp.snapPtr = 0 ∧ State.reset.mp.cfgStaging = [] ∧ State.reset.mp.stepStaging = [] ∧
    State.reset.mp.stepsStaged = false ∧ State.reset.mp.snapState = .idle ∧ State.reset.mp.snapshot = none ∧
    State.reset.mp.discardTimer = none ∧ State.reset.mp.frame = none ∧ State.reset.mp.capture = none ∧
    State.reset.registerByte 0x01#7 = 0x00#8) ∧
  State.reset.pending = []

/-- FULL_RESET puts every block in the condition of `State.reset`, whatever it was doing; the line, the input pins and the model's own clock, choice count
and queue stay as they are (assumption 2), and a frame in progress is not served after the release. Where the manual gives no value, the value of
`State.reset` is the model's choice (assumptions 11 and 12). FULL_RESET_RELEASE in RESET: the straps become the own position, SL is READING with its read
due 1 ms later, PC is LOADING without PART, a pending change of 100 ms begins on each line whose inputs are not both low, and a frame in progress, which
one is while SCS is low, is not served. Outside RESET there is no full reset to release, and nothing changes (assumption 3). -/
def Obligations.FullResetAndItsRelease : Prop :=
  (∀ s : State, exec .fullReset s = .next
    { State.reset with
        vbi := { State.reset.vbi with lineLow := s.vbi.lineLow, lowSince := s.vbi.lowSince }
        mp := { State.reset.mp with deaf := s.mp.deaf || s.mp.frame.isSome }
        pins := s.pins, now := s.now, choices := s.choices, pending := s.pending }) ∧
  ((∀ (pos : ReleasePins) (s : State), s.participation = .reset → s.cm = Cm.reset → s.sl.config = none →
    let line : Fin 4 → LineFilter := fun n =>
      if rawLevel s.pins.sf[n] s.pins.sd[n] = .clear then ⟨.clear, none⟩
      else ⟨.clear, some (rawLevel s.pins.sf[n] s.pins.sd[n], s.now + ms 100)⟩
    exec (.fullResetRelease pos) s = .next
      { s with
          sl := { s.sl with ownPos := pos.straps, loadState := .reading, phase := .settling (s.now + ms 1) }
          pc := { s.pc with participation := .loading }
          cm := { s.cm with filters := #v[line 0, line 1, line 2, line 3] }
          mp := { s.mp with deaf := s.mp.deaf || pos.scsLow } }) ∧
  (∀ (pos : ReleasePins) (s : State), s.participation ≠ .reset → exec (.fullResetRelease pos) s = .next s))

/-- In RESET the port takes nothing: no host command changes anything, but for the mark that a frame has begun there. Such a frame is not served to
its end, and so no host command does anything while the mark stands. In a frame in progress no data byte is written or read but at its address and in its
direction, and no group is captured but by a read that comes to its first byte (assumption 7). -/
def Obligations.PortIsDeafInReset : Prop :=
  (∀ (c : Instr) (s : State), portCommand c = true → s.participation = .reset →
    ((∀ b : Byte, c ≠ .commandByteReceived b) → exec c s = .next s) ∧
    (∀ b : Byte, c = .commandByteReceived b → exec c s = .next { s with mp := { s.mp with deaf := true } })) ∧
  (∀ (c : Instr) (s : State), portCommand c = true → s.participation ≠ .reset → s.mp.deaf = true → exec c s = .next s) ∧
  (∀ (c : Instr) (write : Bool) (a : BitVec 7) (s : State) (f : Frame),
    access c = some (write, a) → s.mp.frame = some f → f.write ≠ write ∨ f.address ≠ a → exec c s = .next s) ∧
  (∀ (g : Group) (s : State) (f : Frame),
    s.mp.frame = some f → f.write = true ∨ addressAfter f.address ≠ groupAddress g → exec (.groupCapture g) s = .next s)

/-! ## The EEPROM read -/

/-- The events of the address phase, with what SL does on its two lines: the read begins 1 ms after the release with attempt 1; with SDA low, SL pulses
SCL until it is high, nine times at most, and makes a STOP; an attempt is a START, 0xAC, 0x00, 0x00, a repeated START and 0xAD, and succeeds when SDA is
free and the four bytes are acknowledged, a byte not acknowledged being followed by a STOP; a failed attempt, one stretched for 10 ms included, is followed
by the next after 5 ms, and the third ends the read with NO_DEVICE; a stretch releases both lines, and during the image it ends the read at once. An event
that cannot occur changes nothing (assumption 3; assumption 17 has what the manual leaves open of the lines). -/
def Obligations.AddressPhaseOfTheRead : Prop :=
  (∀ (s : State) (due : Ticks), s.sl.phase = .settling due →
    exec .loadReadStart s = .next { s with now := max s.now due, sl := { s.sl with phase := .addressing 1, wire := [] } }) ∧
  (∀ (s : State) (n : Nat) (due : Ticks), s.sl.phase = .pausing n due →
    exec .addressAttemptRetry s = .next { s with now := max s.now due, sl := { s.sl with phase := .addressing (n + 1), wire := [] } }) ∧
  (∀ (s : State) (n : Nat) (p : AddressPhase), s.sl.phase = .addressing n →
    (p.sdaHighAfter ≤ 9 ∧ p.ackWrite = true ∧ p.ackOffsetHigh = true ∧ p.ackOffsetLow = true ∧ p.ackRead = true) →
    exec (.addressPhaseAttempt p) s = .next { s with sl := { s.sl with
      phase := .receiving
      wire := (if p.sdaHighAfter = 0 then [] else List.replicate p.sdaHighAfter .pulse ++ [.stop]) ++
        [.start, .send 0xAC#8, .send 0x00#8, .send 0x00#8, .start, .send 0xAD#8] } }) ∧
  (∀ (s : State) (n : Nat) (c : Instr) (wire : List I2cAction), s.sl.phase = .addressing n →
    (c = .clockStretchTimeout ∧ wire = [.release] ∨ ∃ p : AddressPhase, c = .addressPhaseAttempt p ∧ wire = addressActions p ∧
      (9 < p.sdaHighAfter ∨ p.ackWrite = false ∨ p.ackOffsetHigh = false ∨ p.ackOffsetLow = false ∨ p.ackRead = false)) →
    (n < 3 → exec c s = .next { s with sl := { s.sl with phase := .pausing n (s.now + ms 5), wire := wire } }) ∧
    (3 ≤ n → exec c s = .next
      { s with
          sl := { s.sl with loadState := .failed, loadCause := .noDevice, phase := .ended, image := [], wire := wire }
          pc := { s.pc with participation := .unconfigured }
          mp := { s.mp with istat := s.mp.istat ||| 0b000001#6 } })) ∧
  (∀ p : AddressPhase,
    let check : List I2cAction := if p.sdaHighAfter = 0 then [] else List.replicate p.sdaHighAfter .pulse ++ [.stop]
    (9 < p.sdaHighAfter → addressActions p = List.replicate 9 .pulse ++ [.stop]) ∧
    (p.sdaHighAfter ≤ 9 →
      (p.ackWrite = false → addressActions p = check ++ [.start, .send 0xAC#8, .stop]) ∧
      (p.ackWrite = true → p.ackOffsetHigh = false → addressActions p = check ++ [.start, .send 0xAC#8, .send 0x00#8, .stop]) ∧
      (p.ackWrite = true → p.ackOffsetHigh = true → p.ackOffsetLow = false →
        addressActions p = check ++ [.start, .send 0xAC#8, .send 0x00#8, .send 0x00#8, .stop]) ∧
      (p.ackWrite = true → p.ackOffsetHigh = true → p.ackOffsetLow = true → p.ackRead = false →
        addressActions p = check ++ [.start, .send 0xAC#8, .send 0x00#8, .send 0x00#8, .start, .send 0xAD#8, .stop]))) ∧
  (∀ s : State, s.sl.phase = .receiving → exec .clockStretchTimeout s = .next
      { s with
          sl := { s.sl with loadState := .failed, loadCause := .noDevice, phase := .ended, image := [], wire := [.release] }
          pc := { s.pc with participation := .unconfigured }
          mp := { s.mp with istat := s.mp.istat ||| 0b000001#6 } }) ∧
  (∀ l : Sl, l.drivesBus = true ↔ l.phase = .receiving ∨ ∃ n, l.phase = .addressing n) ∧
  (∀ s : State, (∀ due, s.sl.phase ≠ .settling due) → exec .loadReadStart s = .next s) ∧
  (∀ s : State, (∀ n due, s.sl.phase ≠ .pausing n due) → exec .addressAttemptRetry s = .next s) ∧
  (∀ (s : State) (p : AddressPhase), (∀ n, s.sl.phase ≠ .addressing n) → exec (.addressPhaseAttempt p) s = .next s) ∧
  (∀ s : State, (∀ n, s.sl.phase ≠ .addressing n) → s.sl.phase ≠ .receiving → exec .clockStretchTimeout s = .next s) ∧
  (∀ (s : State) (b : Byte), s.sl.phase ≠ .receiving → exec (.imageByteReceived b) s = .next s)

/-- IMAGE_BYTE_RECEIVED. While the bytes so far do not settle the read, the byte is counted, kept and acknowledged: below 31 bytes of a short image,
below 67 of a full one, and below 69 + 8 × step count of a full one whose step count is at most 256. The byte that ends the read is answered with no
acknowledge and a STOP: byte 0 is no format (NO_IMAGE), the step count is above 256 (INVALID), or the last byte needed has come. Then a CRC that differs
gives CRC, a block, directory or step that fails its checks INVALID; otherwise the image is put in force. -/
def Obligations.ImageBytesUntilTheReadEnds : Prop :=
  (∀ (s : State) (b : Byte), s.sl.phase = .receiving →
    let l := s.sl.image ++ [b]
    let count := 256 * (byteAt l 65).toNat + (byteAt l 66).toNat
    ((byteAt l 0 = 0x3C#8 ∧ l.length < 31) ∨ (byteAt l 0 = 0xC3#8 ∧ l.length < 67) ∨
      (byteAt l 0 = 0xC3#8 ∧ 67 ≤ l.length ∧ count ≤ 256 ∧ l.length < 69 + 8 * count)) →
    exec (.imageByteReceived b) s = .next
      { s with sl :=
          { s.sl with
              image := l, byteCount := s.sl.byteCount + 1, wire := [.ack],
              formatFound := if l.length = 1 then some b else s.sl.formatFound,
              stepCountFound := if l.length = 67 ∧ byteAt l 0 = 0xC3#8 then some count else s.sl.stepCountFound } }) ∧
  (∀ (s : State) (b : Byte), s.sl.phase = .receiving →
    let l := s.sl.image ++ [b]
    let count := 256 * (byteAt l 65).toNat + (byteAt l 66).toNat
    let got : Sl :=
      { s.sl with
          image := l, byteCount := s.sl.byteCount + 1, wire := [.nack, .stop],
          formatFound := if l.length = 1 then some b else s.sl.formatFound,
          stepCountFound := if l.length = 67 ∧ byteAt l 0 = 0xC3#8 then some count else s.sl.stepCountFound }
    let n := l.length - 2
    let crcs := (crc16 (l.take n), BitVec.ofNat 16 (256 * (byteAt l n).toNat + (byteAt l (n + 1)).toNat))
    let fails : Sl → LoadCause → State := fun sl c =>
      { s with
          sl := { sl with loadState := .failed, loadCause := c, phase := .ended, image := [] }
          pc := { s.pc with participation := .unconfigured }
          mp := { s.mp with istat := s.mp.istat ||| 0b000001#6 } }
    let area := (l.drop 1).take 28
    let whole := (byteAt l 0 = 0x3C#8 ∧ l.length = 31) ∨
      (byteAt l 0 = 0xC3#8 ∧ 67 ≤ l.length ∧ count ≤ 256 ∧ l.length = 69 + 8 * count)
    let directory := (l.drop 29).take 36
    let steps := (List.range count).map fun i => stepRecordAt (byteAt l) (67 + 8 * i)
    ((byteAt l 0 ≠ 0x3C#8 ∧ byteAt l 0 ≠ 0xC3#8) → exec (.imageByteReceived b) s = .next (fails got .noImage)) ∧
    ((byteAt l 0 = 0xC3#8 ∧ 67 ≤ l.length ∧ 256 < count) → exec (.imageByteReceived b) s = .next (fails got .invalid)) ∧
    (whole → crcs.1 ≠ crcs.2 → exec (.imageByteReceived b) s = .next (fails { got with crcs := some crcs } .crc)) ∧
    (whole → crcs.1 = crcs.2 →
      (blockValid s.sl.ownPos area = false ∨ (byteAt l 0 = 0xC3#8 ∧ stepsValid directory count steps = false)) →
      exec (.imageByteReceived b) s = .next (fails { got with crcs := some crcs } .invalid)) ∧
    (whole → crcs.1 = crcs.2 → blockValid s.sl.ownPos area = true → byteAt l 0 = 0x3C#8 →
      exec (.imageByteReceived b) s = .next
        (({ s with sl := { got with crcs := some crcs } }).freeze .eepromShort (frozenOf area defaultDirectory defaultSteps))) ∧
    (whole → crcs.1 = crcs.2 → blockValid s.sl.ownPos area = true → byteAt l 0 = 0xC3#8 →
      stepsValid directory count steps = true →
      exec (.imageByteReceived b) s = .next
        (({ s with sl := { got with crcs := some crcs } }).freeze .eepromFull (frozenOf area directory steps))))

/-! ## The checks of a configuration -/

/-- A group configuration block is valid exactly when it passes the checks of R16, a PAIRED backup and the primary it names naming each other
(R3; assumption 9). A directory and its step records are valid exactly when they pass the checks of R160. -/
def Obligations.ConfigurationChecksAreTheTables : Prop :=
  (∀ (own : Pos) (a : List Byte), blockValid own a = true ↔
    (blockRoleCode a own = 1 ∨ blockRoleCode a own = 2) ∧
    (∀ n : Pos, blockRoleCode a n ≠ 3) ∧
    (∃ n : Pos, blockRoleCode a n = 1) ∧ (∃ n : Pos, blockRoleCode a n = 2) ∧
    ((byteAt a 20).getLsbD 0 = true ∨
      (∀ n : Pos, blockRoleCode a n = 2 → ∃ q : Pos, blockPartner a n = some q ∧ blockRoleCode a q = 1 ∧ blockPartner a q = some n) ∧
      (∀ n q : Pos, blockRoleCode a n = 1 → blockPartner a n = some q → blockRoleCode a q = 2 ∧ blockPartner a q = some n) ∧
      (∀ n : Pos, blockRoleCode a n = 0 → blockPartner a n = none)) ∧
    256 * (byteAt a 21).toNat + (byteAt a 22).toNat ≤ 1023 ∧
    4 ≤ (byteAt a 23).toNat ∧ (byteAt a 23).toNat ≤ 16) ∧
  (∀ (d : List Byte) (count : Nat) (l : List StepRecord), stepsValid d count l = true ↔
    count ≤ 256 ∧ (∀ b ∈ d, b = 0xFF#8 ∨ b.toNat < count) ∧
    ∀ r ∈ l, r.nextIndex.toNat < count ∧ r.fallbackIndex.toNat < count ∧
      (((r.kind = some .drive ∨ r.kind = some .release) ∧ r.first16 < 4096) ∨
        (r.kind = some .dwell ∧ 1 ≤ r.duration) ∨
        (r.kind = some .await ∧ 1 ≤ r.timeout ∧ r.retryTarget.toNat < count)))

/-- The two checksums byte by byte: the register starts at 0x00 (CRC-8) or 0xFFFF (CRC-16), a byte is combined into it, and it is shifted left eight
times, the generator being combined in after each shift that pushes a 1 out. -/
def Obligations.ChecksumsFollowTheirGenerators : Prop :=
  crc8 [] = 0x00#8 ∧ crc16 [] = 0xFFFF#16 ∧
  (∀ (l : List Byte) (b : Byte), crc8 (l ++ [b]) =
    (fun r : BitVec 8 => if r.getLsbD 7 then (r <<< 1) ^^^ 0x07#8 else r <<< 1)^[8] (crc8 l ^^^ b)) ∧
  (∀ (l : List Byte) (b : Byte), crc16 (l ++ [b]) =
    (fun r : BitVec 16 => if r.getLsbD 15 then (r <<< 1) ^^^ 0x1021#16 else r <<< 1)^[8] (crc16 l ^^^ (b.zeroExtend 16 <<< 8)))

/-! ## The freeze and START -/

/-- The freeze: SL is FROZEN with the configuration in force; every entry of the table is cleared with the block's role; PC enters LISTENING with PART
raised, the receiver leaves OFF by the level of the line and the epoch timer is due 2 ms later; each line filter is judged with the frozen holdoffs; and
START is offered to the engine as it stands, whatever the directory and the records frozen: an IDLE engine runs its sequence. CU, the pins and the clock
stay as they were. -/
def Obligations.FreezePutsTheConfigurationInForce : Prop :=
  ∀ (src : LoadSource) (f : Frozen) (s : State), s.vbi.receiver = .off → s.participation.timed = false →
    let t := s.freeze src f
    t.sl = { s.sl with loadState := .frozen, loadCause := .none, loadSource := src, phase := .ended, image := [], config := some f } ∧
    (∀ n : Pos, t.gtu.entry n =
      { role := blockRole f.area n, presence := if blockRole f.area n = .empty then .absent else .lost, runCount := 0,
        condition := .clear, locked := false, faulted := false, assignment := .none, partner := none, cls := .none, waitRank := 0 }) ∧
    t.gtu.waitList = [] ∧ t.gtu.sliceIndex = 0 ∧ t.gtu.requested = .released ∧
    t.pc = { s.pc with participation := .listening, cleanCount := 0, verifyCount := 0, noNarratorCount := 0, syncHistory := [] } ∧
    t.vbi = { s.vbi with receiver := if s.vbi.lineLow then .blocked else .seeking, epochTimer := some (s.now + ms 2) } ∧
    (∀ n : Fin 4,
      let worse := (s.filter n).filtered.code < (s.raw n).code
      let hold := if worse then (byteAt f.area 25).toNat else (byteAt f.area 26).toNat
      t.filter n =
        if s.raw n = (s.filter n).filtered then ⟨(s.filter n).filtered, none⟩
        else if hold = 0 then ⟨s.raw n, none⟩
        else ⟨(s.filter n).filtered, some (s.raw n, s.now + ms 10 * hold)⟩) ∧
    t.mp.istat.getLsbD 0 = true ∧
    (∃ u : State, t = u.offer .start ∧ u.ae = s.ae ∧ u.sl = t.sl ∧ u.gtu = t.gtu ∧ u.pc = t.pc ∧ u.vbi = t.vbi ∧ u.cu = s.cu ∧ u.pins = s.pins ∧
      u.now = s.now ∧ u.cm.filters = t.cm.filters ∧ u.mp = { s.mp with istat := u.mp.istat } ∧
      (s.ae.engine = .idle → t.ae = (({ u with ae := { s.ae with debt := s.ae.debt + 1 } }).runQueue [.start]).ae)) ∧
    (s.ae.engine = .stopped ∨ s.ae.engine = .faulted → t.ae = s.ae) ∧
    (s.ae.engine = .held → s.ae.queue.length < 4 → t.ae = { s.ae with queue := s.ae.queue ++ [.start], debt := s.ae.debt + 1 }) ∧
    (s.ae.engine = .idle → f.directory = defaultDirectory → f.steps = defaultSteps →
      t.ae.engine = .idle ∧ t.ae.outputs = 0#12 ∧ t.ae.actuated = .released ∧ t.ae.debt = s.ae.debt) ∧
    t.mp = { s.mp with istat := t.mp.istat } ∧ t.cu = s.cu ∧ t.pins = s.pins ∧ t.now = s.now ∧ t.choices = s.choices ∧ t.pending = s.pending

/-- START in UNCONFIGURED, where its write is taken: a staging whose checks pass is frozen, with the built-in steps when none are staged; one whose
checks fail changes the load cause to INVALID. CTRL reads accepted in both cases. -/
def Obligations.StartChecksTheStaging : Prop :=
  ∀ s : State, s.takesWrite 0x01#7 = true → s.participation = .unconfigured →
    let area := s.mp.cfgStaging.bytes 0 28
    let directory := s.mp.stepStaging.bytes 0 36
    let count := 256 * (s.mp.stepStaging.read 36).toNat + (s.mp.stepStaging.read 37).toNat
    let steps := (List.range (min count 256)).map fun i => stepRecordAt s.mp.stepStaging.read (38 + 8 * i)
    (blockValid s.sl.ownPos area = true → s.mp.stepsStaged = false →
      exec .start s = .next (((s.freeze .hostShort (frozenOf area defaultDirectory defaultSteps)).ctrlReads 1#4 .accepted).wrote 0x01#7)) ∧
    (blockValid s.sl.ownPos area = true → s.mp.stepsStaged = true → stepsValid directory count steps = true →
      exec .start s = .next (((s.freeze .hostFull (frozenOf area directory steps)).ctrlReads 1#4 .accepted).wrote 0x01#7)) ∧
    ((blockValid s.sl.ownPos area = false ∨ (s.mp.stepsStaged = true ∧ stepsValid directory count steps = false)) →
      exec .start s = .next
        { s with
            sl := { s.sl with loadCause := .invalid }
            mp := { s.mp with ctrlCode := 1#4, ctrlResult := .accepted, frame := s.mp.frame.map (Frame.wrote 0x01#7) } })

/-! ## Control commands -/

/-- REJOIN in ISOLATED or CONFLICT enters LISTENING: the counters at 0, the sync history empty, the epoch timer due 2 ms later, PART raised. A control
command its block refuses, and a code that names none, change nothing but CTRL's read-back and the frame's address. -/
def Obligations.RejoinAndRefusedControls : Prop :=
  (∀ s : State, s.takesWrite 0x01#7 = true → s.participation = .isolated ∨ s.participation = .conflict → s.vbi.receiver ≠ .off →
    exec .rejoin s = .next
      { s with
          pc := { s.pc with participation := .listening, cleanCount := 0, verifyCount := 0, noNarratorCount := 0, syncHistory := [] }
          vbi := { s.vbi with epochTimer := some (s.now + ms 2) }
          mp := { s.mp with
            istat := s.mp.istat ||| 0b000001#6, ctrlCode := 2#4, ctrlResult := .accepted,
            frame := s.mp.frame.map (Frame.wrote 0x01#7) } }) ∧
  (∀ s : State, s.takesWrite 0x01#7 = true →
    let refused : BitVec 4 → State := fun code =>
      { s with mp := { s.mp with ctrlCode := code, ctrlResult := .refused, frame := s.mp.frame.map (Frame.wrote 0x01#7) } }
    (s.participation ≠ .unconfigured → exec .start s = .next (refused 1#4)) ∧
    (s.participation ≠ .isolated → s.participation ≠ .conflict → exec .rejoin s = .next (refused 2#4)) ∧
    (s.participation = .loading → exec .softReset s = .next (refused 3#4)) ∧
    (s.ae.engine ≠ .idle → s.ae.engine ≠ .running → exec .hold s = .next (refused 4#4)) ∧
    (s.ae.engine = .idle ∨ s.ae.engine = .running ∨ s.ae.engine = .faulted → exec .resume s = .next (refused 5#4)) ∧
    (s.ae.engine = .faulted → exec .stop s = .next (refused 6#4)) ∧
    (s.ae.engine ≠ .faulted → exec .clearFault s = .next (refused 7#4)) ∧
    (s.mp.snapState = .idle → exec .snapRelease s = .next (refused 9#4)) ∧
    (∀ code : Byte, (code = 0x00#8 ∨ 0x09#8 < code) →
      exec (.ctrlUnknownCode code) s = .next (refused (code.extractLsb' 0 4))))

/-- SOFT_RESET where its write is taken, in any state but LOADING. AE: any sequence is abandoned, the queue and the debt are empty, the engine is
IDLE with UNKNOWN if a sequence was in progress, the outputs stay, and the fault record loses its cause alone (assumption 11); then in every state but
UNCONFIGURED the WITHDRAW of the own role is offered. CU keeps the next tag alone; MP's results read NONE, a READY snapshot is discarded and an ARMED one
captured with kind SOFT from the table as it stood; from LEARNING and IN_STEP the station goes to LISTENING with cause SOFT and its table cleared, in
LISTENING its counters start again, elsewhere PC and the table stay. The status is cleared before the WITHDRAW: no PART, OWNCOVER or CMDDONE stands
afterwards, ENGINE exactly when the WITHDRAW has failed, SNAP exactly for a capture, and COND for a change of the own condition by the WITHDRAW, and not
without a change. Whether a change by the engine's own soft reset leaves COND standing is the part's (assumption 4). -/
def Obligations.SoftReset : Prop :=
  (∀ s : State, s.takesWrite 0x01#7 = true → s.participation ≠ .loading → Started s → SnapshotUnitShaped s →
    let withdraw : Directive := if s.ownRole = .backup then .releaseAll else .reclaim
    ∃ t : State, exec .softReset s = .next t ∧
      (s.participation = .unconfigured → t.ae = s.engineSoftReset.ae ∧ t.cm = s.engineSoftReset.cm) ∧
      (s.participation ≠ .unconfigured →
        t.ae = (s.engineSoftReset.offer withdraw).ae ∧ t.cm = (s.engineSoftReset.offer withdraw).cm) ∧
      t.cu = { table := [], nextTag := s.cu.nextTag, offered := .none, wtrTimer := none, restoreFull := false } ∧
      t.mp = { s.mp with
        frame := s.mp.frame.map (Frame.wrote 0x01#7), ctrlCode := 3#4, ctrlResult := .accepted, cmdsub := .none, cmdack := .none,
        istat := t.mp.istat,
        snapState := if s.mp.snapState = .armed then .ready else .idle,
        snapPtr := if s.mp.snapState = .armed then 0 else s.mp.snapPtr,
        snapTaken := if s.mp.snapState = .idle then s.mp.snapTaken else false,
        discardTimer := if s.mp.snapState = .armed then some (s.now + ms 250) else none,
        snapshot := if s.mp.snapState = .armed then
            some { kind := .soft, notInStep := true, participation := .listening, sliceIndex := s.gtu.sliceIndex,
                   waitList := s.gtu.waitList, entries := s.gtu.entries }
          else none } ∧
      (t.mp.istat.getLsbD 0 = false ∧ t.mp.istat.getLsbD 1 = false ∧ t.mp.istat.getLsbD 2 = false ∧
        (t.mp.istat.getLsbD 3 = true ↔ t.ae.engine = .faulted) ∧ (t.cm.own = s.cm.own → t.mp.istat.getLsbD 4 = false) ∧
        (t.cm.own ≠ s.engineSoftReset.cm.own → t.mp.istat.getLsbD 4 = true) ∧
        (t.mp.istat.getLsbD 5 = true ↔ s.mp.snapState = .armed)) ∧
      (s.participation = .learning ∨ s.participation = .inStep →
        t.pc = { s.pc with participation := .listening, cause := .soft, cleanCount := 0, verifyCount := 0, noNarratorCount := 0,
                           syncHistory := [] } ∧
        t.gtu = Gtu.cleared (blockRole s.area)) ∧
      (s.participation = .listening →
        t.pc = { s.pc with cleanCount := 0, verifyCount := 0, noNarratorCount := 0, syncHistory := [] } ∧ t.gtu = s.gtu) ∧
      (s.participation = .unconfigured ∨ s.participation = .isolated ∨ s.participation = .conflict → t.pc = s.pc ∧ t.gtu = s.gtu) ∧
      t.cm.filters = s.cm.filters ∧ t.vbi = s.vbi ∧ t.sl = s.sl ∧ t.pins = s.pins ∧ t.now = s.now ∧ t.choices = s.choices + 1 ∧
      t.pending = s.pending) ∧
  (∀ s : State, s.engineSoftReset.ae =
    { engine := .idle, queue := [], running := none, debt := 0,
      actuated := if s.ae.engine = .running ∨ s.ae.engine = .holding then .unknown else s.ae.actuated,
      stepIndex := none, stepCount := 0, retryCount := 0, retryOwner := none, fallbackTaken := false,
      fault := { s.ae.fault with cause := .none }, outputs := s.ae.outputs, driven := s.ae.driven, waiting := .none })

/-- HOLD by engine state: IDLE becomes HELD with ENGINE raised, RUNNING becomes HOLDING, and every other state refuses. A HOLDING engine becomes HELD at
its completion; in HELD an offer begins no sequence, and the debt counts the queue. -/
def Obligations.HoldByEngineState : Prop :=
  ∀ s : State, s.takesWrite 0x01#7 = true →
    (s.ae.engine = .idle → exec .hold s = .next
      { s with
          ae := { s.ae with engine := .held }
          mp := { s.mp with
            istat := s.mp.istat ||| 0b001000#6, ctrlCode := 4#4, ctrlResult := .accepted,
            frame := s.mp.frame.map (Frame.wrote 0x01#7) } }) ∧
    (s.ae.engine = .running → exec .hold s = .next
      { s with
          ae := { s.ae with engine := .holding }
          mp := { s.mp with ctrlCode := 4#4, ctrlResult := .accepted, frame := s.mp.frame.map (Frame.wrote 0x01#7) } }) ∧
    (s.ae.engine = .holding ∨ s.ae.engine = .held ∨ s.ae.engine = .stopped ∨ s.ae.engine = .faulted → exec .hold s = .next
      { s with mp := { s.mp with ctrlCode := 4#4, ctrlResult := .refused, frame := s.mp.frame.map (Frame.wrote 0x01#7) } }) ∧
    (s.ae.engine = .holding → ∀ d : Directive, (s.sequenceCompletes d).ae.engine = .held) ∧
    (s.ae.engine = .held → s.ae.queue.length < 4 → ∀ d : Directive,
      (s.offer d).ae.engine = .held ∧ (s.offer d).ae.running = s.ae.running ∧ (s.offer d).ae.actuated = s.ae.actuated) ∧
    (s.ae.engine = .held → EngineAccounts s → (s.outgoingNow.owesWork = true ↔ s.ae.queue ≠ []))

/-- RESUME by engine state: HOLDING becomes RUNNING; HELD begins the oldest queued directive, or becomes IDLE with none; STOPPED becomes IDLE and GTU
reconciles; IDLE, RUNNING and FAULTED refuse. -/
def Obligations.ResumeByEngineState : Prop :=
  ∀ s : State, s.takesWrite 0x01#7 = true →
    (s.ae.engine = .holding → exec .resume s = .next
      { s with
          ae := { s.ae with engine := .running }
          mp := { s.mp with ctrlCode := 5#4, ctrlResult := .accepted, frame := s.mp.frame.map (Frame.wrote 0x01#7) } }) ∧
    (s.ae.engine = .held → exec .resume s = .next (((s.runQueue s.ae.queue).ctrlReads 5#4 .accepted).wrote 0x01#7)) ∧
    (s.ae.engine = .held → s.ae.queue = [] → s.cm.monitorActive = s.monitorCalled → exec .resume s = .next
      { s with
          ae := { s.ae with engine := .idle }
          mp := { s.mp with ctrlCode := 5#4, ctrlResult := .accepted, frame := s.mp.frame.map (Frame.wrote 0x01#7) } }) ∧
    (∀ (d : Directive) (rest : List Directive) (i : Nat), s.ae.engine = .held → s.ae.queue = d :: rest → s.dirEntry d = some i →
      ∃ t : State, exec .resume s = .next t ∧
        (∀ r : StepRecord, s.steps[i]? = some r → r.kind = some .dwell →
          t.ae = { s.ae with
            engine := .running, queue := rest, running := some d, fallbackTaken := false, retryCount := 0, retryOwner := none,
            stepCount := 1, stepIndex := some i, waiting := .dwell (s.now + us 100 * r.duration) }) ∧
        t.mp.ctrlCode = 5#4 ∧ t.mp.ctrlResult = .accepted ∧
        t.vbi = s.vbi ∧ t.pc = s.pc ∧ t.gtu = s.gtu ∧ t.cu = s.cu ∧ t.sl = s.sl ∧ t.pins = s.pins ∧ t.now = s.now ∧
        t.choices = s.choices ∧ t.pending = s.pending) ∧
    (∀ (d : Directive) (rest : List Directive), s.ae.engine = .held → s.ae.queue = d :: rest → s.dirEntry d = none →
      exec .resume s = .next (((s.runQueue (d :: rest)).ctrlReads 5#4 .accepted).wrote 0x01#7) ∧
      s.runQueue (d :: rest) = (({ s with ae := { s.ae with queue := rest } }).completed d).runQueue rest) ∧
    (s.ae.engine = .stopped → exec .resume s = .next
      (((({ s with ae := { s.ae with engine := .idle } }).reconcile).ctrlReads 5#4 .accepted).wrote 0x01#7)) ∧
    (s.ae.engine = .idle ∨ s.ae.engine = .running ∨ s.ae.engine = .faulted → exec .resume s = .next
      { s with mp := { s.mp with ctrlCode := 5#4, ctrlResult := .refused, frame := s.mp.frame.map (Frame.wrote 0x01#7) } })

/-- STOP from any engine state but FAULTED: the sequence is abandoned, the queue and the debt are empty, the actuated state is UNKNOWN and the engine
STOPPED; the outputs and the fault record stay, ENGINE is not raised, and the change is reported to CM. -/
def Obligations.StopTakesTheEngineOut : Prop :=
  ∀ s : State, s.takesWrite 0x01#7 = true → s.ae.engine ≠ .faulted →
    exec .stop s = .next
      ((({ s with ae :=
            { s.ae with engine := .stopped, queue := [], running := none, debt := 0, waiting := .none,
                        actuated := .unknown } }).judgeMonitor.ctrlReads 6#4 .accepted).wrote 0x01#7) ∧
    (s.cm.monitorActive = false → exec .stop s = .next
      { s with
          ae := { s.ae with engine := .stopped, queue := [], running := none, debt := 0, waiting := .none, actuated := .unknown }
          mp := { s.mp with ctrlCode := 6#4, ctrlResult := .accepted, frame := s.mp.frame.map (Frame.wrote 0x01#7) } })

/-- CLEAR_FAULT in FAULTED makes the engine IDLE, keeps the fault record, and GTU reconciles; any other engine state refuses it. -/
def Obligations.ClearFaultByEngineState : Prop :=
  ∀ s : State, s.takesWrite 0x01#7 = true →
    (s.ae.engine = .faulted → exec .clearFault s = .next
      (((({ s with ae := { s.ae with engine := .idle } }).reconcile).ctrlReads 7#4 .accepted).wrote 0x01#7)) ∧
    (s.ae.engine = .faulted → s.participation = .loading ∨ s.participation = .unconfigured → exec .clearFault s = .next
      { s with
          ae := { s.ae with engine := .idle }
          gtu := { s.gtu with requested := .released }
          mp := { s.mp with ctrlCode := 7#4, ctrlResult := .accepted, frame := s.mp.frame.map (Frame.wrote 0x01#7) } }) ∧
    (s.ae.engine ≠ .faulted → exec .clearFault s = .next
      { s with mp := { s.mp with ctrlCode := 7#4, ctrlResult := .refused, frame := s.mp.frame.map (Frame.wrote 0x01#7) } })

/-- Reconciliation, at an entry to IN_STEP and after a recovery. The outcome state is the one the newest queued directive sets, or the running one with
an empty queue, while AE owes work, and the actuated state otherwise. IN_STEP and LEARNING take a known outcome state as the requested state, and from
UNKNOWN offer RELEASE-ALL with the requested state RELEASED; IN_STEP then makes the comparison of the directive stage once. With START still running the
outcome state is RELEASED, and nothing is asked in a part that follows R166 there, while in one that follows R148 and R105 the RECLAIM of a primary in NONE
is queued behind START (assumption 27). LISTENING, ISOLATED and CONFLICT offer the WITHDRAW of the own role unless the outcome state is the one it sets;
before the freeze nothing is offered. Of the table the requested state alone changes. -/
def Obligations.ReconciliationByParticipation : Prop :=
  (∀ (s : State) (o : ActState), EngineAccounts s →
    let owes := s.ae.engine = .running ∨ s.ae.engine = .holding ∨ (s.ae.engine = .held ∧ s.ae.queue ≠ [])
    (owes → (∀ (l : List Directive) (d : Directive), s.ae.queue = l ++ [d] → o = d.target) ∧
      (s.ae.queue = [] → ∀ d : Directive, s.ae.running = some d → o = d.target)) →
    (¬owes → o = s.ae.actuated) →
    let asked : ActState → State := fun a => { s with gtu := { s.gtu with requested := a } }
    let withdraw : Directive := if s.ownRole = .backup then .releaseAll else .reclaim
    (s.participation = .inStep →
      (o ≠ .unknown → s.reconcile = (asked o).directiveStage) ∧
      (o = .unknown → s.reconcile = ((asked .released).offer .releaseAll).directiveStage)) ∧
    (s.participation = .learning →
      (o ≠ .unknown → s.reconcile = asked o) ∧ (o = .unknown → s.reconcile = (asked .released).offer .releaseAll)) ∧
    (s.participation = .listening ∨ s.participation = .isolated ∨ s.participation = .conflict →
      (o = withdraw.target → s.reconcile = s) ∧ (o ≠ withdraw.target → s.reconcile = s.offer withdraw)) ∧
    (s.participation = .reset ∨ s.participation = .loading ∨ s.participation = .unconfigured → s.reconcile = asked .released)) ∧
  ∀ s : State,
    (s.ae.engine = .idle → s.ae.actuated = .unknown →
      (s.participation = .learning → s.reconcile = ({ s with gtu := { s.gtu with requested := .released } }).offer .releaseAll) ∧
      (s.participation = .inStep →
        s.reconcile = (({ s with gtu := { s.gtu with requested := .released } }).offer .releaseAll).directiveStage) ∧
      (s.participation = .listening ∨ s.participation = .isolated ∨ s.participation = .conflict →
        s.reconcile = s.offer (if s.ownRole = .backup then .releaseAll else .reclaim)) ∧
      (s.participation = .reset ∨ s.participation = .loading ∨ s.participation = .unconfigured →
        s.reconcile = { s with gtu := { s.gtu with requested := .released } })) ∧
    (s.participation = .learning → s.ae.engine = .idle → s.ae.actuated ≠ .unknown →
      s.reconcile = { s with gtu := { s.gtu with requested := s.ae.actuated } }) ∧
    (∀ (d : Directive) (l : List Directive), s.participation = .learning → s.ae.engine = .running → s.ae.queue = l ++ [d] →
      s.reconcile = { s with gtu := { s.gtu with requested := d.target } }) ∧
    (∀ d : Directive, s.participation = .learning → s.ae.engine = .running → s.ae.queue = [] → s.ae.running = some d →
      s.reconcile = { s with gtu := { s.gtu with requested := d.target } }) ∧
    (s.participation = .inStep → s.ae.engine = .running → s.ae.running = some .start → s.ae.queue = [] →
      (Config.comparisonWaitsForStart = true → s.reconcile = { s with gtu := { s.gtu with requested := .released } }) ∧
      (Config.comparisonWaitsForStart = false → s.ownEntry.role = .primary → s.ownEntry.assignment = .none → s.reconcile =
        { s with
            gtu := { s.gtu with requested := .carrying }
            ae := { s.ae with queue := [.reclaim], debt := s.ae.debt + 1 } })) ∧
    (let t := s.reconcile
     t.vbi = s.vbi ∧ t.pc = s.pc ∧ t.gtu = { s.gtu with requested := t.gtu.requested } ∧ t.cu = s.cu ∧ t.sl = s.sl ∧
     t.cm.filters = s.cm.filters ∧ t.mp = { s.mp with istat := t.mp.istat } ∧ t.pins = s.pins ∧ t.now = s.now ∧ t.choices = s.choices ∧
     t.pending = s.pending)

/-! ## The vote bus -/

/-- The events of the line and of the driver that touch nothing else: a low stretch begins at the falling edge; it ends unrecognised, or the line goes
high while BLOCKED, which gives SEEKING; a recognised stretch ends, and the cells are timed from there; the own marker's 40 µs and a dominant cell's
3.5 µs end. Each changes nothing where its event cannot occur (assumption 3; while OFF the line may rise, assumption 10). -/
def Obligations.LineStretchesAndReleases : Prop :=
  ∀ s : State,
    (s.vbi.lineLow = false →
      exec .lowStretchBegin s = .next { s with vbi := { s.vbi with lineLow := true, lowSince := s.now } }) ∧
    (s.vbi.lineLow = true → exec .lowStretchBegin s = .next s) ∧
    (s.vbi.lineLow = true → s.vbi.receiver ≠ .inMarker → exec .shortStretchEnd s = .next
      { s with vbi := { s.vbi with
          lineLow := false, receiver := if s.vbi.receiver = .blocked then .seeking else s.vbi.receiver } }) ∧
    (s.vbi.lineLow = false ∨ s.vbi.receiver = .inMarker → exec .shortStretchEnd s = .next s) ∧
    (s.vbi.lineLow = true → s.vbi.receiver = .blocked →
      exec .lineReleased s = .next { s with vbi := { s.vbi with lineLow := false, receiver := .seeking } }) ∧
    (s.vbi.lineLow = true → s.vbi.receiver = .off → exec .lineReleased s = .next { s with vbi := { s.vbi with lineLow := false } }) ∧
    (s.vbi.lineLow = false ∨ (s.vbi.receiver ≠ .blocked ∧ s.vbi.receiver ≠ .off) → exec .lineReleased s = .next s) ∧
    (s.vbi.receiver = .inMarker → exec .markerEnd s = .next
      { s with vbi := { s.vbi with receiver := .inCells, lineLow := false, markerEnd := s.now } }) ∧
    (s.vbi.receiver ≠ .inMarker → exec .markerEnd s = .next s) ∧
    (∀ (since : Ticks) (heard : Bool), s.vbi.driver = .marker since heard → exec .markerDriveRelease s = .next
      { s with now := max s.now (since + us 40), vbi := { s.vbi with driver := .released } }) ∧
    ((∀ (since : Ticks) (heard : Bool), s.vbi.driver ≠ .marker since heard) → exec .markerDriveRelease s = .next s) ∧
    (∀ since : Ticks, s.vbi.driver = .cell since → exec .dominantCellRelease s = .next
      { s with now := max s.now (since + 35), vbi := { s.vbi with driver := .released } }) ∧
    ((∀ since : Ticks, s.vbi.driver ≠ .cell since) → exec .dominantCellRelease s = .next s)

/-- MARKER_START. In SEEKING and RESTING the outgoing record is latched from the blocks as they stand, CU records what it offers, the epoch timer
restarts from the stretch's falling edge, and a new epoch begins with the station a contender when it is IN_STEP and offers a word. In IN_CELLS the
abandoned epoch's record is delivered with EARLY MARKER and the same is done, in either order (assumption 5). Elsewhere, and with the line high, nothing
changes (assumption 3). -/
def Obligations.MarkerStartLatchesTheRecord : Prop :=
  ∀ s : State,
    let outgoing : State → Outgoing := fun u =>
      { participation := u.participation, condition := u.cm.own, owesWork := decide (0 < u.ae.debt),
        engineOut := decide (u.ae.engine = .stopped ∨ u.ae.engine = .faulted), request := u.contention.1,
        digest := match u.sl.config with | some f => f.digest | none => 0#8,
        mirror := BitVec.ofNat 4 u.gtu.sliceIndex.val ++ (u.gtu.entry u.gtu.sliceIndex).slice }
    let begun : State → State := fun u =>
      { u with
          vbi := { u.vbi with
            receiver := .inMarker,
            driver := match u.vbi.driver with | .marker since _ => .marker since true | .released => .released | .cell since => .cell since,
            epochTimer := if u.participation.timed = true then some (u.vbi.lowSince + ms 1) else u.vbi.epochTimer,
            outgoing := outgoing u,
            epoch :=
              { cells := [], wrote := [], driveFault := false, faults := {},
                contention := if u.participation = .inStep ∧ u.contention.1.isSome = true then .contending else .none } }
          cu := { u.cu with offered := u.contention.2 } }
    let t : State := { s with now := max s.now (s.vbi.lowSince + us 20) }
    let r := s.vbi.record { s.vbi.epoch.faults with earlyMarker := true }
    (s.vbi.lineLow = true → s.vbi.receiver = .seeking ∨ s.vbi.receiver = .resting → exec .markerStart s = .next (begun t)) ∧
    (s.vbi.lineLow = true → s.vbi.receiver = .inCells → ∃ latchFirst : Bool,
      let u : State := if latchFirst then (begun t).deliver r else begun (t.deliver r)
      exec .markerStart s = .next { u with choices := u.choices + 1 }) ∧
    (s.vbi.lineLow = false ∨ s.vbi.receiver = .off ∨ s.vbi.receiver = .inMarker ∨ s.vbi.receiver = .blocked →
      exec .markerStart s = .next s)

/-- EPOCH_TIMER_EXPIRY drives a marker in SEEKING and RESTING, and in BLOCKED delivers LINE HELD with the timer set again; a marker not heard for 20 µs is
given up with UNHEARD MARKER and the drive fault, the timer set again from its beginning; a stretch of 80 µs blocks the receiver with LONG MARKER. The
records these three deliver have every field recessive and nothing written, and carry the own record last latched; of a LINE HELD record the manual states
neither, and both are the model's choice (assumption 26). An event that cannot occur changes nothing (assumption 3). -/
def Obligations.EpochTimerAndLostMarkers : Prop :=
  (∀ (s : State) (due : Ticks), s.vbi.epochTimer = some due →
    let now := max s.now due
    (s.vbi.receiver = .seeking ∨ s.vbi.receiver = .resting → exec .epochTimerExpiry s = .next
      { s with now := now, vbi := { s.vbi with driver := .marker now false, epochTimer := none } }) ∧
    (s.vbi.receiver = .blocked → exec .epochTimerExpiry s = .next
      (({ s with now := now, vbi := { s.vbi with epochTimer := some (now + ms 1) } }).deliver
        (s.vbi.emptyRecord { lineHeld := true } false))) ∧
    (s.vbi.receiver = .off ∨ s.vbi.receiver = .inMarker ∨ s.vbi.receiver = .inCells → exec .epochTimerExpiry s = .next s)) ∧
  (∀ s : State, s.vbi.epochTimer = none → exec .epochTimerExpiry s = .next s) ∧
  (∀ (s : State) (since : Ticks), s.vbi.driver = .marker since false →
    let timer := if s.participation.timed = true then some (since + ms 1) else s.vbi.epochTimer
    exec .unheardMarker s = .next
      (({ s with now := max s.now (since + us 20), vbi := { s.vbi with driver := .released, epochTimer := timer } }).deliver
        (s.vbi.emptyRecord { unheardMarker := true } true))) ∧
  (∀ s : State, (∀ since : Ticks, s.vbi.driver ≠ .marker since false) → exec .unheardMarker s = .next s) ∧
  (∀ s : State, s.vbi.receiver = .inMarker →
    let epoch : Epoch := { cells := [], wrote := [], contention := .none, driveFault := false, faults := {} }
    exec .longMarker s = .next
      (({ s with now := max s.now (s.vbi.lowSince + us 80), vbi := { s.vbi with receiver := .blocked, epoch := epoch } }).deliver
        (s.vbi.emptyRecord { longMarker := true } false))) ∧
  (∀ s : State, s.vbi.receiver ≠ .inMarker → exec .longMarker s = .next s) ∧
  (∀ (v : Vbi) (f : FramingFaults) (d : Bool),
    v.emptyRecord f d =
      { faults := f, driveFault := d, cells := [], wrote := [], grant := none, ownWin := false, digestVerdict := .noNarrator,
        digestValue := none, digestTrue := 0xFF#8, mirrorVerdict := .noNarrator, mirrorValue := none, mirrorTrue := 0x1FFFFFFF#29,
        own := v.outgoing })

/-- CELL_BEGIN: cell k begins 5k µs after the marker end and is written dominant exactly where the latched record calls for it and both the latched and
the present participation state permit the field: the own status cells in LEARNING and IN_STEP; the 0 bits of the request word while contending, of the
digest and of the mirror, and the 1 bits in their complements, in IN_STEP. A marker drive that still runs ends there (assumption 22). Where no cell is
due nothing changes (assumption 3). -/
def Obligations.CellsAreWrittenFromTheLatchedRecord : Prop :=
  (∀ (s : State) (k : Nat) (dominant : Bool), s.vbi.receiver = .inCells → s.vbi.epoch.cells.length = k → s.vbi.epoch.wrote.length = k → k < 168 →
    let o := s.vbi.outgoing
    let group := o.participation = .inStep ∧ s.participation = .inStep
    let status := (o.participation = .learning ∨ o.participation = .inStep) ∧ (s.participation = .learning ∨ s.participation = .inStep)
    let calls : Prop :=
      (k < 80 ∧ status ∧ k % 16 = s.sl.ownPos.val ∧
        (k / 16 = 0 ∨ (k / 16 = 1 ∧ o.condition = .failed) ∨ (k / 16 = 2 ∧ o.condition = .degraded) ∨
          (k / 16 = 3 ∧ (o.participation = .learning ∨ o.owesWork = true)) ∨ (k / 16 = 4 ∧ o.engineOut = true))) ∨
      (80 ≤ k ∧ k < 87 ∧ group ∧ s.vbi.epoch.contention = .contending ∧ ∃ w : BitVec 7, o.request = some w ∧ w.getMsbD (k - 80) = false) ∨
      (87 ≤ k ∧ k < 95 ∧ group ∧ o.digest.getMsbD (k - 87) = false) ∨
      (95 ≤ k ∧ k < 103 ∧ group ∧ o.digest.getMsbD (k - 95) = true) ∨
      (103 ≤ k ∧ k < 132 ∧ group ∧ o.mirror.getMsbD (k - 103) = false) ∨
      (132 ≤ k ∧ k < 161 ∧ group ∧ o.mirror.getMsbD (k - 132) = true)
    (dominant = true ↔ calls) →
    let now := max s.now (s.vbi.markerEnd + us 5 * k)
    exec .cellBegin s = .next
      { s with
          now := now
          vbi := { s.vbi with
            driver := if dominant then .cell now else .released,
            epoch := { s.vbi.epoch with
              wrote := s.vbi.epoch.wrote ++ [dominant],
              contention := if 80 ≤ k ∧ k < 87 ∧ ¬group then .none else s.vbi.epoch.contention } } }) ∧
  (∀ s : State, s.vbi.receiver ≠ .inCells ∨ s.vbi.epoch.wrote.length ≠ s.vbi.epoch.cells.length ∨ 168 ≤ s.vbi.epoch.cells.length →
    exec .cellBegin s = .next s)

/-- CELL_SAMPLE: the cell in progress is read from the line 2.5 µs into it. A dominant write read recessive is the drive fault; a contender that wrote
recessive and reads dominant in the request field has lost; the fields' framing faults are found at their last cells, and QUIET at a dominant quiet
cell. RECORD_DELIVERY: at the end of cell 167 the receiver goes to RESTING and the epoch's record, with QUIET when the line is low then, is delivered to
PC and GTU at once. Where no cell is in progress, and before the end of cell 167, nothing changes (assumption 3). -/
def Obligations.CellsAreReadAndTheRecordCloses : Prop :=
  ((∀ (s : State) (k : Nat) (wrote : Bool), s.vbi.receiver = .inCells → s.vbi.epoch.cells.length = k →
    s.vbi.epoch.wrote.length = k + 1 → s.vbi.epoch.wrote[k]? = some wrote → ∃ e : Epoch,
    exec .cellSample s = .next
      { s with now := max s.now (s.vbi.markerEnd + us 5 * k + 25), vbi := { s.vbi with epoch := e } } ∧
    e.cells = s.vbi.epoch.cells ++ [s.vbi.lineLow] ∧ e.wrote = s.vbi.epoch.wrote ∧
    (e.driveFault = true ↔ s.vbi.epoch.driveFault = true ∨ (wrote = true ∧ s.vbi.lineLow = false)) ∧
    e.contention = (if 80 ≤ k ∧ k < 87 ∧ s.vbi.epoch.contention = .contending ∧ wrote = false ∧ s.vbi.lineLow = true then .lost
      else s.vbi.epoch.contention) ∧
    (e.faults.request = true ↔ s.vbi.epoch.faults.request = true ∨ (k = 86 ∧ requestInvalid e.cells = true)) ∧
    (e.faults.digest = true ↔ s.vbi.epoch.faults.digest = true ∨ (k = 102 ∧ digestVerdict e.cells = .mixed)) ∧
    (e.faults.mirror = true ↔ s.vbi.epoch.faults.mirror = true ∨ (k = 160 ∧ mirrorVerdict e.cells = .mixed)) ∧
    (e.faults.quiet = true ↔ s.vbi.epoch.faults.quiet = true ∨ (161 ≤ k ∧ s.vbi.lineLow = true)) ∧
    e.faults.earlyMarker = s.vbi.epoch.faults.earlyMarker ∧ e.faults.longMarker = s.vbi.epoch.faults.longMarker ∧
    e.faults.lineHeld = s.vbi.epoch.faults.lineHeld ∧ e.faults.unheardMarker = s.vbi.epoch.faults.unheardMarker) ∧
  (∀ s : State, s.vbi.receiver ≠ .inCells ∨ s.vbi.epoch.wrote.length ≠ s.vbi.epoch.cells.length + 1 →
    exec .cellSample s = .next s)) ∧
  ((∀ s : State, s.vbi.receiver = .inCells → s.vbi.epoch.cells.length = 168 →
    let epoch : Epoch := { cells := [], wrote := [], contention := .none, driveFault := false, faults := {} }
    let faults : FramingFaults := { s.vbi.epoch.faults with quiet := s.vbi.epoch.faults.quiet || s.vbi.lineLow }
    exec .recordDelivery s = .next
      (({ s with now := max s.now (s.vbi.markerEnd + us 840), vbi := { s.vbi with receiver := .resting, epoch := epoch } }).deliver
        (recordOf s.vbi.epoch.cells s.vbi.epoch.wrote faults s.vbi.epoch.driveFault s.vbi.epoch.contention s.vbi.outgoing))) ∧
  (∀ s : State, s.vbi.receiver ≠ .inCells ∨ s.vbi.epoch.cells.length ≠ 168 → exec .recordDelivery s = .next s))

/-- The grant of the epoch from the seven request cells, a dominant cell being a 0 bit: values 0 to 5 grant that value from the position read, 6 and 7
grant nothing, and 6 or a 7 whose position is not 15 is the framing fault REQUEST. A record with a framing fault carries no grant, and its own-win flag
is clear; the flag of any other is set when the station contended and won. -/
def Obligations.GrantIsReadFromTheRequestCells : Prop :=
  ∀ cells : List Bool,
    let bit : Nat → Nat := fun k => if cellAt cells k = true then 0 else 1
    let value := 4 * bit 80 + 2 * bit 81 + bit 82
    let position := 8 * bit 83 + 4 * bit 84 + 2 * bit 85 + bit 86
    (∀ (v : Request) (p : Pos), decodeGrant cells = some (v, p) ↔ v.code = value ∧ p.val = position) ∧
    (decodeGrant cells = none ↔ value = 6 ∨ value = 7) ∧
    (requestInvalid cells = true ↔ value = 6 ∨ (value = 7 ∧ position ≠ 15)) ∧
    (∀ (wrote : List Bool) (f : FramingFaults) (d : Bool) (c : Contention) (o : Outgoing),
      (f.any = true → (recordOf cells wrote f d c o).grant = none ∧ (recordOf cells wrote f d c o).ownWin = false) ∧
      (f.any = false → (recordOf cells wrote f d c o).grant = decodeGrant cells ∧
        ((recordOf cells wrote f d c o).ownWin = true ↔ c = .contending)))

/-- The verdicts on the digest and mirror fields by the readings of their pairs, and the values a record carries: the true half as read in every case,
and a value with a CONSISTENT verdict alone (and, in a record with a framing fault, none). -/
def Obligations.VerdictsClassThePairs : Prop :=
  (∀ pairs : List (Bool × Bool), pairs ≠ [] →
    (verdictOf pairs = .noNarrator ↔ ∀ p ∈ pairs, p = (false, false)) ∧
    (verdictOf pairs = .consistent ↔ ∀ p ∈ pairs, p = (true, false) ∨ p = (false, true)) ∧
    (verdictOf pairs = .disagreement ↔ (∃ p ∈ pairs, p = (true, true)) ∧ ∀ p ∈ pairs, p ≠ (false, false)) ∧
    (verdictOf pairs = .mixed ↔ (∃ p ∈ pairs, p = (false, false)) ∧ ∃ p ∈ pairs, p ≠ (false, false))) ∧
  (∀ cells : List Bool,
    digestVerdict cells = verdictOf ((List.range 8).map fun i => (cellAt cells (87 + i), cellAt cells (95 + i))) ∧
    mirrorVerdict cells = verdictOf ((List.range 29).map fun i => (cellAt cells (103 + i), cellAt cells (132 + i)))) ∧
  (∀ (cells wrote : List Bool) (f : FramingFaults) (d : Bool) (c : Contention) (o : Outgoing),
    let r := recordOf cells wrote f d c o
    r.digestVerdict = digestVerdict cells ∧ r.mirrorVerdict = mirrorVerdict cells ∧
    (∀ i < 8, (r.digestTrue.getMsbD i = true ↔ cellAt cells (87 + i) = false)) ∧
    (∀ i < 29, (r.mirrorTrue.getMsbD i = true ↔ cellAt cells (103 + i) = false)) ∧
    (f.any = false → digestVerdict cells = .consistent → r.digestValue = some r.digestTrue) ∧
    (f.any = false → mirrorVerdict cells = .consistent → ∃ (k : Fin 16) (w : BitVec 25),
      r.mirrorValue = some (k, w) ∧ BitVec.ofNat 4 k.val ++ w = r.mirrorTrue) ∧
    (f.any = true ∨ digestVerdict cells ≠ .consistent → r.digestValue = none) ∧
    (f.any = true ∨ mirrorVerdict cells ≠ .consistent → r.mirrorValue = none))

/-- Encoding and decoding agree on the narration: the cells one narrator writes read CONSISTENT with its digest and its mirror field; a slice index and a
slice are read back from the mirror field they make; the slice is laid out as R184 says; and an entry whose counters fit their fields is read back from
its slice, every field at every value. What a learner makes of a mirror: a slice equal to its own changes at most the slice index; another sets the index
and is written when it passes the checks, with the wait list brought into line with its rank. The repair then clears every other primary in the
overwritten one's own kind of relation with its backup, and every primary that holds a backup that is locked, not PRESENT or faulted, and no other. -/
def Obligations.NarrationReadsBack : Prop :=
  (∀ (o : Outgoing) (n : Pos) (c : Contention) (cells wrote : List Bool) (f : FramingFaults) (d : Bool) (own : Outgoing),
    (∀ k, 87 ≤ k → k < 161 → cellAt cells k = o.dominantAt n c k) → f.any = false →
    (recordOf cells wrote f d c own).digestVerdict = .consistent ∧ (recordOf cells wrote f d c own).digestValue = some o.digest ∧
    (recordOf cells wrote f d c own).mirrorVerdict = .consistent ∧
    ∀ (k : Fin 16) (w : BitVec 25), o.mirror = mirrorBits k w → (recordOf cells wrote f d c own).mirrorValue = some (k, w)) ∧
  (∀ e : Entry, e.runCount < 16 → e.waitRank < 16 → Entry.ofSlice e.role e.slice = some e) ∧
  (∀ e : Entry, e.slice =
    BitVec.ofNat 2 e.presence.code ++ BitVec.ofNat 4 e.runCount ++ BitVec.ofNat 2 e.condition.code ++ BitVec.ofBool e.locked ++
      BitVec.ofBool e.faulted ++ BitVec.ofNat 3 e.assignment.code ++ BitVec.ofBool e.partner.isSome ++
      BitVec.ofNat 4 (match e.partner with | some p => p.val | none => 0) ++ BitVec.ofNat 3 e.cls.code ++ BitVec.ofNat 4 e.waitRank) ∧
  (∀ (blk : List Byte) (np : Nat) (g : Gtu) (k : Fin 16) (w : BitVec 25),
    let at' : Gtu := { g with sliceIndex := k }
    g.compareStage blk np none = g ∧
    (w = (g.entry k).slice → g.compareStage blk np (some (k, w)) = at') ∧
    (w ≠ (g.entry k).slice →
      (∀ d : Entry, Entry.ofSlice (g.entry k).role w = some d → sliceOk blk np k d = true →
        g.compareStage blk np (some (k, w)) =
          (((at'.setEntry k { d with role := (g.entry k).role }).placeAtRank k d.waitRank).settle).repair k) ∧
      ((∀ d : Entry, Entry.ofSlice (g.entry k).role w = some d → sliceOk blk np k d = false) →
        g.compareStage blk np (some (k, w)) = at'))) ∧
  (∀ (blk : List Byte) (np : Nat) (k : Pos) (d : Entry),
    let paired : Role → Pos → Prop := fun x q => blockRole blk q = x ∧ (blockPooled blk = true ∨ blockPartner blk k = some q)
    sliceOk blk np k d = true ↔
      (d.role = .empty → d = { role := .empty, presence := .absent, runCount := 0, condition := .clear, locked := false, faulted := false,
                               assignment := .none, partner := none, cls := .none, waitRank := 0 }) ∧
      (d.role ≠ .empty → d.presence ≠ .absent ∧
        (d.presence = .lost → d.runCount = 0 ∧ d.condition = .clear ∧ d.faulted = false) ∧
        (d.presence = .joining → d.runCount = 1 ∨ d.runCount = 2) ∧ (d.presence = .present → d.runCount < (byteAt blk 23).toNat) ∧
        (d.partner.isSome = true ↔ d.assignment ≠ .none)) ∧
      (d.role = .backup → d.cls = .none ∧ d.waitRank = 0 ∧ d.assignment ≠ .dropping ∧
        ∀ q : Pos, d.partner = some q → paired .primary q) ∧
      (d.role = .primary → (∀ q : Pos, d.partner = some q → paired .backup q) ∧
        (d.cls = .none ↔ d.assignment = .none ∧ d.waitRank = 0) ∧
        (d.waitRank ≠ 0 → d.presence = .present ∧ d.locked = false ∧ d.assignment = .none ∧
          (d.cls = .force ∨ d.cls = .fail ∨ d.cls = .degrade) ∧ d.waitRank ≤ np) ∧
        (d.locked = true → (d.assignment = .none ∨ d.assignment = .dropping) ∧ d.waitRank = 0))) ∧
  (∀ (g : Gtu) (k : Pos) (r : Nat),
    let rest := g.waitList.filter fun q => q ≠ k
    let class' : Pos → Nat := fun q => (g.entry q).cls.code
    (g.placeAtRank k r).entries = g.entries ∧ (r = 0 → (g.placeAtRank k r).waitList = rest) ∧
    (0 < r → rest.Pairwise (fun p q => class' p ≤ class' q) →
      ∃ before after : List Pos, (g.placeAtRank k r).waitList = before ++ k :: after ∧ before ++ after = rest ∧
        (∀ q ∈ before, class' q ≤ class' k) ∧ (∀ q ∈ after, class' k ≤ class' q) ∧
        (before.length + 1 < r → ∀ q ∈ after, class' k < class' q) ∧ (r < before.length + 1 → ∀ q ∈ before, class' q < class' k))) ∧
  (∀ (g : Gtu) (k p : Pos), (g.entry p).role = .primary →
    let e := g.entry p
    let rival := p ≠ k ∧ ∃ b : Pos, (g.holds k b = true ∧ g.holds p b = true) ∨ (g.drops k b = true ∧ g.drops p b = true)
    let stale := ∃ b : Pos, g.holds p b = true ∧
      ((g.entry b).locked = true ∨ (g.entry b).presence ≠ .present ∨ (g.entry b).faulted = true)
    let e' := (g.repair k).entry p
    (rival ∨ stale →
      e' = { e with assignment := .none, partner := none, cls := .none, waitRank := 0 } ∧ p ∉ (g.repair k).waitList) ∧
    (¬rival → ¬stale → e' = { e with waitRank := e'.waitRank } ∧ (p ∈ (g.repair k).waitList ↔ p ∈ g.waitList)))

/-! ## The participation controller -/

/-- A record delivered in LISTENING, LEARNING or IN_STEP becomes the last view and moves the participation controller: a drive fault isolates, another
station at the own position is CONFLICT, a third FAULTED verdict of the latest 8 is a sync loss; LISTENING counts clean epochs to 8 and then checks the
digest; LEARNING falls back to 0 on a faulted record, is isolated by another digest, and counts matches to 16 or silent mirrors to 16; IN_STEP falls to
LEARNING on a faulted record, is isolated by another digest read back, and falls to LEARNING by another mirror read back (assumption 15). In ISOLATED
and CONFLICT the last view alone changes, and before LISTENING nothing does. -/
def Obligations.DeliveredRecordMovesParticipation : Prop :=
  (∀ (r : EpochRecord) (s : State), s.participation = .listening ∨ s.participation = .learning ∨ s.participation = .inStep →
    let pc := (s.deliver r).pc
    let base : Pc := { s.pc with lastView := some r.view }
    let foreign := ∃ f : Fin 5, cellAt r.cells (16 * f.val + s.sl.ownPos.val) = true ∧ cellAt r.wrote (16 * f.val + s.sl.ownPos.val) = false
    let history := (r.faults.any :: s.pc.syncHistory).take 8
    let judged : Pc := { base with syncHistory := history }
    let digest := match s.sl.config with | some f => f.digest | none => 0#8
    let ready := r.driveFault = false ∧ ¬foreign ∧ ((history.filter id).length < 3 ∨ s.participation = .listening)
    (r.driveFault = true → pc = { base with participation := .isolated, cause := .drive }) ∧
    (r.driveFault = false → foreign → pc = { base with participation := .conflict, cause := .position }) ∧
    (r.driveFault = false → ¬foreign → 3 ≤ (history.filter id).length → s.participation ≠ .listening →
      pc = { base with participation := .listening, cause := .sync, cleanCount := 0, verifyCount := 0, noNarratorCount := 0, syncHistory := [] }) ∧
    (ready → s.participation = .listening →
      ((r.faults.any = true ∨ cellAt r.cells s.sl.ownPos.val = true) → pc = { judged with cleanCount := 0 }) ∧
      (r.faults.any = false → cellAt r.cells s.sl.ownPos.val = false →
        (s.pc.cleanCount + 1 < 8 → pc = { judged with cleanCount := s.pc.cleanCount + 1 }) ∧
        (8 ≤ s.pc.cleanCount + 1 → (r.digestVerdict = .noNarrator ∨ (r.digestVerdict = .consistent ∧ r.digestTrue = digest)) →
          pc = { judged with participation := .learning, cleanCount := s.pc.cleanCount + 1, verifyCount := 0, noNarratorCount := 0 }) ∧
        (8 ≤ s.pc.cleanCount + 1 → r.digestVerdict ≠ .noNarrator → (r.digestVerdict = .consistent → r.digestTrue ≠ digest) →
          pc = { judged with participation := .isolated, cause := .config, cleanCount := s.pc.cleanCount + 1 }))) ∧
    (ready → s.participation = .learning →
      let matched := ∃ (k : Fin 16) (w : BitVec 25), r.mirrorValue = some (k, w) ∧ w = (s.gtu.entry k).slice ∧ k = s.gtu.sliceIndex
      (r.faults.any = true → pc = { judged with verifyCount := 0, noNarratorCount := 0 }) ∧
      (r.faults.any = false → r.digestVerdict = .consistent → r.digestTrue ≠ digest →
        pc = { judged with participation := .isolated, cause := .config }) ∧
      (r.faults.any = false → (r.digestVerdict = .consistent → r.digestTrue = digest) →
        (r.mirrorVerdict = .consistent → matched → s.pc.verifyCount + 1 < 16 →
          pc = { judged with verifyCount := s.pc.verifyCount + 1, noNarratorCount := 0 }) ∧
        (r.mirrorVerdict = .consistent → matched → 16 ≤ s.pc.verifyCount + 1 →
          pc = { judged with participation := .inStep, verifyCount := 0, noNarratorCount := 0 }) ∧
        (r.mirrorVerdict = .noNarrator → s.pc.noNarratorCount + 1 < 16 →
          pc = { judged with verifyCount := 0, noNarratorCount := s.pc.noNarratorCount + 1 }) ∧
        (r.mirrorVerdict = .noNarrator → 16 ≤ s.pc.noNarratorCount + 1 →
          pc = { judged with participation := .inStep, verifyCount := 0, noNarratorCount := 0 }) ∧
        ((r.mirrorVerdict = .consistent ∧ ¬matched) ∨ r.mirrorVerdict = .disagreement →
          pc = { judged with verifyCount := 0, noNarratorCount := 0 }))) ∧
    (ready → s.participation = .inStep →
      let wrote := r.own.participation = .inStep
      let fallen : Cause → Pc := fun c => { judged with participation := .learning, cause := c, verifyCount := 0, noNarratorCount := 0 }
      (r.faults.any = true → pc = fallen .missed) ∧
      (r.faults.any = false → wrote → r.digestTrue ≠ r.own.digest → pc = { judged with participation := .isolated, cause := .config }) ∧
      (r.faults.any = false → wrote → r.digestTrue = r.own.digest → r.mirrorTrue ≠ r.own.mirror → pc = fallen .split) ∧
      (r.faults.any = false → (wrote → r.digestTrue = r.own.digest ∧ r.mirrorTrue = r.own.mirror) → pc = judged))) ∧
  (∀ (r : EpochRecord) (s : State), s.participation = .isolated ∨ s.participation = .conflict →
    s.deliver r = { s with pc := { s.pc with lastView := some r.view } }) ∧
  (∀ (r : EpochRecord) (s : State), s.participation = .reset ∨ s.participation = .loading ∨ s.participation = .unconfigured →
    s.deliver r = s)

/-- Leaving LEARNING or IN_STEP for ISOLATED, CONFLICT or LISTENING: every waiting command is DONE ABANDONED with CMDDONE raised, an ARMED snapshot is
captured with kind LEAVE from the table as it stood, the table is cleared with the roles of the block, the wait-to-restore timer stops when the own class
was WAIT-RESTORE, PART is raised and WITHDRAW is offered. A move apart stops the epoch timer; a sync loss keeps it. From LISTENING nothing is left
behind. -/
def Obligations.LeavingTheGroup : Prop :=
  ∀ (s : State) (dest : Participation) (c : Cause),
    let out : CmdRecord → CmdRecord := fun d => if d.state = .done then d else { d with state := .done, outcome := some .abandoned }
    let waited := ∃ d ∈ s.cu.table, d.state ≠ .done
    let withdraw : Directive := if s.ownRole = .backup then .releaseAll else .reclaim
    let left : Participation → State → Prop := fun p t =>
      t.cu.table = s.cu.table.map out ∧ (waited → t.mp.istat.getLsbD 2 = true) ∧ t.gtu = Gtu.cleared (blockRole s.area) ∧
      (s.ownEntry.cls = .waitRestore → t.cu.wtrTimer = none ∧ t.cu.restoreFull = false) ∧
      (s.ownEntry.cls ≠ .waitRestore → t.cu.wtrTimer = s.cu.wtrTimer ∧ t.cu.restoreFull = s.cu.restoreFull) ∧
      (s.mp.snapState = .armed → t.mp.snapState = .ready ∧ t.mp.discardTimer = some (s.now + ms 250) ∧
        t.mp.snapshot = some
          { kind := .leave, notInStep := true, participation := p, sliceIndex := s.gtu.sliceIndex, waitList := s.gtu.waitList,
            entries := s.gtu.entries }) ∧
      (s.mp.snapState ≠ .armed → t.mp.snapState = s.mp.snapState ∧ t.mp.snapshot = s.mp.snapshot)
    (s.setApart dest c).pc = { s.pc with participation := dest, cause := c } ∧
    (s.setApart dest c).vbi = { s.vbi with epochTimer := none } ∧
    (s.setApart dest c).mp.istat.getLsbD 0 = true ∧ (s.setApart dest c).ae = (s.offer withdraw).ae ∧
    ((s.setApart dest c).sl = s.sl ∧ (s.setApart dest c).pins = s.pins ∧ (s.setApart dest c).now = s.now ∧
      (s.setApart dest c).cm.filters = s.cm.filters ∧ (s.setApart dest c).pending = s.pending) ∧
    (s.participation.inGroup = true → left dest (s.setApart dest c)) ∧
    (s.participation.inGroup = false → (s.setApart dest c).gtu = s.gtu ∧ (s.setApart dest c).cu = s.cu ∧
      (s.setApart dest c).mp.snapshot = s.mp.snapshot) ∧
    (s.participation.inGroup = true → s.vbi.receiver ≠ .off →
      left .listening s.syncLoss ∧ s.syncLoss.vbi = s.vbi ∧ s.syncLoss.ae = (s.offer withdraw).ae ∧
      s.syncLoss.mp.istat.getLsbD 0 = true)

/-- What a delivered record makes of the station, whole. In IN_STEP, with nothing read back otherwise (assumption 15), it is applied in full: the stages
in their order, the directive stage, the report of an own win, the WAIT-RESTORE notification, OWNCOVER, an ARMED snapshot. In LEARNING, the 16th
verified record included, and at a SPLIT, the comparison comes first and no directive is offered. The 16th silent mirror founds a fresh table in place
of that. A record that is faulted or that only moves the station applies nothing, and the moves apart and the sync loss are made with all their actions.
The directive stage asks for nothing while AE owes START in a part that waits for it (assumption 27). The head counts after all of it (assumption 23).
What no delivery touches is named last. -/
def Obligations.AppliedRecordRunsTheStagesInOrder : Prop :=
  (∀ (blk : List Byte) (r : EpochRecord) (g : Gtu),
    let faulted := (g.presenceStage blk r).faultStage r
    let granted := (Gtu.handshakeStage g r (faulted.conditionStage blk r)).grantStage blk r
    let served := granted.1.serviceStage blk
    g.tableStages blk r = ({ served with sliceIndex := served.sliceIndex + 1 }, granted.2)) ∧
  (∀ (blk : List Byte) (r : EpochRecord) (g : Gtu),
    (r.grant = none → (g.grantStage blk r).1 = g) ∧
    (∀ (v : Request) (p : Pos), r.grant = some (v, p) →
      g.grantStage blk r = ((g.applyGrant blk v p).1.settleFrom g, (g.applyGrant blk v p).2))) ∧
  (∀ (r : EpochRecord) (s : State),
    r.driveFault = false → r.foreign s.sl.ownPos = false → ((r.faults.any :: s.pc.syncHistory).take 8 |>.filter id).length < 3 →
    (s.participation = .inStep → r.faults.any = false → r.own.participation ≠ .inStep ∨
        (r.digestTrue = r.own.digest ∧ r.mirrorTrue = r.own.mirror) →
      (s.deliver r).gtu =
        (let g := (s.gtu.tableStages s.area r).1
         let waits := Config.comparisonWaitsForStart = true ∧ (s.ae.running = some .start ∨ .start ∈ s.ae.queue)
         { g with requested := if waits then g.requested else requestedAfter g.requested ({ s with gtu := g }).desired }) ∧
      (s.deliver r).ae = (({ s with gtu := (s.gtu.tableStages s.area r).1 }).directiveStage).ae) ∧
    (s.participation = .inStep → r.faults.any = true → (s.deliver r).gtu = s.gtu ∧ (s.deliver r).ae = s.ae) ∧
    (∀ f : Frozen, s.sl.config = some f → s.participation = .learning → r.faults.any = false →
      (r.digestVerdict = .consistent → r.digestTrue = f.digest) → s.pc.verifyCount + 1 < 16 →
      (r.mirrorVerdict ≠ .noNarrator ∨ s.pc.noNarratorCount + 1 < 16) →
      (s.deliver r).gtu = ((s.gtu.compareStage f.area f.primaries r.mirrorValue).tableStages f.area r).1 ∧ (s.deliver r).ae = s.ae) ∧
    (∀ f : Frozen, s.sl.config = some f → s.participation = .inStep → r.faults.any = false → r.own.participation = .inStep →
      r.digestTrue = r.own.digest → r.mirrorTrue ≠ r.own.mirror →
      (s.deliver r).gtu = ((s.gtu.compareStage f.area f.primaries r.mirrorValue).tableStages f.area r).1 ∧ (s.deliver r).ae = s.ae) ∧
    (∀ f : Frozen, s.sl.config = some f → s.participation = .learning → r.faults.any = false →
      (r.digestVerdict = .consistent → r.digestTrue = f.digest) → r.mirrorVerdict = .consistent →
      let g := ((s.gtu.compareStage f.area f.primaries r.mirrorValue).tableStages f.area r).1
      (s.deliver r).gtu = { g with requested := (s.deliver r).gtu.requested }) ∧
    (∀ f : Frozen, s.sl.config = some f → s.participation = .learning → r.faults.any = false →
      (r.digestVerdict = .consistent → r.digestTrue = f.digest) → r.mirrorVerdict = .noNarrator → s.pc.noNarratorCount = 15 →
      (s.deliver r).gtu.entries = (s.gtu.found f.area r).entries ∧ (s.deliver r).gtu.waitList = (s.gtu.found f.area r).waitList ∧
      (s.deliver r).gtu.sliceIndex = 0) ∧
    (s.participation = .learning → r.faults.any = true → (s.deliver r).gtu = s.gtu)) ∧
  (∀ (r : EpochRecord) (s : State), s.participation = .listening ∨ s.participation = .learning ∨ s.participation = .inStep →
    let seen : State := { s with pc := { s.pc with lastView := some r.view } }
    let history := (r.faults.any :: s.pc.syncHistory).take 8
    let held : State := { s with pc := { s.pc with lastView := some r.view, syncHistory := history } }
    let counting : Nat → Nat → State := fun v n => { held with pc := { held.pc with verifyCount := v, noNarratorCount := n } }
    let digest := match s.sl.config with | some f => f.digest | none => 0#8
    let gives : State → Prop := fun t => s.deliver r = if s.participation = .listening then t else t.countHead s.cu.headTag
    (r.driveFault = true → gives (seen.setApart .isolated .drive)) ∧
    (r.driveFault = false → r.foreign s.sl.ownPos = true → gives (seen.setApart .conflict .position)) ∧
    (r.driveFault = false → r.foreign s.sl.ownPos = false →
      (s.participation ≠ .listening → 3 ≤ (history.filter id).length → gives held.syncLoss) ∧
      (s.participation = .listening →
        let cleaned : Nat → State := fun n => { held with pc := { held.pc with cleanCount := n } }
        (r.faults.any = true ∨ cellAt r.cells s.sl.ownPos.val = true → gives (cleaned 0)) ∧
        (r.faults.any = false → cellAt r.cells s.sl.ownPos.val = false →
          (s.pc.cleanCount + 1 < 8 → gives (cleaned (s.pc.cleanCount + 1))) ∧
          (8 ≤ s.pc.cleanCount + 1 → r.digestVerdict = .noNarrator ∨ (r.digestVerdict = .consistent ∧ r.digestTrue = digest) →
            gives { held with
              pc := { held.pc with participation := .learning, cleanCount := s.pc.cleanCount + 1, verifyCount := 0, noNarratorCount := 0 }
              mp := { s.mp with istat := s.mp.istat ||| 0b000001#6 } }) ∧
          (8 ≤ s.pc.cleanCount + 1 → r.digestVerdict ≠ .noNarrator → (r.digestVerdict = .consistent → r.digestTrue ≠ digest) →
            gives ((cleaned (s.pc.cleanCount + 1)).setApart .isolated .config)))) ∧
      ((history.filter id).length < 3 → s.participation = .learning →
        let matched := ∃ (k : Fin 16) (w : BitVec 25), r.mirrorValue = some (k, w) ∧ w = (s.gtu.entry k).slice ∧ k = s.gtu.sliceIndex
        (r.faults.any = true → gives (counting 0 0)) ∧
        (r.faults.any = false → r.digestVerdict = .consistent → r.digestTrue ≠ digest → gives (held.setApart .isolated .config)) ∧
        (r.faults.any = false → (r.digestVerdict = .consistent → r.digestTrue = digest) →
          (r.mirrorVerdict = .consistent → matched → s.pc.verifyCount + 1 < 16 →
            gives ((counting (s.pc.verifyCount + 1) 0).applyRecord false r)) ∧
          (r.mirrorVerdict = .consistent → matched → 16 ≤ s.pc.verifyCount + 1 →
            gives ((counting (s.pc.verifyCount + 1) 0).applyRecord false r).joinStep.reconcile) ∧
          (r.mirrorVerdict = .noNarrator → s.pc.noNarratorCount + 1 < 16 →
            gives ((counting 0 (s.pc.noNarratorCount + 1)).applyRecord false r)) ∧
          (r.mirrorVerdict = .noNarrator → 16 ≤ s.pc.noNarratorCount + 1 → gives ((counting 0 (s.pc.noNarratorCount + 1)).found r)) ∧
          ((r.mirrorVerdict = .consistent ∧ ¬matched) ∨ r.mirrorVerdict = .disagreement → gives ((counting 0 0).applyRecord false r)))) ∧
      ((history.filter id).length < 3 → s.participation = .inStep →
        let wrote := r.own.participation = .inStep
        (r.faults.any = true → gives (held.fall .missed)) ∧
        (r.faults.any = false → wrote → r.digestTrue ≠ r.own.digest → gives (held.setApart .isolated .config)) ∧
        (r.faults.any = false → wrote → r.digestTrue = r.own.digest → r.mirrorTrue ≠ r.own.mirror →
          gives ((held.fall .split).applyRecord false r)) ∧
        (r.faults.any = false → (wrote → r.digestTrue = r.own.digest ∧ r.mirrorTrue = r.own.mirror) → gives (held.applyRecord true r))))) ∧
  (∀ (r : EpochRecord) (s : State),
    let own := s.ownEntry
    let notified : State → State := fun t =>
      let u := t.notifyWaitRestore own.cls
      if t.ownEntry.assignment ≠ own.assignment ∨ t.ownEntry.partner ≠ own.partner ∨ t.ownEntry.cls ≠ own.cls then
        { u with mp := { u.mp with istat := u.mp.istat ||| 0b000010#6 } }
      else u
    let reported : State → CmdOutcome → State := fun t o => if r.ownWin = true then t.reportWin o else t
    let full := s.gtu.tableStages s.area r
    s.applyRecord true r =
      (notified (reported ({ s with gtu := full.1 }).directiveStage full.2)).captureIfArmed .record .inStep false ∧
    (∀ f : Frozen, s.sl.config = some f →
      let learnt := (s.gtu.compareStage f.area f.primaries r.mirrorValue).tableStages f.area r
      s.applyRecord false r = (notified (reported { s with gtu := learnt.1 } learnt.2)).captureIfArmed .record .learning false) ∧
    s.found r = ((notified { s with gtu := s.gtu.found s.area r }).joinStep.captureIfArmed .founding .inStep false).reconcile) ∧
  (∀ (s : State) (c : Cause) (k : CaptureKind) (p : Participation) (m : Bool),
    let moved : Participation → Cause → Bool → State := fun q c inStep =>
      { s with
          pc := { s.pc with participation := q, cause := c, verifyCount := 0, noNarratorCount := 0 }
          cu := { s.cu with table := settleHead inStep s.cu.table }
          mp := { s.mp with istat := s.mp.istat ||| 0b000001#6 } }
    s.fall c = moved .learning c false ∧ s.joinStep = moved .inStep s.pc.cause true ∧
    (s.mp.snapState ≠ .armed → s.captureIfArmed k p m = s) ∧
    (s.mp.snapState = .armed → s.captureIfArmed k p m =
      { s with mp := { s.mp with
          snapState := .ready, snapPtr := 0, snapTaken := false, discardTimer := some (s.now + ms 250),
          istat := s.mp.istat ||| 0b100000#6,
          snapshot := some { kind := k, notInStep := m, participation := p, sliceIndex := s.gtu.sliceIndex, waitList := s.gtu.waitList,
                             entries := s.gtu.entries } } })) ∧
  (∀ (blk : List Byte) (r : EpochRecord) (g : Gtu), ∃ claims : Gtu, g.found blk r = claims.serviceStage blk ∧
    claims.sliceIndex = 0 ∧ claims.requested = g.requested ∧ claims.waitList.Nodup ∧
    claims.waitList.Pairwise (fun p q =>
      (claims.entry p).cls.code < (claims.entry q).cls.code ∨ ((claims.entry p).cls = (claims.entry q).cls ∧ p < q)) ∧
    ∀ n : Pos,
      let failed := cellAt r.cells (16 + n.val) = true
      let degraded := cellAt r.cells (32 + n.val) = true
      let seen := cellAt r.cells n.val = true
      let claim := blockRole blk n = .primary ∧ seen ∧ (failed ∨ degraded)
      (n ∈ claims.waitList ↔ claim) ∧
      (blockRole blk n = .empty → claims.entry n = Entry.cleared .empty) ∧
      (blockRole blk n ≠ .empty → ¬seen → claims.entry n = Entry.cleared (blockRole blk n)) ∧
      (blockRole blk n ≠ .empty → seen → claims.entry n =
        { role := blockRole blk n, presence := .present, runCount := 0,
          condition := if failed then .failed else if degraded then .degraded else .clear, locked := false,
          faulted := cellAt r.cells (64 + n.val), assignment := .none, partner := none,
          cls := if claim then (if failed then .fail else .degrade) else .none, waitRank := rankOf claims.waitList n })) ∧
  (∀ (r : EpochRecord) (s : State), s.vbi.receiver ≠ .off →
    let t := s.deliver r
    t.vbi = { s.vbi with epochTimer := t.vbi.epochTimer } ∧ t.cm.filters = s.cm.filters ∧ t.cu.nextTag = s.cu.nextTag ∧
    t.cu.offered = s.cu.offered ∧ t.sl = s.sl ∧ t.pins = s.pins ∧ t.now = s.now ∧ t.choices = s.choices ∧ t.pending = s.pending ∧
    t.mp = { s.mp with
      istat := t.mp.istat, snapState := t.mp.snapState, snapshot := t.mp.snapshot, snapPtr := t.mp.snapPtr, snapTaken := t.mp.snapTaken,
      discardTimer := t.mp.discardTimer })

/-! ## The group table -/

/-- The presence stage: the presence and the run count of every configured position follow the table of R64, L being the loss threshold, and the later
stages of the application leave them. The fault and condition stages: after an application a PRESENT or JOINING position has the faulted flag of its X
cell and the condition of its F and D cells, F before D; a LOST one is not faulted and CLEAR. Every applied record is read so, of a position that is
silent in it too (R66, assumption 24). An EMPTY entry stays as it is. What the three stages make of a primary's cover and class in a lawful table: a
loss ends the covers of R85, a fault revokes those of R86, and a condition changes classes by the table of R87 and revokes those of R88. At a backup's
loss every cover on it ends, with its primary lost in the same record or not. A primary in DROPPING keeps it beside another primary of the same backup,
and is cleared where that other one leaves TAKING or ACTIVE for DROPPING in the stage and the backup is not lost (assumption 21). A DROPPING with a
class that has no row in R87 keeps it (assumption 29). -/
def Obligations.PresenceFaultAndConditionAreRead : Prop :=
  (∀ (blk : List Byte) (r : EpochRecord) (g : Gtu) (n : Pos),
    let e := g.entry n
    let e' := ((g.tableStages blk r).1).entry n
    let limit := (byteAt blk 23).toNat
    let seen := cellAt r.cells n.val = true
    let becomes : Presence → Nat → Prop := fun p k => e'.presence = p ∧ e'.runCount = k
    (e.role = .empty → e' = e) ∧
    (e.role ≠ .empty →
      (e.presence = .present → seen → becomes .present 0) ∧
      (e.presence = .present → ¬seen → e.runCount + 1 < limit → becomes .present (e.runCount + 1)) ∧
      (e.presence = .present → ¬seen → limit ≤ e.runCount + 1 → becomes .lost 0) ∧
      (e.presence = .lost → seen → becomes .joining 1) ∧
      (e.presence = .lost → ¬seen → becomes .lost 0) ∧
      (e.presence = .joining → seen → e.runCount + 1 < 3 → becomes .joining (e.runCount + 1)) ∧
      (e.presence = .joining → seen → 3 ≤ e.runCount + 1 → becomes .present 0) ∧
      (e.presence = .joining → ¬seen → becomes .lost 0) ∧
      e'.role = e.role)) ∧
  (∀ (blk : List Byte) (r : EpochRecord) (g : Gtu) (n : Pos),
    let e' := ((g.tableStages blk r).1).entry n
    (g.entry n).role ≠ .empty → (g.entry n).presence ≠ .absent →
    (e'.presence = .present ∨ e'.presence = .joining →
      (e'.faulted = true ↔ cellAt r.cells (64 + n.val) = true) ∧
      (e'.condition = .failed ↔ cellAt r.cells (16 + n.val) = true) ∧
      (e'.condition = .degraded ↔ cellAt r.cells (16 + n.val) = false ∧ cellAt r.cells (32 + n.val) = true) ∧
      (e'.condition = .clear ↔ cellAt r.cells (16 + n.val) = false ∧ cellAt r.cells (32 + n.val) = false)) ∧
    (e'.presence = .lost → e'.faulted = false ∧ e'.condition = .clear)) ∧
  (∀ (blk : List Byte) (r : EpochRecord) (g : Gtu) (p : Pos), CoversLawful g → WaitListLawful g →
    let stage := g.presenceStage blk r
    let e := g.entry p
    let e' := stage.entry p
    let falls : Pos → Prop := fun n => (g.entry n).presence ≠ .lost ∧ (stage.entry n).presence = .lost
    let rival : Pos → Prop := fun q => (g.entry q).role = .primary ∧ (g.entry q).partner = e.partner ∧
      ((g.entry q).assignment = .taking ∨ (g.entry q).assignment = .active)
    let becomes : Assignment → Option Pos → Cls → Prop := fun a o c => e'.assignment = a ∧ e'.partner = o ∧ e'.cls = c
    let listed := p ∈ stage.waitList
    let displaced := e.assignment = .dropping ∧ ∃ q : Pos, rival q ∧ falls q
    e.role = .primary →
    (∀ b : Pos, e.partner = some b → falls b →
      (e'.presence = .present → e'.locked = false → e.cls = .force ∨ e.cls = .fail ∨ e.cls = .degrade →
        becomes .none none e.cls ∧ listed) ∧
      (e'.presence ≠ .present ∨ e'.locked = true ∨ ¬(e.cls = .force ∨ e.cls = .fail ∨ e.cls = .degrade) →
        becomes .none none .none ∧ ¬listed)) ∧
    (falls p → e.assignment = .none ∨ e.assignment = .yielding → becomes .none none .none ∧ ¬listed) ∧
    ((∀ b : Pos, e.partner = some b → ¬falls b) →
      (displaced → becomes .none none .none ∧ ¬listed) ∧
      (falls p → ¬displaced → e.assignment = .taking ∨ e.assignment = .active ∨ e.assignment = .dropping →
        becomes .dropping e.partner .hold ∧ ¬listed) ∧
      (¬falls p → ¬displaced → becomes e.assignment e.partner e.cls ∧ (listed ↔ p ∈ g.waitList)))) ∧
  (∀ (r : EpochRecord) (g : Gtu) (p : Pos), CoversLawful g → WaitListLawful g →
    let stage := g.faultStage r
    let e := g.entry p
    let e' := stage.entry p
    let rival : Pos → Prop := fun q => (g.entry q).role = .primary ∧ (g.entry q).partner = e.partner ∧
      ((g.entry q).assignment = .taking ∨ (g.entry q).assignment = .active)
    let becomes : Assignment → Option Pos → Cls → Prop := fun a o c => e'.assignment = a ∧ e'.partner = o ∧ e'.cls = c
    let listed := p ∈ stage.waitList
    let mayWait := e.cls = .force ∨ e.cls = .fail ∨ e.cls = .degrade
    let byBackup := ∃ b : Pos, e.partner = some b ∧ (stage.entry b).faulted = true
    let displaced := e.assignment = .dropping ∧ byBackup ∧ ∃ q : Pos, rival q
    e.role = .primary →
    (e.assignment = .yielding → byBackup ∨ e'.faulted = true →
      (e.presence = .present → e.locked = false → mayWait → becomes .none none e.cls ∧ listed) ∧
      (e.presence ≠ .present ∨ e.locked = true ∨ ¬mayWait → becomes .none none .none ∧ ¬listed)) ∧
    (e.assignment = .taking ∨ e.assignment = .active → byBackup →
      (mayWait → becomes .dropping e.partner e.cls) ∧ (¬mayWait → becomes .dropping e.partner .hold)) ∧
    (e.assignment = .yielding → ¬byBackup → e'.faulted = false → becomes .yielding e.partner e.cls) ∧
    (e.assignment = .taking ∨ e.assignment = .active → ¬byBackup → becomes e.assignment e.partner e.cls) ∧
    (displaced → becomes .none none .none ∧ ¬listed) ∧
    (e.assignment = .dropping → ¬displaced → becomes .dropping e.partner e.cls ∧ ¬listed) ∧
    (e.assignment = .none → becomes .none none e.cls ∧ (listed ↔ p ∈ g.waitList))) ∧
  (∀ (blk : List Byte) (r : EpochRecord) (g : Gtu) (p : Pos), CoversLawful g → WaitListLawful g →
    let stage := g.conditionStage blk r
    let e := g.entry p
    let e' := stage.entry p
    let rival : Pos → Prop := fun q => (g.entry q).role = .primary ∧ (g.entry q).partner = e.partner ∧
      ((g.entry q).assignment = .taking ∨ (g.entry q).assignment = .active)
    let becomes : Assignment → Option Pos → Cls → Prop := fun a o c => e'.assignment = a ∧ e'.partner = o ∧ e'.cls = c
    let listed := p ∈ stage.waitList
    let fromLine := e.cls = .fail ∨ e.cls = .degrade
    let claim : Cls := if e'.condition = .failed then .fail else .degrade
    let changes := e.presence = .present ∧ e.locked = false ∧ e.cls ≠ .force
    let covered : Cls :=
      if ¬changes then e.cls else if e'.condition ≠ .clear then claim
      else if ¬fromLine then e.cls else if (byteAt blk 20).getLsbD 1 = true then .waitRestore else .hold
    let mayWait := covered = .force ∨ covered = .fail ∨ covered = .degrade
    let failed := ∃ b : Pos, e.partner = some b ∧ (stage.entry b).presence = .present ∧ (stage.entry b).condition = .failed
    let displaced := e.assignment = .dropping ∧ failed ∧ ∃ q : Pos, rival q
    e.role = .primary →
    (e.assignment = .none → ¬changes → becomes .none none e.cls ∧ (listed ↔ p ∈ g.waitList)) ∧
    (e.assignment = .none → changes → e'.condition ≠ .clear → becomes .none none claim ∧ listed) ∧
    (e.assignment = .none → changes → e'.condition = .clear → becomes .none none .none ∧ ¬listed) ∧
    (e.assignment = .yielding ∨ e.assignment = .taking ∨ e.assignment = .active → ¬failed → becomes e.assignment e.partner covered) ∧
    (e.assignment = .yielding → failed →
      (e.presence = .present → e.locked = false → mayWait → becomes .none none covered ∧ listed) ∧
      (e.presence ≠ .present ∨ e.locked = true ∨ ¬mayWait → becomes .none none .none ∧ ¬listed)) ∧
    (e.assignment = .taking ∨ e.assignment = .active → failed →
      (mayWait → becomes .dropping e.partner covered) ∧ (¬mayWait → becomes .dropping e.partner .hold)) ∧
    (displaced → becomes .none none .none ∧ ¬listed) ∧
    (e.assignment = .dropping → ¬displaced →
      (changes → fromLine ∨ e.cls = .hold →
        becomes .dropping e.partner (if e'.condition ≠ .clear then claim else .hold) ∧ ¬listed) ∧
      (¬changes ∨ ¬(fromLine ∨ e.cls = .hold) → becomes .dropping e.partner e.cls ∧ ¬listed)))

/-- Ending a cover. A revocation returns a YIELDING primary to NONE, in front of its class on the list when it is PRESENT, not locked and of class 1 to 3
and cleared otherwise; it takes TAKING and ACTIVE to DROPPING, the partner kept and the class kept at 1 to 3 and HOLD otherwise; it leaves NONE and
DROPPING. A release clears a waiting or YIELDING primary and takes the others to DROPPING with class HOLD. No other entry changes, but that another
primary still in DROPPING of that backup, which is not LOST, is cleared (assumption 21). The end of a stage puts its requeues in order: those of one class
stand together at the front of it in ascending position order, and the rest of the list keeps its order. -/
def Obligations.CoversEndByRevocationOrRelease : Prop :=
  (∀ (g start : Gtu), g.waitList.Nodup → g.waitList.Pairwise (fun p q => (g.entry p).cls.code ≤ (g.entry q).cls.code) →
    let requeued : Pos → Prop := fun q => (start.entry q).assignment ≠ .none
    let g' := g.settleFrom start
    (∀ q : Pos, g'.entry q = { g.entry q with assignment := (g'.entry q).assignment, partner := (g'.entry q).partner,
                                              waitRank := (g'.entry q).waitRank }) ∧
    (∀ q : Pos, (g.entry q).role = .primary →
      (g'.entry q).assignment = (g.entry q).assignment ∧ (g'.entry q).partner = (g.entry q).partner ∧
      (g'.entry q).waitRank = rankOf g'.waitList q) ∧
    g'.sliceIndex = g.sliceIndex ∧ g'.requested = g.requested ∧ g'.waitList.Nodup ∧
    (∀ q : Pos, q ∈ g'.waitList ↔ q ∈ g.waitList) ∧
    (g'.waitList.filter fun q => (start.entry q).assignment = .none) = (g.waitList.filter fun q => (start.entry q).assignment = .none) ∧
    g'.waitList.Pairwise (fun p q => (g.entry p).cls.code ≤ (g.entry q).cls.code ∧
      ((g.entry p).cls = (g.entry q).cls → (requeued q → requeued p) ∧ (requeued p → requeued q → p < q)))) ∧
  ∀ (g : Gtu) (p : Pos),
    let e := g.entry p
    let waits := e.cls = .force ∨ e.cls = .fail ∨ e.cls = .degrade
    let cleared : Gtu → Prop := fun g' =>
      g'.entry p = { e with assignment := .none, partner := none, cls := .none } ∧ g'.waitList = g.waitList.filter fun q => q ≠ p
    let acts := e.assignment = .taking ∨ e.assignment = .active
    let rival : Pos → Prop := fun q => acts ∧ ∃ b : Pos, e.partner = some b ∧ g.drops q b = true ∧ (g.entry b).presence ≠ .lost
    (∀ (f : Gtu → Gtu), f = Gtu.revoke p ∨ f = Gtu.release p →
      (∀ q : Pos, q ≠ p → ¬rival q → (f g).entry q = g.entry q) ∧
      (∀ q : Pos, q ≠ p → rival q →
        (f g).entry q = { g.entry q with assignment := .none, partner := none, cls := .none } ∧ q ∉ (f g).waitList) ∧
      (acts → ∀ q : Pos, ¬rival q → (q ∈ (f g).waitList ↔ q ∈ g.waitList)) ∧ (f g).sliceIndex = g.sliceIndex ∧ (f g).requested = g.requested) ∧
    (e.assignment = .yielding → e.presence = .present → e.locked = false → waits →
      (g.revoke p).entry p = { e with assignment := .none, partner := none } ∧
      ∃ before after : List Pos, (g.revoke p).waitList = before ++ p :: after ∧
        before ++ after = g.waitList.filter (fun q => q ≠ p) ∧
        (∀ q ∈ before, (g.entry q).cls.code < e.cls.code) ∧ (∀ q : Pos, after.head? = some q → e.cls.code ≤ (g.entry q).cls.code)) ∧
    (e.assignment = .yielding → ¬(e.presence = .present ∧ e.locked = false ∧ waits) → cleared (g.revoke p)) ∧
    (acts →
      (waits → (g.revoke p).entry p = { e with assignment := .dropping }) ∧
      (¬waits → (g.revoke p).entry p = { e with assignment := .dropping, cls := .hold }) ∧
      (g.release p).entry p = { e with assignment := .dropping, cls := .hold }) ∧
    (acts → (∀ q : Pos, ¬rival q) →
      (waits → g.revoke p = g.setEntry p { e with assignment := .dropping }) ∧
      (¬waits → g.revoke p = g.setEntry p { e with assignment := .dropping, cls := .hold }) ∧
      g.release p = g.setEntry p { e with assignment := .dropping, cls := .hold }) ∧
    (e.assignment = .none ∨ e.assignment = .dropping → g.revoke p = g) ∧
    (e.assignment = .none → p ∈ g.waitList → cleared (g.release p)) ∧
    (e.assignment = .none → p ∉ g.waitList → g.release p = g) ∧
    (e.assignment = .yielding → cleared (g.release p)) ∧
    (e.assignment = .dropping → g.release p = g.setEntry p { e with cls := .hold })

/-- An arrival stands behind every entry of its class and of smaller ones at the front of the list, in front of the first of a greater class. A selection
takes the lowest free candidate, or without one the candidate held at the greatest class, the lowest position among equals; it preempts the primary that
holds the backup and puts the new cover in YIELDING, off the list. -/
def Obligations.SelectionTakesTheLeastUrgentBackup : Prop :=
  (∀ (g : Gtu) (p : Pos), ∃ before after : List Pos, (g.arrive p).waitList = before ++ p :: after ∧
    before ++ after = g.waitList.filter (fun q => q ≠ p) ∧ (∀ q ∈ before, (g.entry q).cls.code ≤ (g.entry p).cls.code) ∧
    (∀ q : Pos, after.head? = some q → (g.entry p).cls.code < (g.entry q).cls.code) ∧ (g.arrive p).entries = g.entries) ∧
  (∀ (blk : List Byte) (g : Gtu) (p b : Pos) (c : Cls), g.candidate blk p c b = true ↔
    ((g.entry p).role = .primary ∧ (g.entry p).presence = .present ∧ (g.entry p).locked = false ∧ (g.entry p).faulted = false) ∧
    (g.entry b).role = .backup ∧ (blockPooled blk = true ∨ blockPartner blk p = some b) ∧
    ((g.entry b).presence = .present ∧ (g.entry b).locked = false ∧ (g.entry b).faulted = false ∧
      ((g.entry b).condition = .clear ∨ ((g.entry b).condition = .degraded ∧ c = .force))) ∧
    (∀ q : Pos, g.holder b = some q → c.code < (g.entry q).cls.code)) ∧
  (∀ (blk : List Byte) (g : Gtu) (p : Pos) (c : Cls),
    (g.choose blk p c = none ↔ ∀ b : Pos, g.candidate blk p c b = false) ∧
    (∀ b : Pos, g.choose blk p c = some b → g.candidate blk p c b = true ∧
      ((∃ b', g.candidate blk p c b' = true ∧ g.holder b' = none) →
        g.holder b = none ∧ ∀ b' : Pos, g.candidate blk p c b' = true → g.holder b' = none → b ≤ b') ∧
      ((∀ b', g.candidate blk p c b' = true → g.holder b' ≠ none) →
        ∀ b' : Pos, g.candidate blk p c b' = true → g.heldClass b' < g.heldClass b ∨ (g.heldClass b' = g.heldClass b ∧ b ≤ b')))) ∧
  (∀ (g : Gtu) (p b : Pos) (c : Cls), (∀ q : Pos, g.holder b = some q → q ≠ p) →
    let rest := match g.holder b with | none => g | some q => g.revoke q
    (g.select p b c).entry p = { g.entry p with assignment := .yielding, partner := some b, cls := c } ∧
    (∀ q : Pos, q ≠ p → (g.select p b c).entry q = rest.entry q) ∧
    (g.select p b c).waitList = rest.waitList.filter (fun q => q ≠ p))

/-- Of a configured requester's grant: LOCKOUT locks, and revokes a backup's covers or releases a primary's; UNLOCK unlocks, and a PRESENT primary in NONE
whose line is not CLEAR forms its claim; FORCE and MANUAL are refused by role and by lock, select a backup, or wait or are refused without one; CLEAR and
RESTORE release. An EMPTY requester's grant changes nothing. -/
def Obligations.GrantsTakeEffectByTheirRequest : Prop :=
  ∀ (blk : List Byte) (g : Gtu) (p : Pos),
    let e := g.entry p
    let grant : Request → Gtu × CmdOutcome := fun v => g.applyGrant blk v p
    let locked : Bool → Gtu := fun b => g.setEntry p { e with locked := b }
    let covered := e.assignment = .yielding ∨ e.assignment = .taking ∨ e.assignment = .active
    (e.role = .empty → ∀ v : Request, grant v = (g, .noChange)) ∧
    (e.role = .primary → e.locked = true → grant .lockout = (g, .noChange)) ∧
    (e.role = .primary → e.locked = false → grant .lockout = ((locked true).release p, .accepted)) ∧
    (e.role = .backup → grant .lockout = ((locked true).revokeHolders p, .accepted)) ∧
    (e.role ≠ .empty → e.locked = false → grant .unlock = (g, .noChange)) ∧
    (e.role ≠ .empty → e.locked = true →
      (e.role = .primary → e.presence = .present → e.condition ≠ .clear →
        let c : Cls := if e.condition = .failed then .fail else .degrade
        (e.assignment = .none → grant .unlock = (((locked false).setCls p c).arrive p, .accepted)) ∧
        (e.assignment = .dropping → e.cls = .hold → grant .unlock = ((locked false).setCls p c, .accepted))) ∧
      (e.role = .backup ∨ e.presence ≠ .present ∨ e.condition = .clear ∨ covered ∨ (e.assignment = .dropping ∧ e.cls ≠ .hold) →
        grant .unlock = (locked false, .accepted))) ∧
    (e.role = .backup → grant .force = (g, .refusedRole) ∧ grant .manual = (g, .refusedRole)) ∧
    (e.role = .primary → e.locked = true → grant .force = (g, .refusedLocked) ∧ grant .manual = (g, .refusedLocked)) ∧
    (e.role = .primary → e.locked = false → e.presence ≠ .present → grant .force = (g, .noChange) ∧ grant .manual = (g, .noChange)) ∧
    (e.role = .primary → e.locked = false → e.presence = .present →
      (covered → grant .force = (g.setCls p .force, .accepted) ∧ grant .manual = (g, .noChange)) ∧
      (e.assignment = .dropping → grant .force = (g.setCls p .force, .parked) ∧ grant .manual = (g, .noChange)) ∧
      (e.assignment = .none → p ∈ g.waitList →
        grant .force = (if e.cls = .force then g else (g.setCls p .force).arrive p, .accepted) ∧ grant .manual = (g, .noChange)) ∧
      (e.assignment = .none → p ∉ g.waitList →
        (∀ b : Pos, g.choose blk p .force = some b → grant .force = (g.select p b .force, .accepted)) ∧
        (g.choose blk p .force = none → grant .force = ((g.setCls p .force).arrive p, .parked)) ∧
        (e.condition ≠ .clear ∨ e.cls ≠ .none → grant .manual = (g, .noChange)) ∧
        (e.condition = .clear → e.cls = .none →
          (∀ b : Pos, g.choose blk p .manual = some b → grant .manual = (g.select p b .manual, .accepted)) ∧
          (g.choose blk p .manual = none → grant .manual = (g, .refusedNoBackup))))) ∧
    (e.role = .backup ∨ e.assignment = .dropping ∨ (e.cls ≠ .force ∧ e.cls ≠ .manual ∧ e.cls ≠ .hold) → e.role ≠ .empty →
      grant .clear = (g, .noChange)) ∧
    (e.role = .primary → e.assignment ≠ .dropping → e.cls = .force ∨ e.cls = .manual ∨ e.cls = .hold →
      (e.condition = .clear → grant .clear = (g.release p, .accepted)) ∧
      (e.condition ≠ .clear →
        let c : Cls := if e.condition = .failed then .fail else .degrade
        grant .clear = (if p ∈ g.waitList ∧ c ≠ e.cls then (g.setCls p c).arrive p else g.setCls p c, .accepted))) ∧
    (e.role = .primary → e.cls = .waitRestore → grant .restore = (g.release p, .accepted)) ∧
    (e.role = .backup ∨ e.cls ≠ .waitRestore → e.role ≠ .empty → grant .restore = (g, .stale))

/-- The handshake stage, of a primary that still holds the assignment and the partner it held at the end of the comparison stage: TAKING becomes ACTIVE
with the backup not busy; DROPPING ends with the backup neither busy nor faulted; YIELDING becomes TAKING with the primary not busy and no DROPPING of
the backup left after the first pass. A primary whose condition is not met, or that is not tested, keeps its assignment, partner and class. -/
def Obligations.HandshakeFollowsTheBusyCells : Prop :=
  ∀ (standing g : Gtu) (r : EpochRecord) (p b : Pos),
    let e := g.entry p
    let e' := (Gtu.handshakeStage standing r g).entry p
    let busy : Pos → Prop := fun n => cellAt r.cells (48 + n.val) = true
    let tested : Pos → Prop := fun q =>
      (g.entry q).assignment = (standing.entry q).assignment ∧ (g.entry q).partner = (standing.entry q).partner
    let ends := ∀ q : Pos, g.drops q b = true → tested q ∧ ¬busy b ∧ (g.entry b).faulted = false
    let waits := e.presence = .present ∧ e.locked = false ∧ (e.cls = .force ∨ e.cls = .fail ∨ e.cls = .degrade)
    let becomes : Assignment → Option Pos → Cls → Prop := fun a o c => e'.assignment = a ∧ e'.partner = o ∧ e'.cls = c
    e.role = .primary → e.partner = some b →
    (¬tested p → becomes e.assignment (some b) e.cls) ∧
    (tested p →
      (e.assignment = .taking → ¬busy b → becomes .active (some b) e.cls) ∧
      (e.assignment = .dropping → ¬busy b → (g.entry b).faulted = false →
        becomes .none none (if e.presence = .present ∧ e.locked = false then (if e.cls.mayWait then e.cls else .none) else .none) ∧
        (waits → p ∈ (Gtu.handshakeStage standing r g).waitList)) ∧
      (e.assignment = .yielding → ¬busy p → ends → becomes .taking (some b) e.cls) ∧
      ((e.assignment = .taking ∧ busy b) ∨ (e.assignment = .dropping ∧ (busy b ∨ (g.entry b).faulted = true)) ∨
          (e.assignment = .yielding ∧ (busy p ∨ ¬ends)) ∨ e.assignment = .active → becomes e.assignment (some b) e.cls))

/-- Service selects for the first primary on the wait list that has a candidate for its own class, the backup its choice gives, and goes on from the front
again, a stage's requeues standing in order; with no such primary it is over. It ends when no primary on the list has a candidate: in a lawful table the
bound on the number of selections is never reached (assumption 16). The stage then sets backup entries and ranks again. -/
def Obligations.ServiceLeavesNoCandidateWaiting : Prop :=
  (∀ (blk : List Byte) (g : Gtu), g.serviceStage blk = (g.serve blk).settle ∧ g.serve blk = Gtu.serveUpTo blk g 112 g) ∧
  (∀ (blk : List Byte) (start g : Gtu) (n : Nat),
    ((∀ p ∈ g.waitList, ∀ b : Pos, g.candidate blk p (g.entry p).cls b = false) → Gtu.serveUpTo blk start n g = g) ∧
    (∀ (before after : List Pos) (p b : Pos), g.waitList = before ++ p :: after →
      (∀ q ∈ before, ∀ b' : Pos, g.candidate blk q (g.entry q).cls b' = false) → g.choose blk p (g.entry p).cls = some b →
      Gtu.serveUpTo blk start (n + 1) g = Gtu.serveUpTo blk start n ((g.select p b (g.entry p).cls).orderRequeues start))) ∧
  ∀ (blk : List Byte) (g : Gtu), CoversLawful g → WaitListLawful g →
    ∀ p ∈ (g.serve blk).waitList, ∀ b : Pos, (g.serve blk).candidate blk p ((g.serve blk).entry p).cls b = false

/-- The desired state of the station follows from its own entry, and the directives that bring the requested state to it are offered once, in their
order, the requested state changing at the offer. While AE owes START, in progress or queued, nothing is offered in a part that follows R166 there
(assumption 27). -/
def Obligations.DirectivesBringTheRequestedStateToTheDesired : Prop :=
  (∀ s : State,
    (s.ownEntry.role = .primary → s.ownEntry.assignment ≠ .none → s.desired = .yielded) ∧
    (s.ownEntry.role = .primary → s.ownEntry.assignment = .none → s.desired = .carrying) ∧
    (∀ p : Pos, s.ownEntry.role = .backup → s.ownEntry.partner = some p →
      s.ownEntry.assignment = .taking ∨ s.ownEntry.assignment = .active → s.desired = .taken p) ∧
    (s.ownEntry.role = .backup → s.ownEntry.assignment = .none ∨ s.ownEntry.assignment = .yielding → s.desired = .idle)) ∧
  (∀ (s : State) (ask : ActState),
    let was := s.gtu.requested
    let asked : State := { s with gtu := { s.gtu with requested := ask } }
    let waits := Config.comparisonWaitsForStart = true ∧ (s.ae.running = some .start ∨ .start ∈ s.ae.queue)
    s.desired = ask →
    (waits → s.directiveStage = s) ∧
    (¬waits →
      (was = .carrying → ask = .yielded → s.directiveStage = asked.offer .yield) ∧
      (was = .yielded ∨ was = .released → ask = .carrying → s.directiveStage = asked.offer .reclaim) ∧
      (∀ p : Pos, was = .idle ∨ was = .released → ask = .taken p → s.directiveStage = asked.offer (.take p)) ∧
      (∀ p : Pos, was = .taken p → ask = .idle → s.directiveStage = asked.offer (.drop p)) ∧
      (∀ p q : Pos, was = .taken p → ask = .taken q → p ≠ q → s.directiveStage = (asked.offer (.drop p)).offer (.take q)) ∧
      (was = ask ∨ (was = .released ∧ (ask = .yielded ∨ ask = .idle)) → s.directiveStage = s)))

/-! ## The actuation engine -/

/-- An offer is disposed of by the engine state: IDLE begins its sequence; RUNNING, HOLDING and HELD coalesce it with an inverse at the back of the
queue, append it to a queue of fewer than 4, or fault with OVERFLOW; STOPPED and FAULTED discard it. The inverse pairs are TAKE(p) with DROP(p) and
YIELD with RECLAIM. -/
def Obligations.OffersByEngineState : Prop :=
  (∀ p : Pos, (Directive.take p).inverse = some (.drop p) ∧ (Directive.drop p).inverse = some (.take p)) ∧
  (Directive.yield.inverse = some .reclaim ∧ Directive.reclaim.inverse = some .yield ∧ Directive.releaseAll.inverse = none ∧
    Directive.start.inverse = none) ∧
  ∀ (d : Directive) (s : State),
    (s.ae.engine = .idle → s.offer d = ({ s with ae := { s.ae with debt := s.ae.debt + 1 } }).runQueue [d]) ∧
    (s.ae.engine = .running ∨ s.ae.engine = .holding ∨ s.ae.engine = .held →
      ((∃ v : Directive, d.inverse = some v ∧ s.ae.queue.getLast? = some v) →
        s.offer d = { s with ae := { s.ae with queue := s.ae.queue.dropLast, debt := s.ae.debt - 1 } }) ∧
      ((∀ v : Directive, d.inverse = some v → s.ae.queue.getLast? ≠ some v) →
        (s.ae.queue.length < 4 →
          s.offer d = { s with ae := { s.ae with queue := s.ae.queue ++ [d], debt := s.ae.debt + 1 } }) ∧
        (4 ≤ s.ae.queue.length →
          s.offer d = s.engineFault ⟨.overflow, some d, if s.ae.engine = .held then none else s.ae.stepIndex⟩))) ∧
    (s.ae.engine = .stopped ∨ s.ae.engine = .faulted → s.offer d = s)

/-- Entering a record acts by its kind: DRIVE and RELEASE change the outputs, at the pins in record order (assumption 28), and are done, DWELL waits for
its duration, AWAIT loads the retry counter unless it owns it and is done when every masked input stands at its level. What is done goes on to the next
record, or completes at LAST. The 1025th entry of a sequence is refused. -/
def Obligations.EnteringARecordActsByKind : Prop :=
  (∀ (steps : List StepRecord) (fb : BitVec 8) (now : Ticks) (i : Nat) (a : Ae),
    a.enter steps fb now i = a.enterUpTo steps fb now (1024 - a.stepCount) i ∧ a.enterUpTo steps fb now 0 i = (a, .loops i)) ∧
  (∀ (steps : List StepRecord) (fb : BitVec 8) (now : Ticks) (n i : Nat) (r : StepRecord) (a : Ae), steps[i]? = some r →
    let e : Ae := { a with stepCount := a.stepCount + 1, stepIndex := some i }
    let done : Ae → Ae × ChainEnd := fun b => if r.last then (b, .completes) else b.enterUpTo steps fb now n r.nextIndex.toNat
    let drives : BitVec 12 → Ae := fun o => { e with outputs := o, driven := o :: a.driven }
    (r.kind = some .drive → a.enterUpTo steps fb now (n + 1) i = done (drives (a.outputs ||| r.outputSet))) ∧
    (r.kind = some .release → a.enterUpTo steps fb now (n + 1) i = done (drives (a.outputs &&& ~~~r.outputSet))) ∧
    (r.kind = some .dwell →
      a.enterUpTo steps fb now (n + 1) i = ({ e with waiting := .dwell (now + us 100 * r.duration) }, .waits)) ∧
    (r.kind = some .await →
      let w : Ae := if a.retryOwner = some i then e else { e with retryCount := r.retryCount, retryOwner := some i }
      (r.satisfied fb = true → a.enterUpTo steps fb now (n + 1) i = done { w with retryOwner := none }) ∧
      (r.satisfied fb = false →
        a.enterUpTo steps fb now (n + 1) i = ({ w with waiting := .await (now + us 100 * r.timeout) }, .waits)))) ∧
  (∀ (r : StepRecord) (fb : BitVec 8), r.satisfied fb = true ↔
    ∀ k < 8, r.op0.getLsbD k = true → fb.getLsbD k = r.op1.getLsbD k)

/-- Completion of a sequence: the actuated state is that of the directive, the debt falls by one, a HOLDING engine becomes HELD with ENGINE raised, and
a RUNNING one goes on with its queue and becomes IDLE when it is empty. A directive without a directory entry completes at its turn. A sequence in
progress that enters a record waits there, completes, or fails with LOOP at the record the limit refuses. CM is told of a completion once, after all of
it, and of each sequence begun at its beginning, whether it completes within the event or not (assumption 30). -/
def Obligations.CompletionOfASequence : Prop :=
  (∀ p : Pos, (Directive.take p).target = .taken p ∧ (Directive.drop p).target = .idle) ∧
  (Directive.yield.target = .yielded ∧ Directive.reclaim.target = .carrying ∧ Directive.releaseAll.target = .released ∧
    Directive.start.target = .released) ∧
  (∀ (d : Directive) (s : State), s.ae.engine = .holding →
    (s.sequenceCompletes d).ae =
      { s.ae with engine := .held, running := none, waiting := .none, actuated := d.target, debt := s.ae.debt - 1 } ∧
    (s.sequenceCompletes d).mp.istat.getLsbD 3 = true) ∧
  (∀ (d : Directive) (s : State), s.ae.engine = .running → s.ae.queue = [] →
    (s.sequenceCompletes d).ae =
      { s.ae with engine := .idle, running := none, waiting := .none, actuated := d.target, debt := s.ae.debt - 1 } ∧
    (s.ae.fallbackTaken = true → (s.sequenceCompletes d).mp.istat.getLsbD 3 = true)) ∧
  (∀ (d : Directive) (s : State),
    let done := s.completed d
    done = { s with
      ae := { s.ae with running := none, waiting := .none, actuated := d.target, debt := s.ae.debt - 1 }
      mp := { s.mp with istat := if s.ae.fallbackTaken = true then s.mp.istat ||| 0b001000#6 else s.mp.istat } } ∧
    (s.ae.engine ≠ .holding → s.sequenceCompletes d = done.runQueue s.ae.queue) ∧
    (s.ae.engine = .holding → s.sequenceCompletes d =
      ({ done with ae := { done.ae with engine := .held }, mp := { done.mp with istat := s.mp.istat ||| 0b001000#6 } }).judgeMonitor) ∧
    s.runQueue [] = ({ s with ae := { s.ae with engine := .idle, queue := [] } }).judgeMonitor) ∧
  (∀ (d : Directive) (s : State) (i : Nat) (a : Ae),
    (s.ae.enter s.steps s.pins.fb s.now i = (a, .waits) → s.sequenceEnters d i = { s with ae := a }) ∧
    (∀ j : Nat, s.ae.enter s.steps s.pins.fb s.now i = (a, .loops j) →
      s.sequenceEnters d i = ({ s with ae := a }).engineFault ⟨.loop, some d, some j⟩) ∧
    (s.ae.enter s.steps s.pins.fb s.now i = (a, .completes) → s.sequenceEnters d i = ({ s with ae := a }).sequenceCompletes d)) ∧
  (∀ (d : Directive) (rest : List Directive) (s : State) (i : Nat) (a : Ae), s.dirEntry d = some i →
    let t := s.sequenceBegins d rest
    t = ({ s with ae :=
      { s.ae with engine := .running, queue := rest, running := some d, waiting := .none, fallbackTaken := false,
                  stepCount := 0, retryCount := 0, retryOwner := none } }).judgeMonitor ∧
    (t.ae.enter s.steps s.pins.fb s.now i = (a, .waits) → s.runQueue (d :: rest) = { t with ae := a }) ∧
    (∀ j : Nat, t.ae.enter s.steps s.pins.fb s.now i = (a, .loops j) →
      s.runQueue (d :: rest) = ({ t with ae := a }).engineFault ⟨.loop, some d, some j⟩) ∧
    (t.ae.enter s.steps s.pins.fb s.now i = (a, .completes) →
      s.runQueue (d :: rest) = (({ t with ae := a }).completed d).runQueue rest)) ∧
  (∀ (d : Directive) (rest : List Directive) (s : State), s.dirEntry d = none →
    s.runQueue (d :: rest) = (({ s with ae := { s.ae with queue := rest } }).completed d).runQueue rest)

/-- DWELL_EXPIRY, FEEDBACK_CHANGE and AWAIT_TIMEOUT. The waiting DWELL is done; a change of the feedback inputs is done for a waiting AWAIT it
satisfies, and changes the inputs alone otherwise. A timeout with the retry counter above 0 lowers it and enters the retry target; at 0 the fallback
path is entered with the flag set, or without one the sequence fails with TIMEOUT at the exhausted record. A fault of the engine: FAULTED, the
sequence ended and the queue cleared, the debt 0, the actuated state UNKNOWN, ENGINE raised and CM told. The three events touch the engine, CM's
monitor, the own condition and the interrupt status alone, beside the inputs. -/
def Obligations.WaitingRecordEvents : Prop :=
  ((∀ (s : State) (due : Ticks) (d : Directive) (i : Nat) (r : StepRecord),
    s.ae.waiting = .dwell due → s.ae.running = some d → s.ae.stepIndex = some i → s.steps[i]? = some r →
    let t : State := { s with now := max s.now due, ae := { s.ae with waiting := .none } }
    exec .dwellExpiry s = .next (if r.last then t.sequenceCompletes d else t.sequenceEnters d r.nextIndex.toNat)) ∧
  (∀ s : State, (∀ due, s.ae.waiting ≠ .dwell due) → exec .dwellExpiry s = .next s) ∧
  (∀ (s : State) (levels : BitVec 8) (due : Ticks) (d : Directive) (i : Nat) (r : StepRecord),
    s.ae.waiting = .await due → s.ae.running = some d → s.ae.stepIndex = some i → s.steps[i]? = some r →
    (r.satisfied levels = true →
      let t : State := { s with pins := { s.pins with fb := levels }, ae := { s.ae with waiting := .none, retryOwner := none } }
      exec (.feedbackChange levels) s = .next (if r.last then t.sequenceCompletes d else t.sequenceEnters d r.nextIndex.toNat)) ∧
    (r.satisfied levels = false → exec (.feedbackChange levels) s = .next { s with pins := { s.pins with fb := levels } })) ∧
  (∀ (s : State) (levels : BitVec 8), (∀ due, s.ae.waiting ≠ .await due) →
    exec (.feedbackChange levels) s = .next { s with pins := { s.pins with fb := levels } })) ∧
  ((∀ (s : State) (due : Ticks) (d : Directive) (i : Nat) (r : StepRecord),
    s.ae.waiting = .await due → s.ae.running = some d → s.ae.stepIndex = some i → s.steps[i]? = some r →
    let t : State := { s with now := max s.now due }
    (0 < s.ae.retryCount → exec .awaitTimeout s = .next
      (({ t with ae := { s.ae with waiting := .none, retryCount := s.ae.retryCount - 1 } }).sequenceEnters d r.retryTarget.toNat)) ∧
    (s.ae.retryCount = 0 → r.hasFallback = true → exec .awaitTimeout s = .next
      (({ t with ae := { s.ae with waiting := .none, retryOwner := none, fallbackTaken := true } }).sequenceEnters d
        r.fallbackIndex.toNat)) ∧
    (s.ae.retryCount = 0 → r.hasFallback = false → exec .awaitTimeout s = .next
      (({ t with ae := { s.ae with waiting := .none, retryOwner := none } }).engineFault ⟨.timeout, some d, some i⟩))) ∧
  (∀ s : State, (∀ due, s.ae.waiting ≠ .await due) → exec .awaitTimeout s = .next s)) ∧
  (∀ (f : FaultRecord) (s : State),
    (s.engineFault f).ae =
      { s.ae with engine := .faulted, queue := [], running := none, debt := 0, actuated := .unknown, waiting := .none, fault := f } ∧
    (s.engineFault f).mp.istat.getLsbD 3 = true ∧ (s.engineFault f).cm.monitorActive = false ∧
    (s.engineFault f).outgoingNow.engineOut = true ∧ (s.engineFault f).outgoingNow.owesWork = false ∧
    ∀ d : Directive, (s.engineFault f).offer d = s.engineFault f) ∧
  (∀ (c : Instr) (s t : State), c = .dwellExpiry ∨ c = .awaitTimeout ∨ (∃ levels, c = .feedbackChange levels) → exec c s = .next t →
    t.vbi = s.vbi ∧ t.pc = s.pc ∧ t.gtu = s.gtu ∧ t.cu = s.cu ∧ t.sl = s.sl ∧ t.cm.filters = s.cm.filters ∧
    t.mp = { s.mp with istat := t.mp.istat } ∧ t.choices = s.choices ∧ t.pending = s.pending ∧
    t.pins = { s.pins with fb := t.pins.fb } ∧ ((∀ levels, c ≠ .feedbackChange levels) → t.pins = s.pins))

/-! ## The condition monitor -/

/-- LINE_INPUT_CHANGE. The pins change. A change of the raw level judges the line's filter: a level equal to the filtered one leaves no pending change;
with a holdoff of 0 the filtered level follows at once and the own condition is derived again; otherwise a pending change begins, due after the set
holdoff toward worse and the clear holdoff toward better. In RESET the filter is held. -/
def Obligations.LineInputChangeJudgesTheFilter : Prop :=
  ∀ (n : Fin 4) (sf sd : Bool) (s : State), s.cm.own = s.ownConditionNow →
    let pins : Pins := { s.pins with sf := s.pins.sf.set n sf, sd := s.pins.sd.set n sd }
    let level : Condition := if sf then .failed else if sd then .degraded else .clear
    let filtered := (s.filter n).filtered
    let hold : Ticks :=
      if filtered.code < level.code then (if s.sl.config.isSome then ms 10 * (byteAt s.area 25).toNat else ms 100)
      else (if s.sl.config.isSome then ms 10 * (byteAt s.area 26).toNat else ms 100)
    let filters : LineFilter → State := fun f => { s with pins := pins, cm := { s.cm with filters := s.cm.filters.set n f } }
    (level = s.raw n ∨ s.participation = .reset → exec (.lineInputChange n sf sd) s = .next { s with pins := pins }) ∧
    (level ≠ s.raw n → s.participation ≠ .reset →
      (level = filtered → exec (.lineInputChange n sf sd) s = .next (filters ⟨filtered, none⟩)) ∧
      (level ≠ filtered → hold ≠ 0 →
        exec (.lineInputChange n sf sd) s = .next (filters ⟨filtered, some (level, s.now + hold)⟩)) ∧
      (level ≠ filtered → hold = 0 → exec (.lineInputChange n sf sd) s = .next (filters ⟨level, none⟩).deriveOwn))

/-- HOLDOFF_EXPIRY, TXACT_TRANSITION and SILENCE_TIMER_EXPIRY: the filtered level takes the pending target; a transition while the monitor is active
restarts the silence timer and clears TX-SILENT; the timer's expiry raises TX-SILENT and stops it. The own condition is derived again each time. An expiry
without a running timer changes nothing (assumption 3). -/
def Obligations.HoldoffAndSilenceEvents : Prop :=
  (∀ (s : State) (n : Fin 4) (c : Condition) (due : Ticks), (s.filter n).pending = some (c, due) →
    exec (.holdoffExpiry n) s = .next
      ({ s with now := max s.now due, cm := { s.cm with filters := s.cm.filters.set n ⟨c, none⟩ } }).deriveOwn) ∧
  (∀ (s : State) (n : Fin 4), (s.filter n).pending = none → exec (.holdoffExpiry n) s = .next s) ∧
  (∀ s : State, s.cm.monitorActive = true → exec .txactTransition s = .next
    ({ s with
        pins := { s.pins with txact := !s.pins.txact }
        cm := { s.cm with silenceTimer := some (s.now + us 10 * s.silenceThreshold), txSilent := false } }).deriveOwn) ∧
  (∀ s : State, s.cm.monitorActive = false →
    exec .txactTransition s = .next { s with pins := { s.pins with txact := !s.pins.txact } }) ∧
  (∀ (s : State) (due : Ticks), s.cm.silenceTimer = some due → exec .silenceTimerExpiry s = .next
    ({ s with now := max s.now due, cm := { s.cm with silenceTimer := none, txSilent := true } }).deriveOwn) ∧
  (∀ s : State, s.cm.silenceTimer = none → exec .silenceTimerExpiry s = .next s)

/-- The own condition is FAILED when an enabled line is filtered FAILED or TX-SILENT stands, otherwise DEGRADED when an enabled line is filtered
DEGRADED, otherwise CLEAR. A derivation that gives another value than the one held takes it and raises COND; one that gives the same changes nothing.
The monitor is active exactly when the threshold is 1 to 255, the actuated state carries traffic for the own role, and no sequence is in progress.
Becoming active starts the silence timer; becoming inactive stops it, clears TX-SILENT and derives the own condition again. -/
def Obligations.OwnConditionAndMonitorAreDerived : Prop :=
  (∀ s : State,
    let failed := (∃ n : Fin 4, s.lineEnabled n = true ∧ (s.filter n).filtered = .failed) ∨ s.cm.txSilent = true
    let degraded := ∃ n : Fin 4, s.lineEnabled n = true ∧ (s.filter n).filtered = .degraded
    let own : Condition → State := fun c => { s with cm := { s.cm with own := c }, mp := { s.mp with istat := s.mp.istat ||| 0b010000#6 } }
    (failed → s.deriveOwn = if s.cm.own = .failed then s else own .failed) ∧
    (¬failed → degraded → s.deriveOwn = if s.cm.own = .degraded then s else own .degraded) ∧
    (¬failed → ¬degraded → s.deriveOwn = if s.cm.own = .clear then s else own .clear)) ∧
  ((∀ s : State, s.monitorCalled = true ↔
    1 ≤ s.silenceThreshold ∧ ((s.ownRole = .primary ∧ s.ae.actuated = .carrying) ∨ (s.ownRole = .backup ∧ ∃ p : Pos, s.ae.actuated = .taken p)) ∧
      s.ae.engine ≠ .running ∧ s.ae.engine ≠ .holding) ∧
  (∀ s : State, s.cm.monitorActive = s.monitorCalled → s.judgeMonitor = s) ∧
  (∀ s : State, s.cm.monitorActive = false → s.monitorCalled = true → s.judgeMonitor =
    { s with cm := { s.cm with monitorActive := true, silenceTimer := some (s.now + us 10 * s.silenceThreshold) } }) ∧
  (∀ s : State, s.cm.monitorActive = true → s.monitorCalled = false → s.judgeMonitor =
    ({ s with cm := { s.cm with monitorActive := false, silenceTimer := none, txSilent := false } }).deriveOwn))

/-! ## The command unit -/

/-- COMMAND_SUBMISSION, where its write is taken: a kind code 5 to 7 is refused KIND, a table of 4 records FULL, a kind already waiting DUPLICATE;
otherwise the record enters at the back, CONTENDING when it is head in IN_STEP and QUEUED otherwise, with the first tag from the next tag on that no
record holds, and the next tag follows it. -/
def Obligations.CommandSubmissionByTheTable : Prop :=
  ∀ (value : Byte) (s : State), s.takesWrite 0x02#7 = true → CommandTableShaped s →
    let code := value.toNat % 8
    let answers : Cu → SubResult → State := fun cu r =>
      { s with cu := cu, mp := { s.mp with cmdsub := r, frame := s.mp.frame.map (Frame.wrote 0x02#7) } }
    (5 ≤ code → exec (.commandSubmission value) s = .next (answers s.cu .kind)) ∧
    (∀ k : Kind, k.request.code = code →
      (s.cu.table.length = 4 → exec (.commandSubmission value) s = .next (answers s.cu .full)) ∧
      (s.cu.table.length < 4 → (∃ c ∈ s.cu.table, c.kind = k ∧ c.state ≠ .done) →
        exec (.commandSubmission value) s = .next (answers s.cu .duplicate)) ∧
      (s.cu.table.length < 4 → (∀ c ∈ s.cu.table, c.kind = k → c.state = .done) →
        ∃ (passed : Nat) (tag : Fin 16), passed ≤ 3 ∧ tag = s.cu.nextTag + Fin.ofNat 16 passed ∧
          (∀ j < passed, ∃ c ∈ s.cu.table, c.tag = s.cu.nextTag + Fin.ofNat 16 j) ∧ (∀ c ∈ s.cu.table, c.tag ≠ tag) ∧
          exec (.commandSubmission value) s = .next (answers
            { s.cu with
                nextTag := tag + 1
                table := s.cu.table ++
                  [{ tag := tag, kind := k,
                     state := if s.participation = .inStep ∧ (∀ c ∈ s.cu.table, c.state = .done) then .contending else .queued,
                     outcome := none, headCount := 0 }] }
            (.accepted tag))))

/-- COMMAND_ACKNOWLEDGE, where its write is taken: a DONE record holding the tag leaves the table, those behind it keeping their order; a record QUEUED or
CONTENDING is refused NOT_DONE and a tag no record holds UNKNOWN, the table unchanged. The interrupt status and the offered record stay. -/
def Obligations.CommandAcknowledgeByTheRecord : Prop :=
  ∀ (value : Byte) (s : State), s.takesWrite 0x03#7 = true → CommandTableShaped s →
    let tag : Fin 16 := Fin.ofNat 16 value.toNat
    let answers : List CmdRecord → AckResult → State := fun l r =>
      { s with
          cu := { s.cu with table := l }
          mp := { s.mp with cmdack := r, frame := s.mp.frame.map (Frame.wrote 0x03#7) } }
    (∀ c ∈ s.cu.table, c.tag = tag → c.state = .done →
      exec (.commandAcknowledge value) s = .next (answers (s.cu.table.filter fun d => d.tag ≠ tag) .acknowledged)) ∧
    (∀ c ∈ s.cu.table, c.tag = tag → c.state ≠ .done →
      exec (.commandAcknowledge value) s = .next (answers s.cu.table .notDone)) ∧
    ((∀ c ∈ s.cu.table, c.tag ≠ tag) → exec (.commandAcknowledge value) s = .next (answers s.cu.table .unknown))

/-- COMMAND_EXPIRY and the head count. A head counted to 64 becomes DONE EXPIRED with CMDDONE raised, and the next record not DONE becomes head; a head
below 64, or none, leaves the state as it is. A record delivered in LEARNING or IN_STEP counts the head that stood before it by one, and no other record,
and the 64th count expires it (assumption 6); a delivery that reports the head's win counts nothing, and one that leaves the group abandons every waiting
command at the count it has (assumption 23). A record delivered elsewhere counts nothing. -/
def Obligations.HeadExpiresAtSixtyFour : Prop :=
  (∀ (s : State) (h : CmdRecord), headOf s.cu.table = some h → 64 ≤ h.headCount →
    let expired : CmdRecord → CmdRecord := fun c =>
      if c.tag = h.tag ∧ c.state ≠ .done then { c with state := .done, outcome := some .expired } else c
    exec .commandExpiry s = .next
    { s with
        cu := { s.cu with table := settleHead (s.participation = .inStep) (s.cu.table.map expired) }
        mp := { s.mp with istat := s.mp.istat ||| 0b000100#6 } }) ∧
  (∀ (s : State) (h : CmdRecord), headOf s.cu.table = some h → h.headCount < 64 → exec .commandExpiry s = .next s) ∧
  (∀ s : State, headOf s.cu.table = none → exec .commandExpiry s = .next s) ∧
  (∀ (s : State) (h : CmdRecord), CommandTableShaped s → headOf s.cu.table = some h → h.headCount + 1 < 64 →
    s.countHead (some h.tag) =
      { s with cu := { s.cu with table := s.cu.table.map fun c => if c.tag = h.tag then { c with headCount := c.headCount + 1 } else c } }) ∧
  (∀ (s : State) (h : CmdRecord), CommandTableShaped s → headOf s.cu.table = some h → h.headCount = 63 →
    ∀ c ∈ (s.countHead (some h.tag)).cu.table, c.tag = h.tag → c.state = .done ∧ c.outcome = some .expired ∧ c.headCount = 64) ∧
  (∀ (s : State) (t : Fin 16), s.cu.headTag ≠ some t → s.countHead (some t) = s) ∧
  (∀ (r : EpochRecord) (s : State), s.participation.inGroup = false → (s.deliver r).cu = s.cu) ∧
  (∀ (r : EpochRecord) (s : State), s.participation.inGroup = true → CommandTableShaped s →
    let t := s.deliver r
    let wins := r.ownWin = true ∧ r.faults.any = false ∧ ∃ x : Fin 16, s.cu.offered = .command x ∧ openTag x s.cu.table = true
    (t.participation.inGroup = false →
      t.cu.table = s.cu.table.map fun c => if c.state = .done then c else { c with state := .done, outcome := some .abandoned }) ∧
    (t.participation.inGroup = true → headOf s.cu.table = none → t.cu.table = s.cu.table) ∧
    (∀ h : CmdRecord, t.participation.inGroup = true → headOf s.cu.table = some h → ¬wins →
      let counts : CmdRecord → CmdRecord := fun c =>
        if c.tag = h.tag then
          (if h.headCount + 1 < 64 then { c with headCount := c.headCount + 1 }
           else { c with headCount := c.headCount + 1, state := .done, outcome := some .expired })
        else c
      t.cu.table = settleHead (t.participation = .inStep) (s.cu.table.map counts) ∧
      (64 ≤ h.headCount + 1 → t.mp.istat.getLsbD 2 = true)) ∧
    (∀ h : CmdRecord, s.participation = .inStep → t.participation.inGroup = true → headOf s.cu.table = some h →
      r.ownWin = true → r.faults.any = false → s.cu.offered = .command h.tag →
      t.cu.table.map (fun c => (c.tag, c.kind, c.headCount)) = s.cu.table.map (fun c => (c.tag, c.kind, c.headCount)) ∧
      (∀ c ∈ t.cu.table, c.tag = h.tag → c.state = .done ∧ c.outcome.isSome = true) ∧ t.mp.istat.getLsbD 2 = true))

/-- The word offered at a marker start: none outside IN_STEP, the head's request and the own position, RESTORE when there is no head and the restore slot
is full, none otherwise. A win reported for an offered command that is not DONE makes it DONE with the outcome and raises CMDDONE; one for the restore
slot empties it; any other is disregarded. WTR_TIMER_EXPIRY fills the restore slot and stops the timer. The notification that WAIT-RESTORE was entered
empties the slot and starts the timer for the group's WTR seconds, or fills it at once with WTR 0; the notification that it was left stops the timer and
empties the slot. -/
def Obligations.OfferedWordWinsAndTheRestoreSlot : Prop :=
  ((∀ s : State,
    (s.participation ≠ .inStep → s.contention = (none, .none)) ∧
    (∀ h : CmdRecord, s.participation = .inStep → headOf s.cu.table = some h →
      s.contention = (some (BitVec.ofNat 3 h.kind.request.code ++ BitVec.ofNat 4 s.sl.ownPos.val), .command h.tag)) ∧
    (s.participation = .inStep → headOf s.cu.table = none → s.cu.restoreFull = true →
      s.contention = (some (0b101#3 ++ BitVec.ofNat 4 s.sl.ownPos.val), .restoreSlot)) ∧
    (s.participation = .inStep → headOf s.cu.table = none → s.cu.restoreFull = false → s.contention = (none, .none))) ∧
  (∀ (o : CmdOutcome) (s : State) (t : Fin 16), s.cu.offered = .command t →
    let won : CmdRecord → CmdRecord := fun c =>
      if c.tag = t ∧ c.state ≠ .done then { c with state := .done, outcome := some o } else c
    (openTag t s.cu.table = true → s.reportWin o =
      { s with
          cu := { s.cu with table := settleHead (s.participation = .inStep) (s.cu.table.map won) }
          mp := { s.mp with istat := s.mp.istat ||| 0b000100#6 } }) ∧
    (openTag t s.cu.table = false → s.reportWin o = s)) ∧
  (∀ (o : CmdOutcome) (s : State), s.cu.offered = .restoreSlot → s.reportWin o = { s with cu := { s.cu with restoreFull := false } }) ∧
  (∀ (o : CmdOutcome) (s : State), s.cu.offered = .none → s.reportWin o = s)) ∧
  ((∀ (s : State) (due : Ticks), s.cu.wtrTimer = some due →
    exec .wtrTimerExpiry s = .next { s with now := max s.now due, cu := { s.cu with wtrTimer := none, restoreFull := true } }) ∧
  (∀ s : State, s.cu.wtrTimer = none → exec .wtrTimerExpiry s = .next s) ∧
  (∀ (before : Cls) (s : State),
    let wtr := 256 * (byteAt s.area 21).toNat + (byteAt s.area 22).toNat
    (before ≠ .waitRestore → s.ownEntry.cls = .waitRestore → 0 < wtr →
      s.notifyWaitRestore before = { s with cu := { s.cu with wtrTimer := some (s.now + sec wtr), restoreFull := false } }) ∧
    (before ≠ .waitRestore → s.ownEntry.cls = .waitRestore → wtr = 0 →
      s.notifyWaitRestore before = { s with cu := { s.cu with wtrTimer := none, restoreFull := true } }) ∧
    (before = .waitRestore → s.ownEntry.cls ≠ .waitRestore →
      s.notifyWaitRestore before = { s with cu := { s.cu with wtrTimer := none, restoreFull := false } }) ∧
    ((before = .waitRestore ↔ s.ownEntry.cls = .waitRestore) → s.notifyWaitRestore before = s)))

/-! ## The management port -/

/-- ISTAT_WRITE clears the flags written 1 and leaves the others; IEN_WRITE sets the six enables; INT is low exactly while some flag is raised whose
enable is set. -/
def Obligations.InterruptStatusAndEnables : Prop :=
  ∀ (value : Byte) (s : State),
    (s.takesWrite 0x04#7 = true → exec (.istatWrite value) s = .next
      { s with mp := { s.mp with
          istat := s.mp.istat &&& ~~~(value.extractLsb' 0 6), frame := s.mp.frame.map (Frame.wrote 0x04#7) } }) ∧
    (s.takesWrite 0x05#7 = true → exec (.ienWrite value) s = .next
      { s with mp := { s.mp with ien := value.extractLsb' 0 6, frame := s.mp.frame.map (Frame.wrote 0x05#7) } }) ∧
    (s.mp.intLow = true ↔ ∃ k < 6, s.mp.istat.getLsbD k = true ∧ s.mp.ien.getLsbD k = true)

/-- POINTER_WRITE: SNAPPTR and CFGPTR take the value, STEPPTR the held high byte and the low byte together, and a value beyond the last index is 0; the
high byte is held aside. STAGING_WRITE in UNCONFIGURED stores the byte at the pointer, every other byte of the area reading as before, and the pointer
goes on, its last index followed by 0; the first write to the step staging sets its mark. In every other served state the byte is not stored and the
pointer stays. Each where its write is taken. -/
def Obligations.PointerAndStagingWrites : Prop :=
  (∀ (v : Byte) (s : State),
    let step := 256 * s.mp.stepPtrHeld.toNat + v.toNat
    (s.takesWrite 0x07#7 = true → exec (.pointerWrite .snapPtr v) s = .next
      { s with mp := { s.mp with snapPtr := if v.toNat ≤ 82 then v.toNat else 0, frame := s.mp.frame.map (Frame.wrote 0x07#7) } }) ∧
    (s.takesWrite 0x09#7 = true → exec (.pointerWrite .cfgPtr v) s = .next
      { s with mp := { s.mp with cfgPtr := if v.toNat ≤ 27 then v.toNat else 0, frame := s.mp.frame.map (Frame.wrote 0x09#7) } }) ∧
    (s.takesWrite 0x0B#7 = true → exec (.pointerWrite .stepPtrHigh v) s = .next
      { s with mp := { s.mp with stepPtrHeld := v, frame := s.mp.frame.map (Frame.wrote 0x0B#7) } }) ∧
    (s.takesWrite 0x0C#7 = true → exec (.pointerWrite .stepPtrLow v) s = .next
      { s with mp := { s.mp with stepPtr := if step ≤ 2085 then step else 0, frame := s.mp.frame.map (Frame.wrote 0x0C#7) } })) ∧
  (∀ (v : Byte) (s : State),
    (s.takesWrite 0x0A#7 = true → s.participation = .unconfigured → s.mp.cfgStaging.wf = true → ∃ m : Memory,
      exec (.stagingWrite .config v) s = .next
        { s with mp := { s.mp with
            cfgStaging := m, cfgPtr := if 27 ≤ s.mp.cfgPtr then 0 else s.mp.cfgPtr + 1,
            frame := s.mp.frame.map (Frame.wrote 0x0A#7) } } ∧
      m.wf = true ∧ m.read s.mp.cfgPtr = v ∧ ∀ a : Nat, a ≠ s.mp.cfgPtr → m.read a = s.mp.cfgStaging.read a) ∧
    (s.takesWrite 0x0D#7 = true → s.participation = .unconfigured → s.mp.stepStaging.wf = true → ∃ m : Memory,
      exec (.stagingWrite .step v) s = .next
        { s with mp := { s.mp with
            stepStaging := m, stepsStaged := true, stepPtr := if 2085 ≤ s.mp.stepPtr then 0 else s.mp.stepPtr + 1,
            frame := s.mp.frame.map (Frame.wrote 0x0D#7) } } ∧
      m.wf = true ∧ m.read s.mp.stepPtr = v ∧ ∀ a : Nat, a ≠ s.mp.stepPtr → m.read a = s.mp.stepStaging.read a) ∧
    (s.participation ≠ .unconfigured →
      (s.takesWrite 0x0A#7 = true →
        exec (.stagingWrite .config v) s = .next { s with mp := { s.mp with frame := s.mp.frame.map (Frame.wrote 0x0A#7) } }) ∧
      (s.takesWrite 0x0D#7 = true →
        exec (.stagingWrite .step v) s = .next { s with mp := { s.mp with frame := s.mp.frame.map (Frame.wrote 0x0D#7) } })))

/-- A window's data register reads the byte at the pointer, of the staging before the freeze and of the configuration in force after it, 0x00 past
the records in force. WINDOW_DATA_READ reads one and the pointer goes on, its last index followed by 0: with no frame in progress the byte at the pointer
is read, and in a read frame that stands at the register the byte taken before has been shifted out and the next one is taken (assumption 7). -/
def Obligations.WindowReadsReturnTheByteAtThePointer : Prop :=
  (∀ s : State,
    (s.sl.config = none → s.windowByte .config = s.mp.cfgStaging.read s.mp.cfgPtr ∧ s.windowByte .step = s.mp.stepStaging.read s.mp.stepPtr) ∧
    (∀ f : Frozen, s.sl.config = some f →
      s.windowByte .config = byteAt f.area s.mp.cfgPtr ∧
      (f.directory.length = 36 →
        (s.mp.stepPtr < 36 → s.windowByte .step = byteAt f.directory s.mp.stepPtr) ∧
        (s.mp.stepPtr = 36 → s.windowByte .step = BitVec.ofNat 8 (f.steps.length / 256)) ∧
        (s.mp.stepPtr = 37 → s.windowByte .step = BitVec.ofNat 8 f.steps.length) ∧
        (∀ (i j : Nat) (r : StepRecord), j < 8 → s.mp.stepPtr = 38 + 8 * i + j → f.steps[i]? = some r →
          s.windowByte .step = byteAt r.bytes j) ∧
        (38 + 8 * f.steps.length ≤ s.mp.stepPtr → s.windowByte .step = 0x00#8)))) ∧
  (∀ (w : StagingWindow) (s : State), s.participation ≠ .reset → s.mp.deaf = false →
    let a : BitVec 7 := match w with | .config => 0x0A#7 | .step => 0x0D#7
    let moved : Mp :=
      match w with
      | .config => { s.mp with cfgPtr := if 27 ≤ s.mp.cfgPtr then 0 else s.mp.cfgPtr + 1 }
      | .step => { s.mp with stepPtr := if 2085 ≤ s.mp.stepPtr then 0 else s.mp.stepPtr + 1 }
    (s.mp.frame = none → exec (.windowDataRead w) s = .next
      { s with mp := { moved with readout := some (s.windowByte w), snapTaken := false } }) ∧
    (s.mp.frame = some ⟨false, a⟩ → exec (.windowDataRead w) s = .next
      { s with mp := { moved with
          readout := some (({ s with mp := moved }).windowByte w), capture := none, snapTaken := false } }))

/-- SNAP and SNAP_RELEASE by the state of the unit. In LEARNING and IN_STEP, SNAP arms it; elsewhere it captures at once with kind AT ONCE and the mark. A
READY buffer is discarded first. SNAP_RELEASE leaves ARMED and READY for IDLE. SNAPDATA reads the buffer's byte at SNAPPTR in READY, 0x00 in IDLE and 0xA5
in ARMED; byte 0 of a buffer is neither, and its 83 bytes are laid out as R186 says. SNAPDATA_READ with no frame in progress reads that, and in a read
frame that stands there the byte taken before has been shifted out and the next one is taken (assumption 7); SNAPPTR goes on for a byte of the buffer
alone (assumption 25). The discard timer's expiry empties the buffer and makes the unit IDLE, raising nothing; without a timer it changes nothing
(assumption 3). -/
def Obligations.SnapshotCommandsReadsAndDiscard : Prop :=
  (∀ s : State, s.takesWrite 0x01#7 = true →
    (s.participation.inGroup = true → s.mp.snapState ≠ .armed → exec .snap s = .next
      { s with mp := { s.mp with
          snapState := .armed, snapshot := none, discardTimer := none, snapTaken := false, ctrlCode := 8#4, ctrlResult := .accepted,
          frame := s.mp.frame.map (Frame.wrote 0x01#7) } }) ∧
    (s.participation.inGroup = true → s.mp.snapState = .armed → exec .snap s = .next
      { s with mp := { s.mp with ctrlCode := 8#4, ctrlResult := .accepted, frame := s.mp.frame.map (Frame.wrote 0x01#7) } }) ∧
    (s.participation.inGroup = false → exec .snap s = .next
      { s with mp := { s.mp with
          snapState := .ready, snapPtr := 0, snapTaken := false, discardTimer := some (s.now + ms 250), istat := s.mp.istat ||| 0b100000#6,
          snapshot := some
            { kind := .atOnce, notInStep := true, participation := s.participation, sliceIndex := s.gtu.sliceIndex,
              waitList := s.gtu.waitList, entries := s.gtu.entries },
          ctrlCode := 8#4, ctrlResult := .accepted, frame := s.mp.frame.map (Frame.wrote 0x01#7) } }) ∧
    (s.mp.snapState ≠ .idle → exec .snapRelease s = .next
      { s with mp := { s.mp with
          snapState := .idle, snapshot := none, discardTimer := none, snapTaken := false, ctrlCode := 9#4, ctrlResult := .accepted,
          frame := s.mp.frame.map (Frame.wrote 0x01#7) } })) ∧
  ((∀ (m : Mp) (b : Snapshot),
    (m.snapState = .ready → m.snapshot = some b → m.snapByte = byteAt b.bytes m.snapPtr) ∧
    (m.snapState = .idle → m.snapByte = 0x00#8) ∧ (m.snapState = .armed → m.snapByte = 0xA5#8)) ∧
  (∀ s : State, s.participation ≠ .reset → s.mp.deaf = false →
    let moved : Mp := { s.mp with snapPtr := if 82 ≤ s.mp.snapPtr then 0 else s.mp.snapPtr + 1 }
    (s.mp.frame = none →
      (s.mp.snapState = .ready → exec .snapdataRead s = .next
        { s with mp := { moved with readout := some s.mp.snapByte, snapTaken := false } }) ∧
      (s.mp.snapState ≠ .ready → exec .snapdataRead s = .next
        { s with mp := { s.mp with readout := some s.mp.snapByte, snapTaken := false } })) ∧
    (s.mp.frame = some ⟨false, 0x08#7⟩ →
      (s.mp.snapState = .ready → s.mp.snapTaken = true → exec .snapdataRead s = .next
        { s with mp := { moved with readout := some moved.snapByte, capture := none, snapTaken := true } }) ∧
      (s.mp.snapState = .ready → s.mp.snapTaken = false → exec .snapdataRead s = .next
        { s with mp := { s.mp with readout := some s.mp.snapByte, capture := none, snapTaken := true } }) ∧
      (s.mp.snapState ≠ .ready → exec .snapdataRead s = .next
        { s with mp := { s.mp with readout := some s.mp.snapByte, capture := none, snapTaken := false } }))) ∧
  (∀ b : Snapshot, byteAt b.bytes 0 ≠ 0x00#8 ∧ byteAt b.bytes 0 ≠ 0xA5#8 ∧ b.bytes.length = 83) ∧
  (∀ b : Snapshot,
    let byte : Nat → Byte := BitVec.ofNat 8
    let bit : Bool → Nat → Nat := fun c i => if c then 2 ^ i else 0
    byteAt b.bytes 0 = byte (b.kind.code + bit b.notInStep 7) ∧ byteAt b.bytes 1 = byte b.participation.code ∧
    byteAt b.bytes 2 = byte b.sliceIndex.val ∧ byteAt b.bytes 3 = byte b.waitList.length ∧
    (∀ i < 15, byteAt b.bytes (4 + i) = match b.waitList[i]? with | some p => byte p.val | none => 0xFF#8) ∧
    ∀ n : Pos,
      let e := b.entries[n]
      byteAt b.bytes (19 + 4 * n.val) = byte (64 * e.role.code + 16 * e.presence.code + e.runCount) ∧
      byteAt b.bytes (20 + 4 * n.val) =
        byte (64 * e.condition.code + bit e.locked 5 + bit e.faulted 4 + 2 * e.assignment.code + bit e.partner.isSome 0) ∧
      byteAt b.bytes (21 + 4 * n.val) = byte (16 * (match e.partner with | some p => p.val | none => 0) + e.cls.code) ∧
      byteAt b.bytes (22 + 4 * n.val) = byte e.waitRank) ∧
  (∀ (s : State) (due : Ticks), s.mp.discardTimer = some due → exec .discardTimerExpiry s = .next
    { s with now := max s.now due, mp := { s.mp with snapshot := none, discardTimer := none, snapTaken := false, snapState := .idle } }) ∧
  (∀ s : State, s.mp.discardTimer = none → exec .discardTimerExpiry s = .next s))

/-- COMMAND_BYTE_RECEIVED is any eight bits of a frame (assumption 7). The first eight are the command byte, bit 7 the direction and bits 6–0 the address,
and a read frame takes its first byte there. Eight more of a write frame are the write of its data byte; of a read frame, the byte taken has been shifted
out, the address goes on by one, 127 followed by 0, but stays at a window data register whose pointer goes on instead (SNAPPTR for a byte of the buffer
alone, assumption 25), and the next byte is taken. A byte is taken as it stands; at a group's first byte the whole group is copied first, and its later
bytes come from the copy, which is dropped as the frame leaves the group. GROUP_CAPTURE is a read that comes to that first byte. An ignored write moves
the address alone, and stays at SNAPDATA (assumption 8). The end of a frame drops the copy, and the next frame is served. The registers and the three
groups read as the layouts of Chapter 12 say. -/
def Obligations.SpiFramesAndGroupCaptures : Prop :=
  ((∀ (s : State) (a : BitVec 7),
    let takes : Option (Group × List Byte) → Byte → State := fun c b =>
      { s with mp := { s.mp with capture := c, readout := some b, snapTaken := a = 0x08#7 && s.mp.snapState = .ready } }
    (groupOf a = none → s.takeAt a = takes none (s.registerByte a)) ∧
    (∀ g : Group, groupOf a = some (g, 0) → s.takeAt a = takes (some (g, s.groupBytes g)) (byteAt (s.groupBytes g) 0)) ∧
    (∀ (g : Group) (o : Nat), groupOf a = some (g, o + 1) →
      (∀ l : List Byte, s.mp.capture = some (g, l) → s.takeAt a = takes (some (g, l)) (byteAt l (o + 1))) ∧
      ((∀ l : List Byte, s.mp.capture ≠ some (g, l)) → s.takeAt a = takes none (byteAt (s.groupBytes g) (o + 1))))) ∧
  (∀ (g : Group) (o : Nat) (a : BitVec 7), groupOf a = some (g, o) ↔
    a.toNat = (match g with | .pstat => 0x10 | .ostat => 0x30 | .cmdtab => 0x50) + o ∧
      o < match g with | .pstat => 18 | .ostat => 29 | .cmdtab => 13) ∧
  (∀ (s : State) (b : Byte), s.participation ≠ .reset → s.mp.deaf = false → s.mp.frame = none →
    let a : BitVec 7 := b.extractLsb' 0 7
    (b.getLsbD 7 = true → exec (.commandByteReceived b) s = .next
      { s with mp := { s.mp with frame := some ⟨true, a⟩, capture := none, readout := none, snapTaken := false } }) ∧
    (b.getLsbD 7 = false →
      exec (.commandByteReceived b) s = .next (({ s with mp := { s.mp with frame := some ⟨false, a⟩ } }).takeAt a)) ∧
    (∀ g : Group, exec (.groupCapture g) s = .next
      (({ s with mp := { s.mp with frame := some ⟨false, groupAddress g⟩ } }).takeAt (groupAddress g)))) ∧
  (∀ (s : State) (a : BitVec 7), s.participation ≠ .reset → s.mp.deaf = false → s.mp.frame = some ⟨false, a⟩ →
    let stays := a = 0x08#7 ∨ a = 0x0A#7 ∨ a = 0x0D#7
    let next := if stays then a else a + 1
    let moved : Mp := { s.mp with
      frame := some ⟨false, next⟩,
      cfgPtr := if a = 0x0A#7 then (if 27 ≤ s.mp.cfgPtr then 0 else s.mp.cfgPtr + 1) else s.mp.cfgPtr,
      stepPtr := if a = 0x0D#7 then (if 2085 ≤ s.mp.stepPtr then 0 else s.mp.stepPtr + 1) else s.mp.stepPtr,
      snapPtr := if a = 0x08#7 ∧ s.mp.snapTaken = true ∧ s.mp.snapState = .ready then (if 82 ≤ s.mp.snapPtr then 0 else s.mp.snapPtr + 1)
        else s.mp.snapPtr }
    (∀ b : Byte, exec (.commandByteReceived b) s = .next (({ s with mp := moved }).takeAt next)) ∧
    (∀ g : Group, next = groupAddress g → exec (.groupCapture g) s = .next (({ s with mp := moved }).takeAt next))) ∧
  (∀ (s : State) (a : BitVec 7) (b : Byte), s.participation ≠ .reset → s.mp.frame = some ⟨true, a⟩ →
    exec (.commandByteReceived b) s = exec (writeCommand a b) s ∧ access (writeCommand a b) = some (true, a)) ∧
  (∀ (s : State) (a : BitVec 7), s.takesWrite a = true → writableAddress a = false →
    exec (.registerWriteIgnored a) s = .next { s with mp := { s.mp with frame := s.mp.frame.map (Frame.wrote a) } }) ∧
  (∀ s : State, exec .transactionEnd s = .next
    { s with mp := { s.mp with frame := none, deaf := false, capture := none, readout := none, snapTaken := false } }) ∧
  (∀ (a c : BitVec 7), Frame.wrote a ⟨true, c⟩ = ⟨true, if a = 0x08#7 ∨ a = 0x0A#7 ∨ a = 0x0D#7 then a else a + 1⟩ ∧
    Frame.wrote a ⟨false, c⟩ = ⟨false, c⟩)) ∧
  (∀ s : State,
    let byte : Nat → Byte := BitVec.ofNat 8
    let bit : Bool → Nat → Nat := fun c i => if c then 2 ^ i else 0
    let place : Option Pos → Nat := fun o => match o with | some p => p.val | none => 0
    let directive : Option Directive → Byte := fun o => match o with | some d => byte d.entryNumber | none => 0xFF#8
    (s.registerByte 0x00#7 = 0x5B#8 ∧ s.registerByte 0x01#7 = byte (s.mp.ctrlCode.toNat + 16 * s.mp.ctrlResult.code) ∧
      s.registerByte 0x02#7 = (match s.mp.cmdsub with
        | .none => 0x00#8 | .accepted t => byte (0x80 + t.val) | .kind => 0x41#8 | .full => 0x42#8 | .duplicate => 0x43#8) ∧
      s.registerByte 0x03#7 = (match s.mp.cmdack with
        | .none => 0x00#8 | .acknowledged => 0x01#8 | .notDone => 0x02#8 | .unknown => 0x03#8) ∧
      s.registerByte 0x04#7 = s.mp.istat.zeroExtend 8 ∧ s.registerByte 0x05#7 = s.mp.ien.zeroExtend 8 ∧
      (∀ b : Snapshot, s.mp.snapState = .ready → s.mp.snapshot = some b → s.registerByte 0x06#7 = byte (2 + 16 * b.kind.code)) ∧
      (s.mp.snapState ≠ .ready → s.registerByte 0x06#7 = if s.mp.snapState = .armed then 0x01#8 else 0x00#8) ∧
      s.registerByte 0x07#7 = byte s.mp.snapPtr ∧ s.registerByte 0x08#7 = s.mp.snapByte ∧ s.registerByte 0x09#7 = byte s.mp.cfgPtr ∧
      s.registerByte 0x0A#7 = s.windowByte .config ∧ s.registerByte 0x0B#7 = byte (s.mp.stepPtr / 256) ∧
      s.registerByte 0x0C#7 = byte s.mp.stepPtr ∧ s.registerByte 0x0D#7 = s.windowByte .step ∧
      ∀ a : BitVec 7, 0x0D < a.toNat → s.registerByte a = 0x00#8) ∧
    (let p := s.groupBytes .pstat
     let l := s.sl
     p.length = 18 ∧ byteAt p 0 = byte (s.pc.participation.code + 16 * s.pc.cause.code) ∧
     byteAt p 1 = byte (l.loadState.code + 4 * l.loadCause.code + bit s.mp.stepsStaged 5) ∧
     byteAt p 2 = byte (l.loadSource.code + 16 * l.ownPos.val) ∧ byteAt p 3 = byte (l.byteCount / 256) ∧ byteAt p 4 = byte l.byteCount ∧
     byteAt p 5 = byte (bit l.formatFound.isSome 0 + bit l.stepCountFound.isSome 1 + bit l.crcs.isSome 2 + bit l.config.isSome 3 +
       bit s.pc.lastView.isSome 4) ∧
     byteAt p 6 = l.formatFound.getD 0x00#8 ∧ byteAt p 7 = byte (l.stepCountFound.getD 0 / 256) ∧ byteAt p 8 = byte (l.stepCountFound.getD 0) ∧
     (∀ c : BitVec 16 × BitVec 16, l.crcs = some c →
       byteAt p 9 = byte (c.1.toNat / 256) ∧ byteAt p 10 = byte c.1.toNat ∧ byteAt p 11 = byte (c.2.toNat / 256) ∧ byteAt p 12 = byte c.2.toNat) ∧
     (l.crcs = none → ∀ i : Nat, 9 ≤ i → i ≤ 12 → byteAt p i = 0x00#8) ∧
     (∀ f : Frozen, l.config = some f → byteAt p 13 = f.digest) ∧ (l.config = none → byteAt p 13 = 0x00#8) ∧
     (∀ v : LastView, s.pc.lastView = some v →
       (∀ n : Pos, v.presence[n] = (if n.val < 8 then byteAt p 15 else byteAt p 14).getLsbD (n.val % 8)) ∧
       byteAt p 16 = byte (v.digestVerdict.code + 4 * v.mirrorVerdict.code + bit v.faulted 4) ∧ byteAt p 17 = v.digestValue.getD 0x00#8) ∧
     (s.pc.lastView = none → ∀ i : Nat, 14 ≤ i → byteAt p i = 0x00#8)) ∧
    (let p := s.groupBytes .ostat
     let e := s.ownEntry
     let a := s.ae
     let nibble : Fin 4 → Nat := fun n => (s.raw n).code + 4 * (s.filter n).filtered.code
     p.length = 29 ∧ byteAt p 0 = byte (s.cm.own.code + bit s.cm.monitorActive 2 + bit s.cm.txSilent 3) ∧
     byteAt p 1 = byte (nibble 0 + 16 * nibble 1) ∧ byteAt p 2 = byte (nibble 2 + 16 * nibble 3) ∧
     (∀ n : Fin 4, (byteAt p 3).getLsbD n.val = (s.filter n).pending.isSome) ∧ (byteAt p 3).toNat < 16 ∧
     byteAt p 4 = byte (e.presence.code + 4 * e.condition.code + bit e.locked 4 + bit e.faulted 5) ∧
     byteAt p 5 = byte (e.assignment.code + bit e.partner.isSome 3 + 16 * place e.partner) ∧ byteAt p 6 = byte (e.cls.code + 16 * e.waitRank) ∧
     byteAt p 7 = byte (a.engine.code + 16 * a.debt) ∧
     byteAt p 8 = byte (a.actuated.code + 16 * match a.actuated with | .taken q => q.val | _ => 0) ∧ byteAt p 9 = directive a.running ∧
     byteAt p 10 = byte a.queue.length ∧ (∀ i < 4, byteAt p (11 + i) = directive a.queue[i]?) ∧ byteAt p 15 = byte (a.stepIndex.getD 0) ∧
     byteAt p 16 = byte (a.stepCount / 256) ∧ byteAt p 17 = byte a.stepCount ∧
     byteAt p 18 = byte (a.retryCount + bit a.retryOwner.isSome 3 + bit a.fallbackTaken 4 + bit a.stepIndex.isSome 5) ∧
     byteAt p 19 = byte (a.retryOwner.getD 0) ∧ byteAt p 20 = byte (a.fault.cause.code + bit a.fault.step.isSome 2) ∧
     byteAt p 21 = directive a.fault.directive ∧ byteAt p 22 = byte (a.fault.step.getD 0) ∧ byteAt p 23 = byte (a.outputs.toNat / 256) ∧
     byteAt p 24 = byte a.outputs.toNat ∧ byteAt p 25 = s.pins.fb ∧ byteAt p 26 = byte (bit s.cu.wtrTimer.isSome 0 + bit s.cu.restoreFull 1) ∧
     (∀ due : Ticks, s.cu.wtrTimer = some due →
       let left := (due - s.now + (sec 1 - 1)) / sec 1
       byteAt p 27 = byte (left / 256) ∧ byteAt p 28 = byte left) ∧
     (s.cu.wtrTimer = none → byteAt p 27 = 0x00#8 ∧ byteAt p 28 = 0x00#8)) ∧
    (let p := s.groupBytes .cmdtab
     p.length = 13 ∧ byteAt p 12 = byte s.cu.nextTag.val ∧
     ∀ i < 4,
       (∀ c : CmdRecord, s.cu.table[i]? = some c →
         byteAt p (3 * i) = byte (128 + 16 * c.kind.request.code + c.tag.val) ∧
         byteAt p (3 * i + 1) = byte (c.state.code + 16 * CmdOutcome.code c.outcome) ∧ byteAt p (3 * i + 2) = byte c.headCount) ∧
       (s.cu.table[i]? = none → byteAt p (3 * i) = 0x00#8 ∧ byteAt p (3 * i + 1) = 0x00#8 ∧ byteAt p (3 * i + 2) = 0x00#8))) ∧
  ([Participation.reset, .loading, .unconfigured, .listening, .learning, .inStep, .isolated, .conflict].map Participation.code = [0, 1, 2, 3, 4, 5, 6, 7] ∧
    [Cause.none, .missed, .split, .sync, .soft, .config, .drive, .position].map Cause.code = [0, 1, 2, 3, 4, 5, 6, 7] ∧
    [CtrlResult.none, .accepted, .refused].map CtrlResult.code = [0, 1, 2] ∧
    [CaptureKind.record, .founding, .leave, .soft, .atOnce].map CaptureKind.code = [1, 2, 3, 4, 5] ∧
    [Role.empty, .primary, .backup].map Role.code = [0, 1, 2] ∧ [Presence.absent, .joining, .present, .lost].map Presence.code = [0, 1, 2, 3] ∧
    [Condition.clear, .degraded, .failed].map Condition.code = [0, 1, 2] ∧
    [Assignment.none, .yielding, .taking, .active, .dropping].map Assignment.code = [0, 1, 2, 3, 4] ∧
    [Cls.none, .force, .fail, .degrade, .manual, .waitRestore, .hold].map Cls.code = [0, 1, 2, 3, 4, 5, 6] ∧
    [Request.lockout, .force, .manual, .clear, .unlock, .restore].map Request.code = [0, 1, 2, 3, 4, 5] ∧
    [Kind.lockout, .force, .manual, .clear, .unlock].map Kind.request = [Request.lockout, .force, .manual, .clear, .unlock] ∧
    [LoadState.held, .reading, .failed, .frozen].map LoadState.code = [0, 1, 2, 3] ∧
    [LoadCause.none, .noDevice, .noImage, .crc, .invalid].map LoadCause.code = [0, 1, 2, 3, 4] ∧
    [LoadSource.none, .eepromShort, .eepromFull, .hostShort, .hostFull].map LoadSource.code = [0, 1, 2, 3, 4] ∧
    [Verdict.noNarrator, .consistent, .disagreement, .mixed].map Verdict.code = [0, 1, 2, 3] ∧
    [Engine.idle, .running, .holding, .held, .stopped, .faulted].map Engine.code = [0, 1, 2, 3, 4, 5] ∧
    [ActState.released, .carrying, .yielded, .taken 0, .idle, .unknown].map ActState.code = [0, 1, 2, 3, 4, 5] ∧
    [FaultCause.none, .timeout, .loop, .overflow].map FaultCause.code = [0, 1, 2, 3] ∧
    [CmdState.queued, .contending, .done].map CmdState.code = [0, 1, 2] ∧
    [none, some CmdOutcome.accepted, some .parked, some .refusedRole, some .refusedLocked, some .refusedNoBackup, some .noChange, some .expired,
      some .abandoned].map CmdOutcome.code = [0, 1, 2, 3, 4, 5, 6, 7, 8] ∧
    (∀ p : Pos, (Directive.take p).entryNumber = p.val ∧ (Directive.drop p).entryNumber = 16 + p.val) ∧
    [Directive.yield, .reclaim, .releaseAll, .start].map Directive.entryNumber = [32, 33, 34, 35])

/-! ## What every step keeps

`Lawful` gathers the laws of a reachable state. Each statement below takes it at a state and gives a part of it after any step. -/

/-- The machine after reset satisfies every law. -/
def Obligations.ResetIsLawful : Prop := Lawful State.reset

/-- Start-up and participation stay together at every step, and a configuration in force has passed its checks and stays as frozen until a full reset. -/
def Obligations.StepKeepsStartUpAndConfiguration : Prop :=
  ∀ s t : State, Lawful s → step s = .next t →
    Started t ∧ ConfigurationValid t ∧
    ∀ f : Frozen, s.sl.config = some f → s.pending.head? ≠ some .fullReset → t.sl.config = some f

/-- At every step the table is cleared outside LEARNING and IN_STEP, its roles are those of the block in force, and its backup entries and ranks agree
with its primaries and its wait list. -/
def Obligations.StepKeepsTheTableSettled : Prop :=
  ∀ s t : State, Lawful s → step s = .next t → TableHeldInGroup t ∧ TableSettled t

/-- At every step the relations of the table keep their laws, of partners, holders and locks, and the wait list its own: no position twice, members that
may wait, ascending classes. -/
def Obligations.StepKeepsCoverAndWaitListLaws : Prop :=
  (∀ s t : State, Lawful s → step s = .next t → CoversLawful t.gtu) ∧
  (∀ s t : State, Lawful s → step s = .next t → WaitListLawful t.gtu)

/-- At every step every entry keeps the laws of its presence and run count. -/
def Obligations.StepKeepsThePresenceLaws : Prop :=
  ∀ s t : State, Lawful s → step s = .next t → PresenceLawful t

/-- At every step the engine's accounts balance, an engine that is out has no known actuated state, and the outputs stand at the level the pins took last. -/
def Obligations.StepKeepsTheEngineAccounts : Prop :=
  ∀ s t : State, EngineAccounts s → OutIsUnknown s → step s = .next t → EngineAccounts t ∧ OutIsUnknown t

/-- At every step the TX activity monitor stands as its conditions call for, the own condition is the one its sources give, and the command table, its
head and the restore slot keep their shape. -/
def Obligations.StepKeepsMonitorAndCommands : Prop :=
  ∀ s t : State, Lawful s → step s = .next t → MonitorJudged t ∧ CommandTableShaped t ∧ RestoreOnlyInWaitRestore t

/-- At every step the snapshot unit keeps its shape, the pointers stand within their windows, the staging areas keep their canonical form and sizes, and
the counters and the sync history stay below their limits. -/
def Obligations.StepKeepsWindowsAndCounters : Prop :=
  ∀ s t : State, Lawful s → step s = .next t → SnapshotUnitShaped t ∧ WindowsBounded t ∧ CountersBounded t
end

