-- ==== Sys2Proof/Laws/State.lean ====
section
/-! SUPPORT. One lemma for each field of `State` under each update of the whole state, each true by computation: a proof that needs a field after an
update rewrites with these and never opens the update. -/

namespace Sys2Proof.Machine

variable (s : State)

/-! ### advanceTo -/

@[simp] theorem State.advanceTo_vbi (t : Ticks) : (s.advanceTo t).vbi = s.vbi := rfl
@[simp] theorem State.advanceTo_pc (t : Ticks) : (s.advanceTo t).pc = s.pc := rfl
@[simp] theorem State.advanceTo_gtu (t : Ticks) : (s.advanceTo t).gtu = s.gtu := rfl
@[simp] theorem State.advanceTo_cm (t : Ticks) : (s.advanceTo t).cm = s.cm := rfl
@[simp] theorem State.advanceTo_cu (t : Ticks) : (s.advanceTo t).cu = s.cu := rfl
@[simp] theorem State.advanceTo_ae (t : Ticks) : (s.advanceTo t).ae = s.ae := rfl
@[simp] theorem State.advanceTo_sl (t : Ticks) : (s.advanceTo t).sl = s.sl := rfl
@[simp] theorem State.advanceTo_mp (t : Ticks) : (s.advanceTo t).mp = s.mp := rfl
@[simp] theorem State.advanceTo_pins (t : Ticks) : (s.advanceTo t).pins = s.pins := rfl
@[simp] theorem State.advanceTo_now (t : Ticks) : (s.advanceTo t).now = max s.now t := rfl
@[simp] theorem State.advanceTo_choices (t : Ticks) : (s.advanceTo t).choices = s.choices := rfl
@[simp] theorem State.advanceTo_pending (t : Ticks) : (s.advanceTo t).pending = s.pending := rfl

/-! ### tick -/

@[simp] theorem State.tick_vbi : (s.tick).vbi = s.vbi := rfl
@[simp] theorem State.tick_pc : (s.tick).pc = s.pc := rfl
@[simp] theorem State.tick_gtu : (s.tick).gtu = s.gtu := rfl
@[simp] theorem State.tick_cm : (s.tick).cm = s.cm := rfl
@[simp] theorem State.tick_cu : (s.tick).cu = s.cu := rfl
@[simp] theorem State.tick_ae : (s.tick).ae = s.ae := rfl
@[simp] theorem State.tick_sl : (s.tick).sl = s.sl := rfl
@[simp] theorem State.tick_mp : (s.tick).mp = s.mp := rfl
@[simp] theorem State.tick_pins : (s.tick).pins = s.pins := rfl
@[simp] theorem State.tick_now : (s.tick).now = s.now + 1 := rfl
@[simp] theorem State.tick_choices : (s.tick).choices = s.choices := rfl
@[simp] theorem State.tick_pending : (s.tick).pending = s.pending := rfl

/-! ### chosen -/

@[simp] theorem State.chosen_vbi : (s.chosen).vbi = s.vbi := rfl
@[simp] theorem State.chosen_pc : (s.chosen).pc = s.pc := rfl
@[simp] theorem State.chosen_gtu : (s.chosen).gtu = s.gtu := rfl
@[simp] theorem State.chosen_cm : (s.chosen).cm = s.cm := rfl
@[simp] theorem State.chosen_cu : (s.chosen).cu = s.cu := rfl
@[simp] theorem State.chosen_ae : (s.chosen).ae = s.ae := rfl
@[simp] theorem State.chosen_sl : (s.chosen).sl = s.sl := rfl
@[simp] theorem State.chosen_mp : (s.chosen).mp = s.mp := rfl
@[simp] theorem State.chosen_pins : (s.chosen).pins = s.pins := rfl
@[simp] theorem State.chosen_now : (s.chosen).now = s.now := rfl
@[simp] theorem State.chosen_choices : (s.chosen).choices = s.choices + 1 := rfl
@[simp] theorem State.chosen_pending : (s.chosen).pending = s.pending := rfl

/-! ### setVbi -/

@[simp] theorem State.setVbi_vbi (v : Vbi) : (s.setVbi v).vbi = v := rfl
@[simp] theorem State.setVbi_pc (v : Vbi) : (s.setVbi v).pc = s.pc := rfl
@[simp] theorem State.setVbi_gtu (v : Vbi) : (s.setVbi v).gtu = s.gtu := rfl
@[simp] theorem State.setVbi_cm (v : Vbi) : (s.setVbi v).cm = s.cm := rfl
@[simp] theorem State.setVbi_cu (v : Vbi) : (s.setVbi v).cu = s.cu := rfl
@[simp] theorem State.setVbi_ae (v : Vbi) : (s.setVbi v).ae = s.ae := rfl
@[simp] theorem State.setVbi_sl (v : Vbi) : (s.setVbi v).sl = s.sl := rfl
@[simp] theorem State.setVbi_mp (v : Vbi) : (s.setVbi v).mp = s.mp := rfl
@[simp] theorem State.setVbi_pins (v : Vbi) : (s.setVbi v).pins = s.pins := rfl
@[simp] theorem State.setVbi_now (v : Vbi) : (s.setVbi v).now = s.now := rfl
@[simp] theorem State.setVbi_choices (v : Vbi) : (s.setVbi v).choices = s.choices := rfl
@[simp] theorem State.setVbi_pending (v : Vbi) : (s.setVbi v).pending = s.pending := rfl

/-! ### setSl -/

@[simp] theorem State.setSl_vbi (l : Sl) : (s.setSl l).vbi = s.vbi := rfl
@[simp] theorem State.setSl_pc (l : Sl) : (s.setSl l).pc = s.pc := rfl
@[simp] theorem State.setSl_gtu (l : Sl) : (s.setSl l).gtu = s.gtu := rfl
@[simp] theorem State.setSl_cm (l : Sl) : (s.setSl l).cm = s.cm := rfl
@[simp] theorem State.setSl_cu (l : Sl) : (s.setSl l).cu = s.cu := rfl
@[simp] theorem State.setSl_ae (l : Sl) : (s.setSl l).ae = s.ae := rfl
@[simp] theorem State.setSl_sl (l : Sl) : (s.setSl l).sl = l := rfl
@[simp] theorem State.setSl_mp (l : Sl) : (s.setSl l).mp = s.mp := rfl
@[simp] theorem State.setSl_pins (l : Sl) : (s.setSl l).pins = s.pins := rfl
@[simp] theorem State.setSl_now (l : Sl) : (s.setSl l).now = s.now := rfl
@[simp] theorem State.setSl_choices (l : Sl) : (s.setSl l).choices = s.choices := rfl
@[simp] theorem State.setSl_pending (l : Sl) : (s.setSl l).pending = s.pending := rfl

/-! ### setMp -/

@[simp] theorem State.setMp_vbi (m : Mp) : (s.setMp m).vbi = s.vbi := rfl
@[simp] theorem State.setMp_pc (m : Mp) : (s.setMp m).pc = s.pc := rfl
@[simp] theorem State.setMp_gtu (m : Mp) : (s.setMp m).gtu = s.gtu := rfl
@[simp] theorem State.setMp_cm (m : Mp) : (s.setMp m).cm = s.cm := rfl
@[simp] theorem State.setMp_cu (m : Mp) : (s.setMp m).cu = s.cu := rfl
@[simp] theorem State.setMp_ae (m : Mp) : (s.setMp m).ae = s.ae := rfl
@[simp] theorem State.setMp_sl (m : Mp) : (s.setMp m).sl = s.sl := rfl
@[simp] theorem State.setMp_mp (m : Mp) : (s.setMp m).mp = m := rfl
@[simp] theorem State.setMp_pins (m : Mp) : (s.setMp m).pins = s.pins := rfl
@[simp] theorem State.setMp_now (m : Mp) : (s.setMp m).now = s.now := rfl
@[simp] theorem State.setMp_choices (m : Mp) : (s.setMp m).choices = s.choices := rfl
@[simp] theorem State.setMp_pending (m : Mp) : (s.setMp m).pending = s.pending := rfl

/-! ### setEngine -/

@[simp] theorem State.setEngine_vbi (e : Engine) : (s.setEngine e).vbi = s.vbi := rfl
@[simp] theorem State.setEngine_pc (e : Engine) : (s.setEngine e).pc = s.pc := rfl
@[simp] theorem State.setEngine_gtu (e : Engine) : (s.setEngine e).gtu = s.gtu := rfl
@[simp] theorem State.setEngine_cm (e : Engine) : (s.setEngine e).cm = s.cm := rfl
@[simp] theorem State.setEngine_cu (e : Engine) : (s.setEngine e).cu = s.cu := rfl
@[simp] theorem State.setEngine_ae (e : Engine) : (s.setEngine e).ae = { s.ae with engine := e } := rfl
@[simp] theorem State.setEngine_sl (e : Engine) : (s.setEngine e).sl = s.sl := rfl
@[simp] theorem State.setEngine_mp (e : Engine) : (s.setEngine e).mp = s.mp := rfl
@[simp] theorem State.setEngine_pins (e : Engine) : (s.setEngine e).pins = s.pins := rfl
@[simp] theorem State.setEngine_now (e : Engine) : (s.setEngine e).now = s.now := rfl
@[simp] theorem State.setEngine_choices (e : Engine) : (s.setEngine e).choices = s.choices := rfl
@[simp] theorem State.setEngine_pending (e : Engine) : (s.setEngine e).pending = s.pending := rfl

/-! ### setRequested -/

@[simp] theorem State.setRequested_vbi (a : ActState) : (s.setRequested a).vbi = s.vbi := rfl
@[simp] theorem State.setRequested_pc (a : ActState) : (s.setRequested a).pc = s.pc := rfl
@[simp] theorem State.setRequested_gtu (a : ActState) : (s.setRequested a).gtu = { s.gtu with requested := a } := rfl
@[simp] theorem State.setRequested_cm (a : ActState) : (s.setRequested a).cm = s.cm := rfl
@[simp] theorem State.setRequested_cu (a : ActState) : (s.setRequested a).cu = s.cu := rfl
@[simp] theorem State.setRequested_ae (a : ActState) : (s.setRequested a).ae = s.ae := rfl
@[simp] theorem State.setRequested_sl (a : ActState) : (s.setRequested a).sl = s.sl := rfl
@[simp] theorem State.setRequested_mp (a : ActState) : (s.setRequested a).mp = s.mp := rfl
@[simp] theorem State.setRequested_pins (a : ActState) : (s.setRequested a).pins = s.pins := rfl
@[simp] theorem State.setRequested_now (a : ActState) : (s.setRequested a).now = s.now := rfl
@[simp] theorem State.setRequested_choices (a : ActState) : (s.setRequested a).choices = s.choices := rfl
@[simp] theorem State.setRequested_pending (a : ActState) : (s.setRequested a).pending = s.pending := rfl

/-! ### setFilter -/

@[simp] theorem State.setFilter_vbi (n : Fin 4) (f : LineFilter) : (s.setFilter n f).vbi = s.vbi := rfl
@[simp] theorem State.setFilter_pc (n : Fin 4) (f : LineFilter) : (s.setFilter n f).pc = s.pc := rfl
@[simp] theorem State.setFilter_gtu (n : Fin 4) (f : LineFilter) : (s.setFilter n f).gtu = s.gtu := rfl
@[simp] theorem State.setFilter_cm (n : Fin 4) (f : LineFilter) : (s.setFilter n f).cm = { s.cm with filters := s.cm.filters.set n f } := rfl
@[simp] theorem State.setFilter_cu (n : Fin 4) (f : LineFilter) : (s.setFilter n f).cu = s.cu := rfl
@[simp] theorem State.setFilter_ae (n : Fin 4) (f : LineFilter) : (s.setFilter n f).ae = s.ae := rfl
@[simp] theorem State.setFilter_sl (n : Fin 4) (f : LineFilter) : (s.setFilter n f).sl = s.sl := rfl
@[simp] theorem State.setFilter_mp (n : Fin 4) (f : LineFilter) : (s.setFilter n f).mp = s.mp := rfl
@[simp] theorem State.setFilter_pins (n : Fin 4) (f : LineFilter) : (s.setFilter n f).pins = s.pins := rfl
@[simp] theorem State.setFilter_now (n : Fin 4) (f : LineFilter) : (s.setFilter n f).now = s.now := rfl
@[simp] theorem State.setFilter_choices (n : Fin 4) (f : LineFilter) : (s.setFilter n f).choices = s.choices := rfl
@[simp] theorem State.setFilter_pending (n : Fin 4) (f : LineFilter) : (s.setFilter n f).pending = s.pending := rfl

/-! ### setCause -/

@[simp] theorem State.setCause_vbi (c : Cause) : (s.setCause c).vbi = s.vbi := rfl
@[simp] theorem State.setCause_pc (c : Cause) : (s.setCause c).pc = { s.pc with cause := c } := rfl
@[simp] theorem State.setCause_gtu (c : Cause) : (s.setCause c).gtu = s.gtu := rfl
@[simp] theorem State.setCause_cm (c : Cause) : (s.setCause c).cm = s.cm := rfl
@[simp] theorem State.setCause_cu (c : Cause) : (s.setCause c).cu = s.cu := rfl
@[simp] theorem State.setCause_ae (c : Cause) : (s.setCause c).ae = s.ae := rfl
@[simp] theorem State.setCause_sl (c : Cause) : (s.setCause c).sl = s.sl := rfl
@[simp] theorem State.setCause_mp (c : Cause) : (s.setCause c).mp = s.mp := rfl
@[simp] theorem State.setCause_pins (c : Cause) : (s.setCause c).pins = s.pins := rfl
@[simp] theorem State.setCause_now (c : Cause) : (s.setCause c).now = s.now := rfl
@[simp] theorem State.setCause_choices (c : Cause) : (s.setCause c).choices = s.choices := rfl
@[simp] theorem State.setCause_pending (c : Cause) : (s.setCause c).pending = s.pending := rfl

/-! ### setTable -/

@[simp] theorem State.setTable_vbi (l : List CmdRecord) : (s.setTable l).vbi = s.vbi := rfl
@[simp] theorem State.setTable_pc (l : List CmdRecord) : (s.setTable l).pc = s.pc := rfl
@[simp] theorem State.setTable_gtu (l : List CmdRecord) : (s.setTable l).gtu = s.gtu := rfl
@[simp] theorem State.setTable_cm (l : List CmdRecord) : (s.setTable l).cm = s.cm := rfl
@[simp] theorem State.setTable_cu (l : List CmdRecord) : (s.setTable l).cu = { s.cu with table := settleHead (s.participation = .inStep) l } := rfl
@[simp] theorem State.setTable_ae (l : List CmdRecord) : (s.setTable l).ae = s.ae := rfl
@[simp] theorem State.setTable_sl (l : List CmdRecord) : (s.setTable l).sl = s.sl := rfl
@[simp] theorem State.setTable_mp (l : List CmdRecord) : (s.setTable l).mp = s.mp := rfl
@[simp] theorem State.setTable_pins (l : List CmdRecord) : (s.setTable l).pins = s.pins := rfl
@[simp] theorem State.setTable_now (l : List CmdRecord) : (s.setTable l).now = s.now := rfl
@[simp] theorem State.setTable_choices (l : List CmdRecord) : (s.setTable l).choices = s.choices := rfl
@[simp] theorem State.setTable_pending (l : List CmdRecord) : (s.setTable l).pending = s.pending := rfl

/-! ### raise -/

@[simp] theorem State.raise_vbi (i : Irq) : (s.raise i).vbi = s.vbi := rfl
@[simp] theorem State.raise_pc (i : Irq) : (s.raise i).pc = s.pc := rfl
@[simp] theorem State.raise_gtu (i : Irq) : (s.raise i).gtu = s.gtu := rfl
@[simp] theorem State.raise_cm (i : Irq) : (s.raise i).cm = s.cm := rfl
@[simp] theorem State.raise_cu (i : Irq) : (s.raise i).cu = s.cu := rfl
@[simp] theorem State.raise_ae (i : Irq) : (s.raise i).ae = s.ae := rfl
@[simp] theorem State.raise_sl (i : Irq) : (s.raise i).sl = s.sl := rfl
@[simp] theorem State.raise_mp (i : Irq) : (s.raise i).mp = s.mp.raise i := rfl
@[simp] theorem State.raise_pins (i : Irq) : (s.raise i).pins = s.pins := rfl
@[simp] theorem State.raise_now (i : Irq) : (s.raise i).now = s.now := rfl
@[simp] theorem State.raise_choices (i : Irq) : (s.raise i).choices = s.choices := rfl
@[simp] theorem State.raise_pending (i : Irq) : (s.raise i).pending = s.pending := rfl

/-! ### moveTo -/

@[simp] theorem State.moveTo_vbi (p : Participation) : (s.moveTo p).vbi = s.vbi := rfl
@[simp] theorem State.moveTo_pc (p : Participation) : (s.moveTo p).pc = { s.pc with participation := p } := rfl
@[simp] theorem State.moveTo_gtu (p : Participation) : (s.moveTo p).gtu = s.gtu := rfl
@[simp] theorem State.moveTo_cm (p : Participation) : (s.moveTo p).cm = s.cm := rfl
@[simp] theorem State.moveTo_cu (p : Participation) : (s.moveTo p).cu = s.cu := rfl
@[simp] theorem State.moveTo_ae (p : Participation) : (s.moveTo p).ae = s.ae := rfl
@[simp] theorem State.moveTo_sl (p : Participation) : (s.moveTo p).sl = s.sl := rfl
@[simp] theorem State.moveTo_mp (p : Participation) : (s.moveTo p).mp = s.mp.raise .part := rfl
@[simp] theorem State.moveTo_pins (p : Participation) : (s.moveTo p).pins = s.pins := rfl
@[simp] theorem State.moveTo_now (p : Participation) : (s.moveTo p).now = s.now := rfl
@[simp] theorem State.moveTo_choices (p : Participation) : (s.moveTo p).choices = s.choices := rfl
@[simp] theorem State.moveTo_pending (p : Participation) : (s.moveTo p).pending = s.pending := rfl

/-! ### enterLoading -/

@[simp] theorem State.enterLoading_vbi : (s.enterLoading).vbi = s.vbi := rfl
@[simp] theorem State.enterLoading_pc : (s.enterLoading).pc = { s.pc with participation := .loading } := rfl
@[simp] theorem State.enterLoading_gtu : (s.enterLoading).gtu = s.gtu := rfl
@[simp] theorem State.enterLoading_cm : (s.enterLoading).cm = s.cm := rfl
@[simp] theorem State.enterLoading_cu : (s.enterLoading).cu = s.cu := rfl
@[simp] theorem State.enterLoading_ae : (s.enterLoading).ae = s.ae := rfl
@[simp] theorem State.enterLoading_sl : (s.enterLoading).sl = s.sl := rfl
@[simp] theorem State.enterLoading_mp : (s.enterLoading).mp = s.mp := rfl
@[simp] theorem State.enterLoading_pins : (s.enterLoading).pins = s.pins := rfl
@[simp] theorem State.enterLoading_now : (s.enterLoading).now = s.now := rfl
@[simp] theorem State.enterLoading_choices : (s.enterLoading).choices = s.choices := rfl
@[simp] theorem State.enterLoading_pending : (s.enterLoading).pending = s.pending := rfl

/-! ### zeroLearning -/

@[simp] theorem State.zeroLearning_vbi : (s.zeroLearning).vbi = s.vbi := rfl
@[simp] theorem State.zeroLearning_pc : (s.zeroLearning).pc = { s.pc with verifyCount := 0, noNarratorCount := 0 } := rfl
@[simp] theorem State.zeroLearning_gtu : (s.zeroLearning).gtu = s.gtu := rfl
@[simp] theorem State.zeroLearning_cm : (s.zeroLearning).cm = s.cm := rfl
@[simp] theorem State.zeroLearning_cu : (s.zeroLearning).cu = s.cu := rfl
@[simp] theorem State.zeroLearning_ae : (s.zeroLearning).ae = s.ae := rfl
@[simp] theorem State.zeroLearning_sl : (s.zeroLearning).sl = s.sl := rfl
@[simp] theorem State.zeroLearning_mp : (s.zeroLearning).mp = s.mp := rfl
@[simp] theorem State.zeroLearning_pins : (s.zeroLearning).pins = s.pins := rfl
@[simp] theorem State.zeroLearning_now : (s.zeroLearning).now = s.now := rfl
@[simp] theorem State.zeroLearning_choices : (s.zeroLearning).choices = s.choices := rfl
@[simp] theorem State.zeroLearning_pending : (s.zeroLearning).pending = s.pending := rfl

/-! ### enterHistory -/

@[simp] theorem State.enterHistory_vbi (r : EpochRecord) : (s.enterHistory r).vbi = s.vbi := rfl
@[simp] theorem State.enterHistory_pc (r : EpochRecord) : (s.enterHistory r).pc = { s.pc with syncHistory := (r.faults.any :: s.pc.syncHistory).take historyDepth } := rfl
@[simp] theorem State.enterHistory_gtu (r : EpochRecord) : (s.enterHistory r).gtu = s.gtu := rfl
@[simp] theorem State.enterHistory_cm (r : EpochRecord) : (s.enterHistory r).cm = s.cm := rfl
@[simp] theorem State.enterHistory_cu (r : EpochRecord) : (s.enterHistory r).cu = s.cu := rfl
@[simp] theorem State.enterHistory_ae (r : EpochRecord) : (s.enterHistory r).ae = s.ae := rfl
@[simp] theorem State.enterHistory_sl (r : EpochRecord) : (s.enterHistory r).sl = s.sl := rfl
@[simp] theorem State.enterHistory_mp (r : EpochRecord) : (s.enterHistory r).mp = s.mp := rfl
@[simp] theorem State.enterHistory_pins (r : EpochRecord) : (s.enterHistory r).pins = s.pins := rfl
@[simp] theorem State.enterHistory_now (r : EpochRecord) : (s.enterHistory r).now = s.now := rfl
@[simp] theorem State.enterHistory_choices (r : EpochRecord) : (s.enterHistory r).choices = s.choices := rfl
@[simp] theorem State.enterHistory_pending (r : EpochRecord) : (s.enterHistory r).pending = s.pending := rfl

/-! ### takeRoles -/

@[simp] theorem State.takeRoles_vbi (a : List Byte) : (s.takeRoles a).vbi = s.vbi := rfl
@[simp] theorem State.takeRoles_pc (a : List Byte) : (s.takeRoles a).pc = s.pc := rfl
@[simp] theorem State.takeRoles_gtu (a : List Byte) : (s.takeRoles a).gtu = Gtu.cleared (blockRole a) := rfl
@[simp] theorem State.takeRoles_cm (a : List Byte) : (s.takeRoles a).cm = s.cm := rfl
@[simp] theorem State.takeRoles_cu (a : List Byte) : (s.takeRoles a).cu = s.cu := rfl
@[simp] theorem State.takeRoles_ae (a : List Byte) : (s.takeRoles a).ae = s.ae := rfl
@[simp] theorem State.takeRoles_sl (a : List Byte) : (s.takeRoles a).sl = s.sl := rfl
@[simp] theorem State.takeRoles_mp (a : List Byte) : (s.takeRoles a).mp = s.mp := rfl
@[simp] theorem State.takeRoles_pins (a : List Byte) : (s.takeRoles a).pins = s.pins := rfl
@[simp] theorem State.takeRoles_now (a : List Byte) : (s.takeRoles a).now = s.now := rfl
@[simp] theorem State.takeRoles_choices (a : List Byte) : (s.takeRoles a).choices = s.choices := rfl
@[simp] theorem State.takeRoles_pending (a : List Byte) : (s.takeRoles a).pending = s.pending := rfl

/-! ### latch -/

@[simp] theorem State.latch_vbi : (s.latch).vbi = { s.vbi with outgoing := s.outgoingNow } := rfl
@[simp] theorem State.latch_pc : (s.latch).pc = s.pc := rfl
@[simp] theorem State.latch_gtu : (s.latch).gtu = s.gtu := rfl
@[simp] theorem State.latch_cm : (s.latch).cm = s.cm := rfl
@[simp] theorem State.latch_cu : (s.latch).cu = { s.cu with offered := s.contention.2 } := rfl
@[simp] theorem State.latch_ae : (s.latch).ae = s.ae := rfl
@[simp] theorem State.latch_sl : (s.latch).sl = s.sl := rfl
@[simp] theorem State.latch_mp : (s.latch).mp = s.mp := rfl
@[simp] theorem State.latch_pins : (s.latch).pins = s.pins := rfl
@[simp] theorem State.latch_now : (s.latch).now = s.now := rfl
@[simp] theorem State.latch_choices : (s.latch).choices = s.choices := rfl
@[simp] theorem State.latch_pending : (s.latch).pending = s.pending := rfl

/-! ### leaveWaitRestore -/

@[simp] theorem State.leaveWaitRestore_vbi : (s.leaveWaitRestore).vbi = s.vbi := rfl
@[simp] theorem State.leaveWaitRestore_pc : (s.leaveWaitRestore).pc = s.pc := rfl
@[simp] theorem State.leaveWaitRestore_gtu : (s.leaveWaitRestore).gtu = s.gtu := rfl
@[simp] theorem State.leaveWaitRestore_cm : (s.leaveWaitRestore).cm = s.cm := rfl
@[simp] theorem State.leaveWaitRestore_cu : (s.leaveWaitRestore).cu = { s.cu with wtrTimer := none, restoreFull := false } := rfl
@[simp] theorem State.leaveWaitRestore_ae : (s.leaveWaitRestore).ae = s.ae := rfl
@[simp] theorem State.leaveWaitRestore_sl : (s.leaveWaitRestore).sl = s.sl := rfl
@[simp] theorem State.leaveWaitRestore_mp : (s.leaveWaitRestore).mp = s.mp := rfl
@[simp] theorem State.leaveWaitRestore_pins : (s.leaveWaitRestore).pins = s.pins := rfl
@[simp] theorem State.leaveWaitRestore_now : (s.leaveWaitRestore).now = s.now := rfl
@[simp] theorem State.leaveWaitRestore_choices : (s.leaveWaitRestore).choices = s.choices := rfl
@[simp] theorem State.leaveWaitRestore_pending : (s.leaveWaitRestore).pending = s.pending := rfl

/-! ### commandsSoftReset -/

@[simp] theorem State.commandsSoftReset_vbi : (s.commandsSoftReset).vbi = s.vbi := rfl
@[simp] theorem State.commandsSoftReset_pc : (s.commandsSoftReset).pc = s.pc := rfl
@[simp] theorem State.commandsSoftReset_gtu : (s.commandsSoftReset).gtu = s.gtu := rfl
@[simp] theorem State.commandsSoftReset_cm : (s.commandsSoftReset).cm = s.cm := rfl
@[simp] theorem State.commandsSoftReset_cu : (s.commandsSoftReset).cu = { Cu.reset with nextTag := s.cu.nextTag } := rfl
@[simp] theorem State.commandsSoftReset_ae : (s.commandsSoftReset).ae = s.ae := rfl
@[simp] theorem State.commandsSoftReset_sl : (s.commandsSoftReset).sl = s.sl := rfl
@[simp] theorem State.commandsSoftReset_mp : (s.commandsSoftReset).mp = s.mp := rfl
@[simp] theorem State.commandsSoftReset_pins : (s.commandsSoftReset).pins = s.pins := rfl
@[simp] theorem State.commandsSoftReset_now : (s.commandsSoftReset).now = s.now := rfl
@[simp] theorem State.commandsSoftReset_choices : (s.commandsSoftReset).choices = s.choices := rfl
@[simp] theorem State.commandsSoftReset_pending : (s.commandsSoftReset).pending = s.pending := rfl

/-! ### wrote -/

@[simp] theorem State.wrote_vbi (a : BitVec 7) : (s.wrote a).vbi = s.vbi := rfl
@[simp] theorem State.wrote_pc (a : BitVec 7) : (s.wrote a).pc = s.pc := rfl
@[simp] theorem State.wrote_gtu (a : BitVec 7) : (s.wrote a).gtu = s.gtu := rfl
@[simp] theorem State.wrote_cm (a : BitVec 7) : (s.wrote a).cm = s.cm := rfl
@[simp] theorem State.wrote_cu (a : BitVec 7) : (s.wrote a).cu = s.cu := rfl
@[simp] theorem State.wrote_ae (a : BitVec 7) : (s.wrote a).ae = s.ae := rfl
@[simp] theorem State.wrote_sl (a : BitVec 7) : (s.wrote a).sl = s.sl := rfl
@[simp] theorem State.wrote_mp (a : BitVec 7) : (s.wrote a).mp = s.mp.wrote a := rfl
@[simp] theorem State.wrote_pins (a : BitVec 7) : (s.wrote a).pins = s.pins := rfl
@[simp] theorem State.wrote_now (a : BitVec 7) : (s.wrote a).now = s.now := rfl
@[simp] theorem State.wrote_choices (a : BitVec 7) : (s.wrote a).choices = s.choices := rfl
@[simp] theorem State.wrote_pending (a : BitVec 7) : (s.wrote a).pending = s.pending := rfl

/-! ### ctrlReads -/

@[simp] theorem State.ctrlReads_vbi (c : BitVec 4) (r : CtrlResult) : (s.ctrlReads c r).vbi = s.vbi := rfl
@[simp] theorem State.ctrlReads_pc (c : BitVec 4) (r : CtrlResult) : (s.ctrlReads c r).pc = s.pc := rfl
@[simp] theorem State.ctrlReads_gtu (c : BitVec 4) (r : CtrlResult) : (s.ctrlReads c r).gtu = s.gtu := rfl
@[simp] theorem State.ctrlReads_cm (c : BitVec 4) (r : CtrlResult) : (s.ctrlReads c r).cm = s.cm := rfl
@[simp] theorem State.ctrlReads_cu (c : BitVec 4) (r : CtrlResult) : (s.ctrlReads c r).cu = s.cu := rfl
@[simp] theorem State.ctrlReads_ae (c : BitVec 4) (r : CtrlResult) : (s.ctrlReads c r).ae = s.ae := rfl
@[simp] theorem State.ctrlReads_sl (c : BitVec 4) (r : CtrlResult) : (s.ctrlReads c r).sl = s.sl := rfl
@[simp] theorem State.ctrlReads_mp (c : BitVec 4) (r : CtrlResult) : (s.ctrlReads c r).mp = { s.mp with ctrlCode := c, ctrlResult := r } := rfl
@[simp] theorem State.ctrlReads_pins (c : BitVec 4) (r : CtrlResult) : (s.ctrlReads c r).pins = s.pins := rfl
@[simp] theorem State.ctrlReads_now (c : BitVec 4) (r : CtrlResult) : (s.ctrlReads c r).now = s.now := rfl
@[simp] theorem State.ctrlReads_choices (c : BitVec 4) (r : CtrlResult) : (s.ctrlReads c r).choices = s.choices := rfl
@[simp] theorem State.ctrlReads_pending (c : BitVec 4) (r : CtrlResult) : (s.ctrlReads c r).pending = s.pending := rfl

/-! ### takeCopy -/

@[simp] theorem State.takeCopy_vbi (g : Group) : (s.takeCopy g).vbi = s.vbi := rfl
@[simp] theorem State.takeCopy_pc (g : Group) : (s.takeCopy g).pc = s.pc := rfl
@[simp] theorem State.takeCopy_gtu (g : Group) : (s.takeCopy g).gtu = s.gtu := rfl
@[simp] theorem State.takeCopy_cm (g : Group) : (s.takeCopy g).cm = s.cm := rfl
@[simp] theorem State.takeCopy_cu (g : Group) : (s.takeCopy g).cu = s.cu := rfl
@[simp] theorem State.takeCopy_ae (g : Group) : (s.takeCopy g).ae = s.ae := rfl
@[simp] theorem State.takeCopy_sl (g : Group) : (s.takeCopy g).sl = s.sl := rfl
@[simp] theorem State.takeCopy_mp (g : Group) : (s.takeCopy g).mp = { s.mp with capture := some (g, s.groupBytes g) } := rfl
@[simp] theorem State.takeCopy_pins (g : Group) : (s.takeCopy g).pins = s.pins := rfl
@[simp] theorem State.takeCopy_now (g : Group) : (s.takeCopy g).now = s.now := rfl
@[simp] theorem State.takeCopy_choices (g : Group) : (s.takeCopy g).choices = s.choices := rfl
@[simp] theorem State.takeCopy_pending (g : Group) : (s.takeCopy g).pending = s.pending := rfl

/-! ### takeByte -/

@[simp] theorem State.takeByte_vbi (a : BitVec 7) : (s.takeByte a).vbi = s.vbi := rfl
@[simp] theorem State.takeByte_pc (a : BitVec 7) : (s.takeByte a).pc = s.pc := rfl
@[simp] theorem State.takeByte_gtu (a : BitVec 7) : (s.takeByte a).gtu = s.gtu := rfl
@[simp] theorem State.takeByte_cm (a : BitVec 7) : (s.takeByte a).cm = s.cm := rfl
@[simp] theorem State.takeByte_cu (a : BitVec 7) : (s.takeByte a).cu = s.cu := rfl
@[simp] theorem State.takeByte_ae (a : BitVec 7) : (s.takeByte a).ae = s.ae := rfl
@[simp] theorem State.takeByte_sl (a : BitVec 7) : (s.takeByte a).sl = s.sl := rfl
@[simp] theorem State.takeByte_mp (a : BitVec 7) : (s.takeByte a).mp = { s.mp with readout := some (s.readsAs a), snapTaken := a = snapdataAddress && s.mp.snapState = .ready } := rfl
@[simp] theorem State.takeByte_pins (a : BitVec 7) : (s.takeByte a).pins = s.pins := rfl
@[simp] theorem State.takeByte_now (a : BitVec 7) : (s.takeByte a).now = s.now := rfl
@[simp] theorem State.takeByte_choices (a : BitVec 7) : (s.takeByte a).choices = s.choices := rfl
@[simp] theorem State.takeByte_pending (a : BitVec 7) : (s.takeByte a).pending = s.pending := rfl

end Sys2Proof.Machine
end

