-- ==== Sys2Proof/Laws/Frames.lean ====
section
/-! SUPPORT. Frames of the shared operations: for each, the fields of `State` it leaves as they were. A proof about a command cites these in place of
opening the operation. -/

namespace Sys2Proof.Machine

variable (s : State)

/-! ### raiseIf -/

@[simp] theorem State.raiseIf_vbi (c : Bool) (i : Irq) : (s.raiseIf c i).vbi = s.vbi := by unfold State.raiseIf; split <;> rfl
@[simp] theorem State.raiseIf_pc (c : Bool) (i : Irq) : (s.raiseIf c i).pc = s.pc := by unfold State.raiseIf; split <;> rfl
@[simp] theorem State.raiseIf_gtu (c : Bool) (i : Irq) : (s.raiseIf c i).gtu = s.gtu := by unfold State.raiseIf; split <;> rfl
@[simp] theorem State.raiseIf_cm (c : Bool) (i : Irq) : (s.raiseIf c i).cm = s.cm := by unfold State.raiseIf; split <;> rfl
@[simp] theorem State.raiseIf_cu (c : Bool) (i : Irq) : (s.raiseIf c i).cu = s.cu := by unfold State.raiseIf; split <;> rfl
@[simp] theorem State.raiseIf_ae (c : Bool) (i : Irq) : (s.raiseIf c i).ae = s.ae := by unfold State.raiseIf; split <;> rfl
@[simp] theorem State.raiseIf_sl (c : Bool) (i : Irq) : (s.raiseIf c i).sl = s.sl := by unfold State.raiseIf; split <;> rfl
@[simp] theorem State.raiseIf_pins (c : Bool) (i : Irq) : (s.raiseIf c i).pins = s.pins := by unfold State.raiseIf; split <;> rfl
@[simp] theorem State.raiseIf_now (c : Bool) (i : Irq) : (s.raiseIf c i).now = s.now := by unfold State.raiseIf; split <;> rfl
@[simp] theorem State.raiseIf_choices (c : Bool) (i : Irq) : (s.raiseIf c i).choices = s.choices := by unfold State.raiseIf; split <;> rfl
@[simp] theorem State.raiseIf_pending (c : Bool) (i : Irq) : (s.raiseIf c i).pending = s.pending := by unfold State.raiseIf; split <;> rfl

/-! ### deriveOwn -/

@[simp] theorem State.deriveOwn_vbi : (s.deriveOwn).vbi = s.vbi := by unfold State.deriveOwn; split <;> rfl
@[simp] theorem State.deriveOwn_pc : (s.deriveOwn).pc = s.pc := by unfold State.deriveOwn; split <;> rfl
@[simp] theorem State.deriveOwn_gtu : (s.deriveOwn).gtu = s.gtu := by unfold State.deriveOwn; split <;> rfl
@[simp] theorem State.deriveOwn_cu : (s.deriveOwn).cu = s.cu := by unfold State.deriveOwn; split <;> rfl
@[simp] theorem State.deriveOwn_ae : (s.deriveOwn).ae = s.ae := by unfold State.deriveOwn; split <;> rfl
@[simp] theorem State.deriveOwn_sl : (s.deriveOwn).sl = s.sl := by unfold State.deriveOwn; split <;> rfl
@[simp] theorem State.deriveOwn_pins : (s.deriveOwn).pins = s.pins := by unfold State.deriveOwn; split <;> rfl
@[simp] theorem State.deriveOwn_now : (s.deriveOwn).now = s.now := by unfold State.deriveOwn; split <;> rfl
@[simp] theorem State.deriveOwn_choices : (s.deriveOwn).choices = s.choices := by unfold State.deriveOwn; split <;> rfl
@[simp] theorem State.deriveOwn_pending : (s.deriveOwn).pending = s.pending := by unfold State.deriveOwn; split <;> rfl

/-! ### judgeMonitor -/

@[simp] theorem State.judgeMonitor_vbi : (s.judgeMonitor).vbi = s.vbi := by
  unfold State.judgeMonitor; split; · rfl
  split
  · rfl
  · simp
@[simp] theorem State.judgeMonitor_pc : (s.judgeMonitor).pc = s.pc := by
  unfold State.judgeMonitor; split; · rfl
  split
  · rfl
  · simp
@[simp] theorem State.judgeMonitor_gtu : (s.judgeMonitor).gtu = s.gtu := by
  unfold State.judgeMonitor; split; · rfl
  split
  · rfl
  · simp
@[simp] theorem State.judgeMonitor_cu : (s.judgeMonitor).cu = s.cu := by
  unfold State.judgeMonitor; split; · rfl
  split
  · rfl
  · simp
@[simp] theorem State.judgeMonitor_ae : (s.judgeMonitor).ae = s.ae := by
  unfold State.judgeMonitor; split; · rfl
  split
  · rfl
  · simp
@[simp] theorem State.judgeMonitor_sl : (s.judgeMonitor).sl = s.sl := by
  unfold State.judgeMonitor; split; · rfl
  split
  · rfl
  · simp
@[simp] theorem State.judgeMonitor_pins : (s.judgeMonitor).pins = s.pins := by
  unfold State.judgeMonitor; split; · rfl
  split
  · rfl
  · simp
@[simp] theorem State.judgeMonitor_now : (s.judgeMonitor).now = s.now := by
  unfold State.judgeMonitor; split; · rfl
  split
  · rfl
  · simp
@[simp] theorem State.judgeMonitor_choices : (s.judgeMonitor).choices = s.choices := by
  unfold State.judgeMonitor; split; · rfl
  split
  · rfl
  · simp
@[simp] theorem State.judgeMonitor_pending : (s.judgeMonitor).pending = s.pending := by
  unfold State.judgeMonitor; split; · rfl
  split
  · rfl
  · simp

/-! ### judgeLine -/

@[simp] theorem State.judgeLine_vbi (n : Fin 4) : (s.judgeLine n).vbi = s.vbi := by rfl
@[simp] theorem State.judgeLine_pc (n : Fin 4) : (s.judgeLine n).pc = s.pc := by rfl
@[simp] theorem State.judgeLine_gtu (n : Fin 4) : (s.judgeLine n).gtu = s.gtu := by rfl
@[simp] theorem State.judgeLine_cu (n : Fin 4) : (s.judgeLine n).cu = s.cu := by rfl
@[simp] theorem State.judgeLine_ae (n : Fin 4) : (s.judgeLine n).ae = s.ae := by rfl
@[simp] theorem State.judgeLine_sl (n : Fin 4) : (s.judgeLine n).sl = s.sl := by rfl
@[simp] theorem State.judgeLine_mp (n : Fin 4) : (s.judgeLine n).mp = s.mp := by rfl
@[simp] theorem State.judgeLine_pins (n : Fin 4) : (s.judgeLine n).pins = s.pins := by rfl
@[simp] theorem State.judgeLine_now (n : Fin 4) : (s.judgeLine n).now = s.now := by rfl
@[simp] theorem State.judgeLine_choices (n : Fin 4) : (s.judgeLine n).choices = s.choices := by rfl
@[simp] theorem State.judgeLine_pending (n : Fin 4) : (s.judgeLine n).pending = s.pending := by rfl

/-! ### takeParameters -/

@[simp] theorem State.takeParameters_vbi : (s.takeParameters).vbi = s.vbi := by simp [State.takeParameters, allLines]
@[simp] theorem State.takeParameters_pc : (s.takeParameters).pc = s.pc := by simp [State.takeParameters, allLines]
@[simp] theorem State.takeParameters_gtu : (s.takeParameters).gtu = s.gtu := by simp [State.takeParameters, allLines]
@[simp] theorem State.takeParameters_cu : (s.takeParameters).cu = s.cu := by simp [State.takeParameters, allLines]
@[simp] theorem State.takeParameters_ae : (s.takeParameters).ae = s.ae := by simp [State.takeParameters, allLines]
@[simp] theorem State.takeParameters_sl : (s.takeParameters).sl = s.sl := by simp [State.takeParameters, allLines]
@[simp] theorem State.takeParameters_pins : (s.takeParameters).pins = s.pins := by simp [State.takeParameters, allLines]
@[simp] theorem State.takeParameters_now : (s.takeParameters).now = s.now := by simp [State.takeParameters, allLines]
@[simp] theorem State.takeParameters_choices : (s.takeParameters).choices = s.choices := by simp [State.takeParameters, allLines]
@[simp] theorem State.takeParameters_pending : (s.takeParameters).pending = s.pending := by simp [State.takeParameters, allLines]

/-! ### sampleLines -/

@[simp] theorem State.sampleLines_vbi : (s.sampleLines).vbi = s.vbi := by simp [State.sampleLines, allLines]
@[simp] theorem State.sampleLines_pc : (s.sampleLines).pc = s.pc := by simp [State.sampleLines, allLines]
@[simp] theorem State.sampleLines_gtu : (s.sampleLines).gtu = s.gtu := by simp [State.sampleLines, allLines]
@[simp] theorem State.sampleLines_cu : (s.sampleLines).cu = s.cu := by simp [State.sampleLines, allLines]
@[simp] theorem State.sampleLines_ae : (s.sampleLines).ae = s.ae := by simp [State.sampleLines, allLines]
@[simp] theorem State.sampleLines_sl : (s.sampleLines).sl = s.sl := by simp [State.sampleLines, allLines]
@[simp] theorem State.sampleLines_mp : (s.sampleLines).mp = s.mp := by simp [State.sampleLines, allLines]
@[simp] theorem State.sampleLines_pins : (s.sampleLines).pins = s.pins := by simp [State.sampleLines, allLines]
@[simp] theorem State.sampleLines_now : (s.sampleLines).now = s.now := by simp [State.sampleLines, allLines]
@[simp] theorem State.sampleLines_choices : (s.sampleLines).choices = s.choices := by simp [State.sampleLines, allLines]
@[simp] theorem State.sampleLines_pending : (s.sampleLines).pending = s.pending := by simp [State.sampleLines, allLines]

/-! ### engineFault -/

@[simp] theorem State.engineFault_vbi (f : FaultRecord) : (s.engineFault f).vbi = s.vbi := by simp [State.engineFault]
@[simp] theorem State.engineFault_pc (f : FaultRecord) : (s.engineFault f).pc = s.pc := by simp [State.engineFault]
@[simp] theorem State.engineFault_gtu (f : FaultRecord) : (s.engineFault f).gtu = s.gtu := by simp [State.engineFault]
@[simp] theorem State.engineFault_cu (f : FaultRecord) : (s.engineFault f).cu = s.cu := by simp [State.engineFault]
@[simp] theorem State.engineFault_sl (f : FaultRecord) : (s.engineFault f).sl = s.sl := by simp [State.engineFault]
@[simp] theorem State.engineFault_pins (f : FaultRecord) : (s.engineFault f).pins = s.pins := by simp [State.engineFault]
@[simp] theorem State.engineFault_now (f : FaultRecord) : (s.engineFault f).now = s.now := by simp [State.engineFault]
@[simp] theorem State.engineFault_choices (f : FaultRecord) : (s.engineFault f).choices = s.choices := by simp [State.engineFault]
@[simp] theorem State.engineFault_pending (f : FaultRecord) : (s.engineFault f).pending = s.pending := by simp [State.engineFault]

/-! ### completed -/

@[simp] theorem State.completed_vbi (d : Directive) : (s.completed d).vbi = s.vbi := by simp [State.completed]
@[simp] theorem State.completed_pc (d : Directive) : (s.completed d).pc = s.pc := by simp [State.completed]
@[simp] theorem State.completed_gtu (d : Directive) : (s.completed d).gtu = s.gtu := by simp [State.completed]
@[simp] theorem State.completed_cm (d : Directive) : (s.completed d).cm = s.cm := by simp [State.completed]
@[simp] theorem State.completed_cu (d : Directive) : (s.completed d).cu = s.cu := by simp [State.completed]
@[simp] theorem State.completed_sl (d : Directive) : (s.completed d).sl = s.sl := by simp [State.completed]
@[simp] theorem State.completed_pins (d : Directive) : (s.completed d).pins = s.pins := by simp [State.completed]
@[simp] theorem State.completed_now (d : Directive) : (s.completed d).now = s.now := by simp [State.completed]
@[simp] theorem State.completed_choices (d : Directive) : (s.completed d).choices = s.choices := by simp [State.completed]
@[simp] theorem State.completed_pending (d : Directive) : (s.completed d).pending = s.pending := by simp [State.completed]

/-! ### engineRests -/

@[simp] theorem State.engineRests_vbi : (s.engineRests).vbi = s.vbi := by simp [State.engineRests]
@[simp] theorem State.engineRests_pc : (s.engineRests).pc = s.pc := by simp [State.engineRests]
@[simp] theorem State.engineRests_gtu : (s.engineRests).gtu = s.gtu := by simp [State.engineRests]
@[simp] theorem State.engineRests_cu : (s.engineRests).cu = s.cu := by simp [State.engineRests]
@[simp] theorem State.engineRests_sl : (s.engineRests).sl = s.sl := by simp [State.engineRests]
@[simp] theorem State.engineRests_pins : (s.engineRests).pins = s.pins := by simp [State.engineRests]
@[simp] theorem State.engineRests_now : (s.engineRests).now = s.now := by simp [State.engineRests]
@[simp] theorem State.engineRests_choices : (s.engineRests).choices = s.choices := by simp [State.engineRests]
@[simp] theorem State.engineRests_pending : (s.engineRests).pending = s.pending := by simp [State.engineRests]

/-! ### sequenceBegins -/

@[simp] theorem State.sequenceBegins_vbi (d : Directive) (l : List Directive) : (s.sequenceBegins d l).vbi = s.vbi := by simp [State.sequenceBegins]
@[simp] theorem State.sequenceBegins_pc (d : Directive) (l : List Directive) : (s.sequenceBegins d l).pc = s.pc := by simp [State.sequenceBegins]
@[simp] theorem State.sequenceBegins_gtu (d : Directive) (l : List Directive) : (s.sequenceBegins d l).gtu = s.gtu := by simp [State.sequenceBegins]
@[simp] theorem State.sequenceBegins_cu (d : Directive) (l : List Directive) : (s.sequenceBegins d l).cu = s.cu := by simp [State.sequenceBegins]
@[simp] theorem State.sequenceBegins_sl (d : Directive) (l : List Directive) : (s.sequenceBegins d l).sl = s.sl := by simp [State.sequenceBegins]
@[simp] theorem State.sequenceBegins_pins (d : Directive) (l : List Directive) : (s.sequenceBegins d l).pins = s.pins := by simp [State.sequenceBegins]
@[simp] theorem State.sequenceBegins_now (d : Directive) (l : List Directive) : (s.sequenceBegins d l).now = s.now := by simp [State.sequenceBegins]
@[simp] theorem State.sequenceBegins_choices (d : Directive) (l : List Directive) : (s.sequenceBegins d l).choices = s.choices := by simp [State.sequenceBegins]
@[simp] theorem State.sequenceBegins_pending (d : Directive) (l : List Directive) : (s.sequenceBegins d l).pending = s.pending := by simp [State.sequenceBegins]

/-! ### runQueue -/

@[simp] theorem State.runQueue_vbi (l : List Directive) : (s.runQueue l).vbi = s.vbi := by
  induction l generalizing s with
  | nil => simp [State.runQueue]
  | cons d l ih =>
    unfold State.runQueue; split
    · simp [ih]
    · dsimp only; split <;> simp [ih]
@[simp] theorem State.runQueue_pc (l : List Directive) : (s.runQueue l).pc = s.pc := by
  induction l generalizing s with
  | nil => simp [State.runQueue]
  | cons d l ih =>
    unfold State.runQueue; split
    · simp [ih]
    · dsimp only; split <;> simp [ih]
@[simp] theorem State.runQueue_gtu (l : List Directive) : (s.runQueue l).gtu = s.gtu := by
  induction l generalizing s with
  | nil => simp [State.runQueue]
  | cons d l ih =>
    unfold State.runQueue; split
    · simp [ih]
    · dsimp only; split <;> simp [ih]
@[simp] theorem State.runQueue_cu (l : List Directive) : (s.runQueue l).cu = s.cu := by
  induction l generalizing s with
  | nil => simp [State.runQueue]
  | cons d l ih =>
    unfold State.runQueue; split
    · simp [ih]
    · dsimp only; split <;> simp [ih]
@[simp] theorem State.runQueue_sl (l : List Directive) : (s.runQueue l).sl = s.sl := by
  induction l generalizing s with
  | nil => simp [State.runQueue]
  | cons d l ih =>
    unfold State.runQueue; split
    · simp [ih]
    · dsimp only; split <;> simp [ih]
@[simp] theorem State.runQueue_pins (l : List Directive) : (s.runQueue l).pins = s.pins := by
  induction l generalizing s with
  | nil => simp [State.runQueue]
  | cons d l ih =>
    unfold State.runQueue; split
    · simp [ih]
    · dsimp only; split <;> simp [ih]
@[simp] theorem State.runQueue_now (l : List Directive) : (s.runQueue l).now = s.now := by
  induction l generalizing s with
  | nil => simp [State.runQueue]
  | cons d l ih =>
    unfold State.runQueue; split
    · simp [ih]
    · dsimp only; split <;> simp [ih]
@[simp] theorem State.runQueue_choices (l : List Directive) : (s.runQueue l).choices = s.choices := by
  induction l generalizing s with
  | nil => simp [State.runQueue]
  | cons d l ih =>
    unfold State.runQueue; split
    · simp [ih]
    · dsimp only; split <;> simp [ih]
@[simp] theorem State.runQueue_pending (l : List Directive) : (s.runQueue l).pending = s.pending := by
  induction l generalizing s with
  | nil => simp [State.runQueue]
  | cons d l ih =>
    unfold State.runQueue; split
    · simp [ih]
    · dsimp only; split <;> simp [ih]

/-! ### sequenceCompletes -/

@[simp] theorem State.sequenceCompletes_vbi (d : Directive) : (s.sequenceCompletes d).vbi = s.vbi := by unfold State.sequenceCompletes; dsimp only; split <;> simp
@[simp] theorem State.sequenceCompletes_pc (d : Directive) : (s.sequenceCompletes d).pc = s.pc := by unfold State.sequenceCompletes; dsimp only; split <;> simp
@[simp] theorem State.sequenceCompletes_gtu (d : Directive) : (s.sequenceCompletes d).gtu = s.gtu := by unfold State.sequenceCompletes; dsimp only; split <;> simp
@[simp] theorem State.sequenceCompletes_cu (d : Directive) : (s.sequenceCompletes d).cu = s.cu := by unfold State.sequenceCompletes; dsimp only; split <;> simp
@[simp] theorem State.sequenceCompletes_sl (d : Directive) : (s.sequenceCompletes d).sl = s.sl := by unfold State.sequenceCompletes; dsimp only; split <;> simp
@[simp] theorem State.sequenceCompletes_pins (d : Directive) : (s.sequenceCompletes d).pins = s.pins := by unfold State.sequenceCompletes; dsimp only; split <;> simp
@[simp] theorem State.sequenceCompletes_now (d : Directive) : (s.sequenceCompletes d).now = s.now := by unfold State.sequenceCompletes; dsimp only; split <;> simp
@[simp] theorem State.sequenceCompletes_choices (d : Directive) : (s.sequenceCompletes d).choices = s.choices := by unfold State.sequenceCompletes; dsimp only; split <;> simp
@[simp] theorem State.sequenceCompletes_pending (d : Directive) : (s.sequenceCompletes d).pending = s.pending := by unfold State.sequenceCompletes; dsimp only; split <;> simp

/-! ### sequenceEnters -/

@[simp] theorem State.sequenceEnters_vbi (d : Directive) (i : Nat) : (s.sequenceEnters d i).vbi = s.vbi := by unfold State.sequenceEnters; split <;> simp
@[simp] theorem State.sequenceEnters_pc (d : Directive) (i : Nat) : (s.sequenceEnters d i).pc = s.pc := by unfold State.sequenceEnters; split <;> simp
@[simp] theorem State.sequenceEnters_gtu (d : Directive) (i : Nat) : (s.sequenceEnters d i).gtu = s.gtu := by unfold State.sequenceEnters; split <;> simp
@[simp] theorem State.sequenceEnters_cu (d : Directive) (i : Nat) : (s.sequenceEnters d i).cu = s.cu := by unfold State.sequenceEnters; split <;> simp
@[simp] theorem State.sequenceEnters_sl (d : Directive) (i : Nat) : (s.sequenceEnters d i).sl = s.sl := by unfold State.sequenceEnters; split <;> simp
@[simp] theorem State.sequenceEnters_pins (d : Directive) (i : Nat) : (s.sequenceEnters d i).pins = s.pins := by unfold State.sequenceEnters; split <;> simp
@[simp] theorem State.sequenceEnters_now (d : Directive) (i : Nat) : (s.sequenceEnters d i).now = s.now := by unfold State.sequenceEnters; split <;> simp
@[simp] theorem State.sequenceEnters_choices (d : Directive) (i : Nat) : (s.sequenceEnters d i).choices = s.choices := by unfold State.sequenceEnters; split <;> simp
@[simp] theorem State.sequenceEnters_pending (d : Directive) (i : Nat) : (s.sequenceEnters d i).pending = s.pending := by unfold State.sequenceEnters; split <;> simp

/-! ### recordDone -/

@[simp] theorem State.recordDone_vbi (d : Directive) (r : StepRecord) : (s.recordDone d r).vbi = s.vbi := by unfold State.recordDone; dsimp only; split <;> simp
@[simp] theorem State.recordDone_pc (d : Directive) (r : StepRecord) : (s.recordDone d r).pc = s.pc := by unfold State.recordDone; dsimp only; split <;> simp
@[simp] theorem State.recordDone_gtu (d : Directive) (r : StepRecord) : (s.recordDone d r).gtu = s.gtu := by unfold State.recordDone; dsimp only; split <;> simp
@[simp] theorem State.recordDone_cu (d : Directive) (r : StepRecord) : (s.recordDone d r).cu = s.cu := by unfold State.recordDone; dsimp only; split <;> simp
@[simp] theorem State.recordDone_sl (d : Directive) (r : StepRecord) : (s.recordDone d r).sl = s.sl := by unfold State.recordDone; dsimp only; split <;> simp
@[simp] theorem State.recordDone_pins (d : Directive) (r : StepRecord) : (s.recordDone d r).pins = s.pins := by unfold State.recordDone; dsimp only; split <;> simp
@[simp] theorem State.recordDone_now (d : Directive) (r : StepRecord) : (s.recordDone d r).now = s.now := by unfold State.recordDone; dsimp only; split <;> simp
@[simp] theorem State.recordDone_choices (d : Directive) (r : StepRecord) : (s.recordDone d r).choices = s.choices := by unfold State.recordDone; dsimp only; split <;> simp
@[simp] theorem State.recordDone_pending (d : Directive) (r : StepRecord) : (s.recordDone d r).pending = s.pending := by unfold State.recordDone; dsimp only; split <;> simp

/-! ### offer -/

@[simp] theorem State.offer_vbi (d : Directive) : (s.offer d).vbi = s.vbi := by
  unfold State.offer; split
  · simp
  all_goals first | rfl | (split; · rfl
                           split <;> simp)
@[simp] theorem State.offer_pc (d : Directive) : (s.offer d).pc = s.pc := by
  unfold State.offer; split
  · simp
  all_goals first | rfl | (split; · rfl
                           split <;> simp)
@[simp] theorem State.offer_gtu (d : Directive) : (s.offer d).gtu = s.gtu := by
  unfold State.offer; split
  · simp
  all_goals first | rfl | (split; · rfl
                           split <;> simp)
@[simp] theorem State.offer_cu (d : Directive) : (s.offer d).cu = s.cu := by
  unfold State.offer; split
  · simp
  all_goals first | rfl | (split; · rfl
                           split <;> simp)
@[simp] theorem State.offer_sl (d : Directive) : (s.offer d).sl = s.sl := by
  unfold State.offer; split
  · simp
  all_goals first | rfl | (split; · rfl
                           split <;> simp)
@[simp] theorem State.offer_pins (d : Directive) : (s.offer d).pins = s.pins := by
  unfold State.offer; split
  · simp
  all_goals first | rfl | (split; · rfl
                           split <;> simp)
@[simp] theorem State.offer_now (d : Directive) : (s.offer d).now = s.now := by
  unfold State.offer; split
  · simp
  all_goals first | rfl | (split; · rfl
                           split <;> simp)
@[simp] theorem State.offer_choices (d : Directive) : (s.offer d).choices = s.choices := by
  unfold State.offer; split
  · simp
  all_goals first | rfl | (split; · rfl
                           split <;> simp)
@[simp] theorem State.offer_pending (d : Directive) : (s.offer d).pending = s.pending := by
  unfold State.offer; split
  · simp
  all_goals first | rfl | (split; · rfl
                           split <;> simp)

/-! ### offerAll -/

@[simp] theorem State.offerAll_vbi (l : List Directive) : (s.offerAll l).vbi = s.vbi := by
  unfold State.offerAll
  induction l generalizing s with
  | nil => rfl
  | cons d l ih => simp [ih]
@[simp] theorem State.offerAll_pc (l : List Directive) : (s.offerAll l).pc = s.pc := by
  unfold State.offerAll
  induction l generalizing s with
  | nil => rfl
  | cons d l ih => simp [ih]
@[simp] theorem State.offerAll_gtu (l : List Directive) : (s.offerAll l).gtu = s.gtu := by
  unfold State.offerAll
  induction l generalizing s with
  | nil => rfl
  | cons d l ih => simp [ih]
@[simp] theorem State.offerAll_cu (l : List Directive) : (s.offerAll l).cu = s.cu := by
  unfold State.offerAll
  induction l generalizing s with
  | nil => rfl
  | cons d l ih => simp [ih]
@[simp] theorem State.offerAll_sl (l : List Directive) : (s.offerAll l).sl = s.sl := by
  unfold State.offerAll
  induction l generalizing s with
  | nil => rfl
  | cons d l ih => simp [ih]
@[simp] theorem State.offerAll_pins (l : List Directive) : (s.offerAll l).pins = s.pins := by
  unfold State.offerAll
  induction l generalizing s with
  | nil => rfl
  | cons d l ih => simp [ih]
@[simp] theorem State.offerAll_now (l : List Directive) : (s.offerAll l).now = s.now := by
  unfold State.offerAll
  induction l generalizing s with
  | nil => rfl
  | cons d l ih => simp [ih]
@[simp] theorem State.offerAll_choices (l : List Directive) : (s.offerAll l).choices = s.choices := by
  unfold State.offerAll
  induction l generalizing s with
  | nil => rfl
  | cons d l ih => simp [ih]
@[simp] theorem State.offerAll_pending (l : List Directive) : (s.offerAll l).pending = s.pending := by
  unfold State.offerAll
  induction l generalizing s with
  | nil => rfl
  | cons d l ih => simp [ih]

/-! ### offerWithdraw -/

@[simp] theorem State.offerWithdraw_vbi : (s.offerWithdraw).vbi = s.vbi := by simp [State.offerWithdraw]
@[simp] theorem State.offerWithdraw_pc : (s.offerWithdraw).pc = s.pc := by simp [State.offerWithdraw]
@[simp] theorem State.offerWithdraw_gtu : (s.offerWithdraw).gtu = s.gtu := by simp [State.offerWithdraw]
@[simp] theorem State.offerWithdraw_cu : (s.offerWithdraw).cu = s.cu := by simp [State.offerWithdraw]
@[simp] theorem State.offerWithdraw_sl : (s.offerWithdraw).sl = s.sl := by simp [State.offerWithdraw]
@[simp] theorem State.offerWithdraw_pins : (s.offerWithdraw).pins = s.pins := by simp [State.offerWithdraw]
@[simp] theorem State.offerWithdraw_now : (s.offerWithdraw).now = s.now := by simp [State.offerWithdraw]
@[simp] theorem State.offerWithdraw_choices : (s.offerWithdraw).choices = s.choices := by simp [State.offerWithdraw]
@[simp] theorem State.offerWithdraw_pending : (s.offerWithdraw).pending = s.pending := by simp [State.offerWithdraw]

/-! ### engineSoftReset -/

@[simp] theorem State.engineSoftReset_vbi : (s.engineSoftReset).vbi = s.vbi := by simp [State.engineSoftReset]
@[simp] theorem State.engineSoftReset_pc : (s.engineSoftReset).pc = s.pc := by simp [State.engineSoftReset]
@[simp] theorem State.engineSoftReset_gtu : (s.engineSoftReset).gtu = s.gtu := by simp [State.engineSoftReset]
@[simp] theorem State.engineSoftReset_cu : (s.engineSoftReset).cu = s.cu := by simp [State.engineSoftReset]
@[simp] theorem State.engineSoftReset_sl : (s.engineSoftReset).sl = s.sl := by simp [State.engineSoftReset]
@[simp] theorem State.engineSoftReset_pins : (s.engineSoftReset).pins = s.pins := by simp [State.engineSoftReset]
@[simp] theorem State.engineSoftReset_now : (s.engineSoftReset).now = s.now := by simp [State.engineSoftReset]
@[simp] theorem State.engineSoftReset_choices : (s.engineSoftReset).choices = s.choices := by simp [State.engineSoftReset]
@[simp] theorem State.engineSoftReset_pending : (s.engineSoftReset).pending = s.pending := by simp [State.engineSoftReset]

/-! ### engineStop -/

@[simp] theorem State.engineStop_vbi : (s.engineStop).vbi = s.vbi := by simp [State.engineStop]
@[simp] theorem State.engineStop_pc : (s.engineStop).pc = s.pc := by simp [State.engineStop]
@[simp] theorem State.engineStop_gtu : (s.engineStop).gtu = s.gtu := by simp [State.engineStop]
@[simp] theorem State.engineStop_cu : (s.engineStop).cu = s.cu := by simp [State.engineStop]
@[simp] theorem State.engineStop_sl : (s.engineStop).sl = s.sl := by simp [State.engineStop]
@[simp] theorem State.engineStop_pins : (s.engineStop).pins = s.pins := by simp [State.engineStop]
@[simp] theorem State.engineStop_now : (s.engineStop).now = s.now := by simp [State.engineStop]
@[simp] theorem State.engineStop_choices : (s.engineStop).choices = s.choices := by simp [State.engineStop]
@[simp] theorem State.engineStop_pending : (s.engineStop).pending = s.pending := by simp [State.engineStop]

/-! ### capture -/

@[simp] theorem State.capture_vbi (k : CaptureKind) (p : Participation) (m : Bool) : (s.capture k p m).vbi = s.vbi := by rfl
@[simp] theorem State.capture_pc (k : CaptureKind) (p : Participation) (m : Bool) : (s.capture k p m).pc = s.pc := by rfl
@[simp] theorem State.capture_gtu (k : CaptureKind) (p : Participation) (m : Bool) : (s.capture k p m).gtu = s.gtu := by rfl
@[simp] theorem State.capture_cm (k : CaptureKind) (p : Participation) (m : Bool) : (s.capture k p m).cm = s.cm := by rfl
@[simp] theorem State.capture_cu (k : CaptureKind) (p : Participation) (m : Bool) : (s.capture k p m).cu = s.cu := by rfl
@[simp] theorem State.capture_ae (k : CaptureKind) (p : Participation) (m : Bool) : (s.capture k p m).ae = s.ae := by rfl
@[simp] theorem State.capture_sl (k : CaptureKind) (p : Participation) (m : Bool) : (s.capture k p m).sl = s.sl := by rfl
@[simp] theorem State.capture_pins (k : CaptureKind) (p : Participation) (m : Bool) : (s.capture k p m).pins = s.pins := by rfl
@[simp] theorem State.capture_now (k : CaptureKind) (p : Participation) (m : Bool) : (s.capture k p m).now = s.now := by rfl
@[simp] theorem State.capture_choices (k : CaptureKind) (p : Participation) (m : Bool) : (s.capture k p m).choices = s.choices := by rfl
@[simp] theorem State.capture_pending (k : CaptureKind) (p : Participation) (m : Bool) : (s.capture k p m).pending = s.pending := by rfl

/-! ### captureIfArmed -/

@[simp] theorem State.captureIfArmed_vbi (k : CaptureKind) (p : Participation) (m : Bool) : (s.captureIfArmed k p m).vbi = s.vbi := by unfold State.captureIfArmed; split <;> rfl
@[simp] theorem State.captureIfArmed_pc (k : CaptureKind) (p : Participation) (m : Bool) : (s.captureIfArmed k p m).pc = s.pc := by unfold State.captureIfArmed; split <;> rfl
@[simp] theorem State.captureIfArmed_gtu (k : CaptureKind) (p : Participation) (m : Bool) : (s.captureIfArmed k p m).gtu = s.gtu := by unfold State.captureIfArmed; split <;> rfl
@[simp] theorem State.captureIfArmed_cm (k : CaptureKind) (p : Participation) (m : Bool) : (s.captureIfArmed k p m).cm = s.cm := by unfold State.captureIfArmed; split <;> rfl
@[simp] theorem State.captureIfArmed_cu (k : CaptureKind) (p : Participation) (m : Bool) : (s.captureIfArmed k p m).cu = s.cu := by unfold State.captureIfArmed; split <;> rfl
@[simp] theorem State.captureIfArmed_ae (k : CaptureKind) (p : Participation) (m : Bool) : (s.captureIfArmed k p m).ae = s.ae := by unfold State.captureIfArmed; split <;> rfl
@[simp] theorem State.captureIfArmed_sl (k : CaptureKind) (p : Participation) (m : Bool) : (s.captureIfArmed k p m).sl = s.sl := by unfold State.captureIfArmed; split <;> rfl
@[simp] theorem State.captureIfArmed_pins (k : CaptureKind) (p : Participation) (m : Bool) : (s.captureIfArmed k p m).pins = s.pins := by unfold State.captureIfArmed; split <;> rfl
@[simp] theorem State.captureIfArmed_now (k : CaptureKind) (p : Participation) (m : Bool) : (s.captureIfArmed k p m).now = s.now := by unfold State.captureIfArmed; split <;> rfl
@[simp] theorem State.captureIfArmed_choices (k : CaptureKind) (p : Participation) (m : Bool) : (s.captureIfArmed k p m).choices = s.choices := by unfold State.captureIfArmed; split <;> rfl
@[simp] theorem State.captureIfArmed_pending (k : CaptureKind) (p : Participation) (m : Bool) : (s.captureIfArmed k p m).pending = s.pending := by unfold State.captureIfArmed; split <;> rfl

/-! ### settleCommands -/

@[simp] theorem State.settleCommands_vbi : (s.settleCommands).vbi = s.vbi := by rfl
@[simp] theorem State.settleCommands_pc : (s.settleCommands).pc = s.pc := by rfl
@[simp] theorem State.settleCommands_gtu : (s.settleCommands).gtu = s.gtu := by rfl
@[simp] theorem State.settleCommands_cm : (s.settleCommands).cm = s.cm := by rfl
@[simp] theorem State.settleCommands_ae : (s.settleCommands).ae = s.ae := by rfl
@[simp] theorem State.settleCommands_sl : (s.settleCommands).sl = s.sl := by rfl
@[simp] theorem State.settleCommands_mp : (s.settleCommands).mp = s.mp := by rfl
@[simp] theorem State.settleCommands_pins : (s.settleCommands).pins = s.pins := by rfl
@[simp] theorem State.settleCommands_now : (s.settleCommands).now = s.now := by rfl
@[simp] theorem State.settleCommands_choices : (s.settleCommands).choices = s.choices := by rfl
@[simp] theorem State.settleCommands_pending : (s.settleCommands).pending = s.pending := by rfl

/-! ### reportWin -/

@[simp] theorem State.reportWin_vbi (o : CmdOutcome) : (s.reportWin o).vbi = s.vbi := by
  unfold State.reportWin; split; · rfl
  · rfl
  · split <;> rfl
@[simp] theorem State.reportWin_pc (o : CmdOutcome) : (s.reportWin o).pc = s.pc := by
  unfold State.reportWin; split; · rfl
  · rfl
  · split <;> rfl
@[simp] theorem State.reportWin_gtu (o : CmdOutcome) : (s.reportWin o).gtu = s.gtu := by
  unfold State.reportWin; split; · rfl
  · rfl
  · split <;> rfl
@[simp] theorem State.reportWin_cm (o : CmdOutcome) : (s.reportWin o).cm = s.cm := by
  unfold State.reportWin; split; · rfl
  · rfl
  · split <;> rfl
@[simp] theorem State.reportWin_ae (o : CmdOutcome) : (s.reportWin o).ae = s.ae := by
  unfold State.reportWin; split; · rfl
  · rfl
  · split <;> rfl
@[simp] theorem State.reportWin_sl (o : CmdOutcome) : (s.reportWin o).sl = s.sl := by
  unfold State.reportWin; split; · rfl
  · rfl
  · split <;> rfl
@[simp] theorem State.reportWin_pins (o : CmdOutcome) : (s.reportWin o).pins = s.pins := by
  unfold State.reportWin; split; · rfl
  · rfl
  · split <;> rfl
@[simp] theorem State.reportWin_now (o : CmdOutcome) : (s.reportWin o).now = s.now := by
  unfold State.reportWin; split; · rfl
  · rfl
  · split <;> rfl
@[simp] theorem State.reportWin_choices (o : CmdOutcome) : (s.reportWin o).choices = s.choices := by
  unfold State.reportWin; split; · rfl
  · rfl
  · split <;> rfl
@[simp] theorem State.reportWin_pending (o : CmdOutcome) : (s.reportWin o).pending = s.pending := by
  unfold State.reportWin; split; · rfl
  · rfl
  · split <;> rfl

/-! ### expireHead -/

@[simp] theorem State.expireHead_vbi : (s.expireHead).vbi = s.vbi := by
  unfold State.expireHead; split; · rfl
  · split <;> rfl
@[simp] theorem State.expireHead_pc : (s.expireHead).pc = s.pc := by
  unfold State.expireHead; split; · rfl
  · split <;> rfl
@[simp] theorem State.expireHead_gtu : (s.expireHead).gtu = s.gtu := by
  unfold State.expireHead; split; · rfl
  · split <;> rfl
@[simp] theorem State.expireHead_cm : (s.expireHead).cm = s.cm := by
  unfold State.expireHead; split; · rfl
  · split <;> rfl
@[simp] theorem State.expireHead_ae : (s.expireHead).ae = s.ae := by
  unfold State.expireHead; split; · rfl
  · split <;> rfl
@[simp] theorem State.expireHead_sl : (s.expireHead).sl = s.sl := by
  unfold State.expireHead; split; · rfl
  · split <;> rfl
@[simp] theorem State.expireHead_pins : (s.expireHead).pins = s.pins := by
  unfold State.expireHead; split; · rfl
  · split <;> rfl
@[simp] theorem State.expireHead_now : (s.expireHead).now = s.now := by
  unfold State.expireHead; split; · rfl
  · split <;> rfl
@[simp] theorem State.expireHead_choices : (s.expireHead).choices = s.choices := by
  unfold State.expireHead; split; · rfl
  · split <;> rfl
@[simp] theorem State.expireHead_pending : (s.expireHead).pending = s.pending := by
  unfold State.expireHead; split; · rfl
  · split <;> rfl

/-! ### countHead -/

@[simp] theorem State.countHead_vbi (b : Option (Fin 16)) : (s.countHead b).vbi = s.vbi := by
  unfold State.countHead; split; · rfl
  · split <;> simp
@[simp] theorem State.countHead_pc (b : Option (Fin 16)) : (s.countHead b).pc = s.pc := by
  unfold State.countHead; split; · rfl
  · split <;> simp
@[simp] theorem State.countHead_gtu (b : Option (Fin 16)) : (s.countHead b).gtu = s.gtu := by
  unfold State.countHead; split; · rfl
  · split <;> simp
@[simp] theorem State.countHead_cm (b : Option (Fin 16)) : (s.countHead b).cm = s.cm := by
  unfold State.countHead; split; · rfl
  · split <;> simp
@[simp] theorem State.countHead_ae (b : Option (Fin 16)) : (s.countHead b).ae = s.ae := by
  unfold State.countHead; split; · rfl
  · split <;> simp
@[simp] theorem State.countHead_sl (b : Option (Fin 16)) : (s.countHead b).sl = s.sl := by
  unfold State.countHead; split; · rfl
  · split <;> simp
@[simp] theorem State.countHead_pins (b : Option (Fin 16)) : (s.countHead b).pins = s.pins := by
  unfold State.countHead; split; · rfl
  · split <;> simp
@[simp] theorem State.countHead_now (b : Option (Fin 16)) : (s.countHead b).now = s.now := by
  unfold State.countHead; split; · rfl
  · split <;> simp
@[simp] theorem State.countHead_choices (b : Option (Fin 16)) : (s.countHead b).choices = s.choices := by
  unfold State.countHead; split; · rfl
  · split <;> simp
@[simp] theorem State.countHead_pending (b : Option (Fin 16)) : (s.countHead b).pending = s.pending := by
  unfold State.countHead; split; · rfl
  · split <;> simp

/-! ### abandonCommands -/

@[simp] theorem State.abandonCommands_vbi : (s.abandonCommands).vbi = s.vbi := by simp [State.abandonCommands]
@[simp] theorem State.abandonCommands_pc : (s.abandonCommands).pc = s.pc := by simp [State.abandonCommands]
@[simp] theorem State.abandonCommands_gtu : (s.abandonCommands).gtu = s.gtu := by simp [State.abandonCommands]
@[simp] theorem State.abandonCommands_cm : (s.abandonCommands).cm = s.cm := by simp [State.abandonCommands]
@[simp] theorem State.abandonCommands_ae : (s.abandonCommands).ae = s.ae := by simp [State.abandonCommands]
@[simp] theorem State.abandonCommands_sl : (s.abandonCommands).sl = s.sl := by simp [State.abandonCommands]
@[simp] theorem State.abandonCommands_pins : (s.abandonCommands).pins = s.pins := by simp [State.abandonCommands]
@[simp] theorem State.abandonCommands_now : (s.abandonCommands).now = s.now := by simp [State.abandonCommands]
@[simp] theorem State.abandonCommands_choices : (s.abandonCommands).choices = s.choices := by simp [State.abandonCommands]
@[simp] theorem State.abandonCommands_pending : (s.abandonCommands).pending = s.pending := by simp [State.abandonCommands]

/-! ### enterWaitRestore -/

@[simp] theorem State.enterWaitRestore_vbi : (s.enterWaitRestore).vbi = s.vbi := by unfold State.enterWaitRestore; split <;> rfl
@[simp] theorem State.enterWaitRestore_pc : (s.enterWaitRestore).pc = s.pc := by unfold State.enterWaitRestore; split <;> rfl
@[simp] theorem State.enterWaitRestore_gtu : (s.enterWaitRestore).gtu = s.gtu := by unfold State.enterWaitRestore; split <;> rfl
@[simp] theorem State.enterWaitRestore_cm : (s.enterWaitRestore).cm = s.cm := by unfold State.enterWaitRestore; split <;> rfl
@[simp] theorem State.enterWaitRestore_ae : (s.enterWaitRestore).ae = s.ae := by unfold State.enterWaitRestore; split <;> rfl
@[simp] theorem State.enterWaitRestore_sl : (s.enterWaitRestore).sl = s.sl := by unfold State.enterWaitRestore; split <;> rfl
@[simp] theorem State.enterWaitRestore_mp : (s.enterWaitRestore).mp = s.mp := by unfold State.enterWaitRestore; split <;> rfl
@[simp] theorem State.enterWaitRestore_pins : (s.enterWaitRestore).pins = s.pins := by unfold State.enterWaitRestore; split <;> rfl
@[simp] theorem State.enterWaitRestore_now : (s.enterWaitRestore).now = s.now := by unfold State.enterWaitRestore; split <;> rfl
@[simp] theorem State.enterWaitRestore_choices : (s.enterWaitRestore).choices = s.choices := by unfold State.enterWaitRestore; split <;> rfl
@[simp] theorem State.enterWaitRestore_pending : (s.enterWaitRestore).pending = s.pending := by unfold State.enterWaitRestore; split <;> rfl

/-! ### notifyWaitRestore -/

@[simp] theorem State.notifyWaitRestore_vbi (c : Cls) : (s.notifyWaitRestore c).vbi = s.vbi := by unfold State.notifyWaitRestore; split <;> split <;> simp
@[simp] theorem State.notifyWaitRestore_pc (c : Cls) : (s.notifyWaitRestore c).pc = s.pc := by unfold State.notifyWaitRestore; split <;> split <;> simp
@[simp] theorem State.notifyWaitRestore_gtu (c : Cls) : (s.notifyWaitRestore c).gtu = s.gtu := by unfold State.notifyWaitRestore; split <;> split <;> simp
@[simp] theorem State.notifyWaitRestore_cm (c : Cls) : (s.notifyWaitRestore c).cm = s.cm := by unfold State.notifyWaitRestore; split <;> split <;> simp
@[simp] theorem State.notifyWaitRestore_ae (c : Cls) : (s.notifyWaitRestore c).ae = s.ae := by unfold State.notifyWaitRestore; split <;> split <;> simp
@[simp] theorem State.notifyWaitRestore_sl (c : Cls) : (s.notifyWaitRestore c).sl = s.sl := by unfold State.notifyWaitRestore; split <;> split <;> simp
@[simp] theorem State.notifyWaitRestore_mp (c : Cls) : (s.notifyWaitRestore c).mp = s.mp := by unfold State.notifyWaitRestore; split <;> split <;> simp
@[simp] theorem State.notifyWaitRestore_pins (c : Cls) : (s.notifyWaitRestore c).pins = s.pins := by unfold State.notifyWaitRestore; split <;> split <;> simp
@[simp] theorem State.notifyWaitRestore_now (c : Cls) : (s.notifyWaitRestore c).now = s.now := by unfold State.notifyWaitRestore; split <;> split <;> simp
@[simp] theorem State.notifyWaitRestore_choices (c : Cls) : (s.notifyWaitRestore c).choices = s.choices := by unfold State.notifyWaitRestore; split <;> split <;> simp
@[simp] theorem State.notifyWaitRestore_pending (c : Cls) : (s.notifyWaitRestore c).pending = s.pending := by unfold State.notifyWaitRestore; split <;> split <;> simp

/-! ### clearTable -/

@[simp] theorem State.clearTable_vbi : (s.clearTable).vbi = s.vbi := by simp [State.clearTable]
@[simp] theorem State.clearTable_pc : (s.clearTable).pc = s.pc := by simp [State.clearTable]
@[simp] theorem State.clearTable_cm : (s.clearTable).cm = s.cm := by simp [State.clearTable]
@[simp] theorem State.clearTable_ae : (s.clearTable).ae = s.ae := by simp [State.clearTable]
@[simp] theorem State.clearTable_sl : (s.clearTable).sl = s.sl := by simp [State.clearTable]
@[simp] theorem State.clearTable_mp : (s.clearTable).mp = s.mp := by simp [State.clearTable]
@[simp] theorem State.clearTable_pins : (s.clearTable).pins = s.pins := by simp [State.clearTable]
@[simp] theorem State.clearTable_now : (s.clearTable).now = s.now := by simp [State.clearTable]
@[simp] theorem State.clearTable_choices : (s.clearTable).choices = s.choices := by simp [State.clearTable]
@[simp] theorem State.clearTable_pending : (s.clearTable).pending = s.pending := by simp [State.clearTable]

/-! ### leave -/

@[simp] theorem State.leave_vbi (p : Participation) : (s.leave p).vbi = s.vbi := by simp [State.leave]
@[simp] theorem State.leave_pc (p : Participation) : (s.leave p).pc = s.pc := by simp [State.leave]
@[simp] theorem State.leave_cm (p : Participation) : (s.leave p).cm = s.cm := by simp [State.leave]
@[simp] theorem State.leave_ae (p : Participation) : (s.leave p).ae = s.ae := by simp [State.leave]
@[simp] theorem State.leave_sl (p : Participation) : (s.leave p).sl = s.sl := by simp [State.leave]
@[simp] theorem State.leave_pins (p : Participation) : (s.leave p).pins = s.pins := by simp [State.leave]
@[simp] theorem State.leave_now (p : Participation) : (s.leave p).now = s.now := by simp [State.leave]
@[simp] theorem State.leave_choices (p : Participation) : (s.leave p).choices = s.choices := by simp [State.leave]
@[simp] theorem State.leave_pending (p : Participation) : (s.leave p).pending = s.pending := by simp [State.leave]

/-! ### leaveGroup -/

@[simp] theorem State.leaveGroup_vbi (p : Participation) : (s.leaveGroup p).vbi = s.vbi := by unfold State.leaveGroup; split <;> simp
@[simp] theorem State.leaveGroup_pc (p : Participation) : (s.leaveGroup p).pc = s.pc := by unfold State.leaveGroup; split <;> simp
@[simp] theorem State.leaveGroup_cm (p : Participation) : (s.leaveGroup p).cm = s.cm := by unfold State.leaveGroup; split <;> simp
@[simp] theorem State.leaveGroup_ae (p : Participation) : (s.leaveGroup p).ae = s.ae := by unfold State.leaveGroup; split <;> simp
@[simp] theorem State.leaveGroup_sl (p : Participation) : (s.leaveGroup p).sl = s.sl := by unfold State.leaveGroup; split <;> simp
@[simp] theorem State.leaveGroup_pins (p : Participation) : (s.leaveGroup p).pins = s.pins := by unfold State.leaveGroup; split <;> simp
@[simp] theorem State.leaveGroup_now (p : Participation) : (s.leaveGroup p).now = s.now := by unfold State.leaveGroup; split <;> simp
@[simp] theorem State.leaveGroup_choices (p : Participation) : (s.leaveGroup p).choices = s.choices := by unfold State.leaveGroup; split <;> simp
@[simp] theorem State.leaveGroup_pending (p : Participation) : (s.leaveGroup p).pending = s.pending := by unfold State.leaveGroup; split <;> simp

/-! ### setApart -/

@[simp] theorem State.setApart_sl (p : Participation) (c : Cause) : (s.setApart p c).sl = s.sl := by simp [State.setApart]
@[simp] theorem State.setApart_pins (p : Participation) (c : Cause) : (s.setApart p c).pins = s.pins := by simp [State.setApart]
@[simp] theorem State.setApart_now (p : Participation) (c : Cause) : (s.setApart p c).now = s.now := by simp [State.setApart]
@[simp] theorem State.setApart_choices (p : Participation) (c : Cause) : (s.setApart p c).choices = s.choices := by simp [State.setApart]
@[simp] theorem State.setApart_pending (p : Participation) (c : Cause) : (s.setApart p c).pending = s.pending := by simp [State.setApart]

/-! ### enterListening -/

@[simp] theorem State.enterListening_gtu : (s.enterListening).gtu = s.gtu := by rfl
@[simp] theorem State.enterListening_cm : (s.enterListening).cm = s.cm := by rfl
@[simp] theorem State.enterListening_cu : (s.enterListening).cu = s.cu := by rfl
@[simp] theorem State.enterListening_ae : (s.enterListening).ae = s.ae := by rfl
@[simp] theorem State.enterListening_sl : (s.enterListening).sl = s.sl := by rfl
@[simp] theorem State.enterListening_mp : (s.enterListening).mp = s.mp := by rfl
@[simp] theorem State.enterListening_pins : (s.enterListening).pins = s.pins := by rfl
@[simp] theorem State.enterListening_now : (s.enterListening).now = s.now := by rfl
@[simp] theorem State.enterListening_choices : (s.enterListening).choices = s.choices := by rfl
@[simp] theorem State.enterListening_pending : (s.enterListening).pending = s.pending := by rfl

/-! ### syncLoss -/

@[simp] theorem State.syncLoss_sl : (s.syncLoss).sl = s.sl := by simp [State.syncLoss]
@[simp] theorem State.syncLoss_pins : (s.syncLoss).pins = s.pins := by simp [State.syncLoss]
@[simp] theorem State.syncLoss_now : (s.syncLoss).now = s.now := by simp [State.syncLoss]
@[simp] theorem State.syncLoss_choices : (s.syncLoss).choices = s.choices := by simp [State.syncLoss]
@[simp] theorem State.syncLoss_pending : (s.syncLoss).pending = s.pending := by simp [State.syncLoss]

/-! ### fall -/

@[simp] theorem State.fall_vbi (c : Cause) : (s.fall c).vbi = s.vbi := by simp [State.fall]
@[simp] theorem State.fall_gtu (c : Cause) : (s.fall c).gtu = s.gtu := by simp [State.fall]
@[simp] theorem State.fall_cm (c : Cause) : (s.fall c).cm = s.cm := by simp [State.fall]
@[simp] theorem State.fall_ae (c : Cause) : (s.fall c).ae = s.ae := by simp [State.fall]
@[simp] theorem State.fall_sl (c : Cause) : (s.fall c).sl = s.sl := by simp [State.fall]
@[simp] theorem State.fall_pins (c : Cause) : (s.fall c).pins = s.pins := by simp [State.fall]
@[simp] theorem State.fall_now (c : Cause) : (s.fall c).now = s.now := by simp [State.fall]
@[simp] theorem State.fall_choices (c : Cause) : (s.fall c).choices = s.choices := by simp [State.fall]
@[simp] theorem State.fall_pending (c : Cause) : (s.fall c).pending = s.pending := by simp [State.fall]

/-! ### joinStep -/

@[simp] theorem State.joinStep_vbi : (s.joinStep).vbi = s.vbi := by simp [State.joinStep]
@[simp] theorem State.joinStep_gtu : (s.joinStep).gtu = s.gtu := by simp [State.joinStep]
@[simp] theorem State.joinStep_cm : (s.joinStep).cm = s.cm := by simp [State.joinStep]
@[simp] theorem State.joinStep_ae : (s.joinStep).ae = s.ae := by simp [State.joinStep]
@[simp] theorem State.joinStep_sl : (s.joinStep).sl = s.sl := by simp [State.joinStep]
@[simp] theorem State.joinStep_pins : (s.joinStep).pins = s.pins := by simp [State.joinStep]
@[simp] theorem State.joinStep_now : (s.joinStep).now = s.now := by simp [State.joinStep]
@[simp] theorem State.joinStep_choices : (s.joinStep).choices = s.choices := by simp [State.joinStep]
@[simp] theorem State.joinStep_pending : (s.joinStep).pending = s.pending := by simp [State.joinStep]

/-! ### directiveStage -/

/-- A directive stage that waits for START changes nothing. -/
theorem State.directiveStage_of_waits (h : s.waitsForStart = true) : s.directiveStage = s := if_pos h

/-- A directive stage that does not wait sets the requested state and makes the offers. -/
theorem State.directiveStage_of_not_waits (h : s.waitsForStart = false) :
    s.directiveStage = (s.setRequested (requestedAfter s.gtu.requested s.desired)).offerAll (directivesFor s.gtu.requested s.desired) :=
  if_neg (by simp [h])

/-- An engine that does not owe START makes nothing wait. -/
theorem State.waitsForStart_of_not_owes (h : s.ae.owesStart = false) : s.waitsForStart = false := by simp [State.waitsForStart, h]

/-- AE owes START exactly while it runs or is queued. -/
theorem Ae.owesStart_iff (a : Ae) : a.owesStart = true ↔ a.running = some .start ∨ .start ∈ a.queue := by simp [Ae.owesStart]

@[simp] theorem State.directiveStage_vbi : (s.directiveStage).vbi = s.vbi := by unfold State.directiveStage; split <;> simp
@[simp] theorem State.directiveStage_pc : (s.directiveStage).pc = s.pc := by unfold State.directiveStage; split <;> simp
@[simp] theorem State.directiveStage_cu : (s.directiveStage).cu = s.cu := by unfold State.directiveStage; split <;> simp
@[simp] theorem State.directiveStage_sl : (s.directiveStage).sl = s.sl := by unfold State.directiveStage; split <;> simp
@[simp] theorem State.directiveStage_pins : (s.directiveStage).pins = s.pins := by unfold State.directiveStage; split <;> simp
@[simp] theorem State.directiveStage_now : (s.directiveStage).now = s.now := by unfold State.directiveStage; split <;> simp
@[simp] theorem State.directiveStage_choices : (s.directiveStage).choices = s.choices := by unfold State.directiveStage; split <;> simp
@[simp] theorem State.directiveStage_pending : (s.directiveStage).pending = s.pending := by unfold State.directiveStage; split <;> simp

/-! ### realign -/

@[simp] theorem State.realign_vbi : (s.realign).vbi = s.vbi := by unfold State.realign; split <;> simp
@[simp] theorem State.realign_pc : (s.realign).pc = s.pc := by unfold State.realign; split <;> simp
@[simp] theorem State.realign_cu : (s.realign).cu = s.cu := by unfold State.realign; split <;> simp
@[simp] theorem State.realign_sl : (s.realign).sl = s.sl := by unfold State.realign; split <;> simp
@[simp] theorem State.realign_pins : (s.realign).pins = s.pins := by unfold State.realign; split <;> simp
@[simp] theorem State.realign_now : (s.realign).now = s.now := by unfold State.realign; split <;> simp
@[simp] theorem State.realign_choices : (s.realign).choices = s.choices := by unfold State.realign; split <;> simp
@[simp] theorem State.realign_pending : (s.realign).pending = s.pending := by unfold State.realign; split <;> simp

/-! ### reconcile -/

@[simp] theorem State.reconcile_vbi : (s.reconcile).vbi = s.vbi := by unfold State.reconcile; split <;> first | simp | (split <;> simp)
@[simp] theorem State.reconcile_pc : (s.reconcile).pc = s.pc := by unfold State.reconcile; split <;> first | simp | (split <;> simp)
@[simp] theorem State.reconcile_cu : (s.reconcile).cu = s.cu := by unfold State.reconcile; split <;> first | simp | (split <;> simp)
@[simp] theorem State.reconcile_sl : (s.reconcile).sl = s.sl := by unfold State.reconcile; split <;> first | simp | (split <;> simp)
@[simp] theorem State.reconcile_pins : (s.reconcile).pins = s.pins := by unfold State.reconcile; split <;> first | simp | (split <;> simp)
@[simp] theorem State.reconcile_now : (s.reconcile).now = s.now := by unfold State.reconcile; split <;> first | simp | (split <;> simp)
@[simp] theorem State.reconcile_choices : (s.reconcile).choices = s.choices := by unfold State.reconcile; split <;> first | simp | (split <;> simp)
@[simp] theorem State.reconcile_pending : (s.reconcile).pending = s.pending := by unfold State.reconcile; split <;> first | simp | (split <;> simp)

/-! ### notifyOwn -/

@[simp] theorem State.notifyOwn_vbi (e : Entry) : (s.notifyOwn e).vbi = s.vbi := by simp [State.notifyOwn]
@[simp] theorem State.notifyOwn_pc (e : Entry) : (s.notifyOwn e).pc = s.pc := by simp [State.notifyOwn]
@[simp] theorem State.notifyOwn_gtu (e : Entry) : (s.notifyOwn e).gtu = s.gtu := by simp [State.notifyOwn]
@[simp] theorem State.notifyOwn_cm (e : Entry) : (s.notifyOwn e).cm = s.cm := by simp [State.notifyOwn]
@[simp] theorem State.notifyOwn_ae (e : Entry) : (s.notifyOwn e).ae = s.ae := by simp [State.notifyOwn]
@[simp] theorem State.notifyOwn_sl (e : Entry) : (s.notifyOwn e).sl = s.sl := by simp [State.notifyOwn]
@[simp] theorem State.notifyOwn_pins (e : Entry) : (s.notifyOwn e).pins = s.pins := by simp [State.notifyOwn]
@[simp] theorem State.notifyOwn_now (e : Entry) : (s.notifyOwn e).now = s.now := by simp [State.notifyOwn]
@[simp] theorem State.notifyOwn_choices (e : Entry) : (s.notifyOwn e).choices = s.choices := by simp [State.notifyOwn]
@[simp] theorem State.notifyOwn_pending (e : Entry) : (s.notifyOwn e).pending = s.pending := by simp [State.notifyOwn]

/-! ### notificationStage -/

@[simp] theorem State.notificationStage_vbi (r : EpochRecord) (o : CmdOutcome) (e : Entry) : (s.notificationStage r o e).vbi = s.vbi := by unfold State.notificationStage; split <;> simp
@[simp] theorem State.notificationStage_pc (r : EpochRecord) (o : CmdOutcome) (e : Entry) : (s.notificationStage r o e).pc = s.pc := by unfold State.notificationStage; split <;> simp
@[simp] theorem State.notificationStage_gtu (r : EpochRecord) (o : CmdOutcome) (e : Entry) : (s.notificationStage r o e).gtu = s.gtu := by unfold State.notificationStage; split <;> simp
@[simp] theorem State.notificationStage_cm (r : EpochRecord) (o : CmdOutcome) (e : Entry) : (s.notificationStage r o e).cm = s.cm := by unfold State.notificationStage; split <;> simp
@[simp] theorem State.notificationStage_ae (r : EpochRecord) (o : CmdOutcome) (e : Entry) : (s.notificationStage r o e).ae = s.ae := by unfold State.notificationStage; split <;> simp
@[simp] theorem State.notificationStage_sl (r : EpochRecord) (o : CmdOutcome) (e : Entry) : (s.notificationStage r o e).sl = s.sl := by unfold State.notificationStage; split <;> simp
@[simp] theorem State.notificationStage_pins (r : EpochRecord) (o : CmdOutcome) (e : Entry) : (s.notificationStage r o e).pins = s.pins := by unfold State.notificationStage; split <;> simp
@[simp] theorem State.notificationStage_now (r : EpochRecord) (o : CmdOutcome) (e : Entry) : (s.notificationStage r o e).now = s.now := by unfold State.notificationStage; split <;> simp
@[simp] theorem State.notificationStage_choices (r : EpochRecord) (o : CmdOutcome) (e : Entry) : (s.notificationStage r o e).choices = s.choices := by unfold State.notificationStage; split <;> simp
@[simp] theorem State.notificationStage_pending (r : EpochRecord) (o : CmdOutcome) (e : Entry) : (s.notificationStage r o e).pending = s.pending := by unfold State.notificationStage; split <;> simp

/-! ### applyRecord -/

@[simp] theorem State.applyRecord_vbi (f : Bool) (r : EpochRecord) : (s.applyRecord f r).vbi = s.vbi := by unfold State.applyRecord; dsimp only; split <;> simp
@[simp] theorem State.applyRecord_pc (f : Bool) (r : EpochRecord) : (s.applyRecord f r).pc = s.pc := by unfold State.applyRecord; dsimp only; split <;> simp
@[simp] theorem State.applyRecord_sl (f : Bool) (r : EpochRecord) : (s.applyRecord f r).sl = s.sl := by unfold State.applyRecord; dsimp only; split <;> simp
@[simp] theorem State.applyRecord_pins (f : Bool) (r : EpochRecord) : (s.applyRecord f r).pins = s.pins := by unfold State.applyRecord; dsimp only; split <;> simp
@[simp] theorem State.applyRecord_now (f : Bool) (r : EpochRecord) : (s.applyRecord f r).now = s.now := by unfold State.applyRecord; dsimp only; split <;> simp
@[simp] theorem State.applyRecord_choices (f : Bool) (r : EpochRecord) : (s.applyRecord f r).choices = s.choices := by unfold State.applyRecord; dsimp only; split <;> simp
@[simp] theorem State.applyRecord_pending (f : Bool) (r : EpochRecord) : (s.applyRecord f r).pending = s.pending := by unfold State.applyRecord; dsimp only; split <;> simp

/-! ### found -/

@[simp] theorem State.found_vbi (r : EpochRecord) : (s.found r).vbi = s.vbi := by simp [State.found]
@[simp] theorem State.found_sl (r : EpochRecord) : (s.found r).sl = s.sl := by simp [State.found]
@[simp] theorem State.found_pins (r : EpochRecord) : (s.found r).pins = s.pins := by simp [State.found]
@[simp] theorem State.found_now (r : EpochRecord) : (s.found r).now = s.now := by simp [State.found]
@[simp] theorem State.found_choices (r : EpochRecord) : (s.found r).choices = s.choices := by simp [State.found]
@[simp] theorem State.found_pending (r : EpochRecord) : (s.found r).pending = s.pending := by simp [State.found]

/-! ### judgeListening -/

@[simp] theorem State.judgeListening_sl (r : EpochRecord) : (s.judgeListening r).sl = s.sl := by
  unfold State.judgeListening; split; · rfl
  · dsimp only; split; · rfl
    split <;> simp
@[simp] theorem State.judgeListening_pins (r : EpochRecord) : (s.judgeListening r).pins = s.pins := by
  unfold State.judgeListening; split; · rfl
  · dsimp only; split; · rfl
    split <;> simp
@[simp] theorem State.judgeListening_now (r : EpochRecord) : (s.judgeListening r).now = s.now := by
  unfold State.judgeListening; split; · rfl
  · dsimp only; split; · rfl
    split <;> simp
@[simp] theorem State.judgeListening_choices (r : EpochRecord) : (s.judgeListening r).choices = s.choices := by
  unfold State.judgeListening; split; · rfl
  · dsimp only; split; · rfl
    split <;> simp
@[simp] theorem State.judgeListening_pending (r : EpochRecord) : (s.judgeListening r).pending = s.pending := by
  unfold State.judgeListening; split; · rfl
  · dsimp only; split; · rfl
    split <;> simp

/-! ### judgeLearning -/

@[simp] theorem State.judgeLearning_sl (r : EpochRecord) : (s.judgeLearning r).sl = s.sl := by
  unfold State.judgeLearning; split; · rfl
  · split; · simp
    dsimp only; split; · simp
    split <;> simp
@[simp] theorem State.judgeLearning_pins (r : EpochRecord) : (s.judgeLearning r).pins = s.pins := by
  unfold State.judgeLearning; split; · rfl
  · split; · simp
    dsimp only; split; · simp
    split <;> simp
@[simp] theorem State.judgeLearning_now (r : EpochRecord) : (s.judgeLearning r).now = s.now := by
  unfold State.judgeLearning; split; · rfl
  · split; · simp
    dsimp only; split; · simp
    split <;> simp
@[simp] theorem State.judgeLearning_choices (r : EpochRecord) : (s.judgeLearning r).choices = s.choices := by
  unfold State.judgeLearning; split; · rfl
  · split; · simp
    dsimp only; split; · simp
    split <;> simp
@[simp] theorem State.judgeLearning_pending (r : EpochRecord) : (s.judgeLearning r).pending = s.pending := by
  unfold State.judgeLearning; split; · rfl
  · split; · simp
    dsimp only; split; · simp
    split <;> simp

/-! ### judgeInStep -/

@[simp] theorem State.judgeInStep_sl (r : EpochRecord) : (s.judgeInStep r).sl = s.sl := by
  unfold State.judgeInStep; split; · simp
  · split; · simp
    split <;> simp
@[simp] theorem State.judgeInStep_pins (r : EpochRecord) : (s.judgeInStep r).pins = s.pins := by
  unfold State.judgeInStep; split; · simp
  · split; · simp
    split <;> simp
@[simp] theorem State.judgeInStep_now (r : EpochRecord) : (s.judgeInStep r).now = s.now := by
  unfold State.judgeInStep; split; · simp
  · split; · simp
    split <;> simp
@[simp] theorem State.judgeInStep_choices (r : EpochRecord) : (s.judgeInStep r).choices = s.choices := by
  unfold State.judgeInStep; split; · simp
  · split; · simp
    split <;> simp
@[simp] theorem State.judgeInStep_pending (r : EpochRecord) : (s.judgeInStep r).pending = s.pending := by
  unfold State.judgeInStep; split; · simp
  · split; · simp
    split <;> simp

/-! ### judge -/

@[simp] theorem State.judge_sl (r : EpochRecord) : (s.judge r).sl = s.sl := by
  unfold State.judge; split; · simp
  · split; · simp
    dsimp only; split; · simp
    split <;> simp
@[simp] theorem State.judge_pins (r : EpochRecord) : (s.judge r).pins = s.pins := by
  unfold State.judge; split; · simp
  · split; · simp
    dsimp only; split; · simp
    split <;> simp
@[simp] theorem State.judge_now (r : EpochRecord) : (s.judge r).now = s.now := by
  unfold State.judge; split; · simp
  · split; · simp
    dsimp only; split; · simp
    split <;> simp
@[simp] theorem State.judge_choices (r : EpochRecord) : (s.judge r).choices = s.choices := by
  unfold State.judge; split; · simp
  · split; · simp
    dsimp only; split; · simp
    split <;> simp
@[simp] theorem State.judge_pending (r : EpochRecord) : (s.judge r).pending = s.pending := by
  unfold State.judge; split; · simp
  · split; · simp
    dsimp only; split; · simp
    split <;> simp

/-! ### deliver -/

@[simp] theorem State.deliver_sl (r : EpochRecord) : (s.deliver r).sl = s.sl := by
  unfold State.deliver; split
  · dsimp only; split
    · split <;> simp
    · rfl
  · rfl
@[simp] theorem State.deliver_pins (r : EpochRecord) : (s.deliver r).pins = s.pins := by
  unfold State.deliver; split
  · dsimp only; split
    · split <;> simp
    · rfl
  · rfl
@[simp] theorem State.deliver_now (r : EpochRecord) : (s.deliver r).now = s.now := by
  unfold State.deliver; split
  · dsimp only; split
    · split <;> simp
    · rfl
  · rfl
@[simp] theorem State.deliver_choices (r : EpochRecord) : (s.deliver r).choices = s.choices := by
  unfold State.deliver; split
  · dsimp only; split
    · split <;> simp
    · rfl
  · rfl
@[simp] theorem State.deliver_pending (r : EpochRecord) : (s.deliver r).pending = s.pending := by
  unfold State.deliver; split
  · dsimp only; split
    · split <;> simp
    · rfl
  · rfl

/-! ### epochBegins -/

@[simp] theorem State.epochBegins_pc : (s.epochBegins).pc = s.pc := by simp [State.epochBegins]
@[simp] theorem State.epochBegins_gtu : (s.epochBegins).gtu = s.gtu := by simp [State.epochBegins]
@[simp] theorem State.epochBegins_cm : (s.epochBegins).cm = s.cm := by simp [State.epochBegins]
@[simp] theorem State.epochBegins_cu : (s.epochBegins).cu = s.cu := by simp [State.epochBegins]
@[simp] theorem State.epochBegins_ae : (s.epochBegins).ae = s.ae := by simp [State.epochBegins]
@[simp] theorem State.epochBegins_sl : (s.epochBegins).sl = s.sl := by simp [State.epochBegins]
@[simp] theorem State.epochBegins_mp : (s.epochBegins).mp = s.mp := by simp [State.epochBegins]
@[simp] theorem State.epochBegins_pins : (s.epochBegins).pins = s.pins := by simp [State.epochBegins]
@[simp] theorem State.epochBegins_now : (s.epochBegins).now = s.now := by simp [State.epochBegins]
@[simp] theorem State.epochBegins_choices : (s.epochBegins).choices = s.choices := by simp [State.epochBegins]
@[simp] theorem State.epochBegins_pending : (s.epochBegins).pending = s.pending := by simp [State.epochBegins]

/-! ### earlyMarker -/

@[simp] theorem State.earlyMarker_sl (b : Bool) (r : EpochRecord) : (s.earlyMarker b r).sl = s.sl := by unfold State.earlyMarker; split <;> simp
@[simp] theorem State.earlyMarker_pins (b : Bool) (r : EpochRecord) : (s.earlyMarker b r).pins = s.pins := by unfold State.earlyMarker; split <;> simp
@[simp] theorem State.earlyMarker_now (b : Bool) (r : EpochRecord) : (s.earlyMarker b r).now = s.now := by unfold State.earlyMarker; split <;> simp
@[simp] theorem State.earlyMarker_choices (b : Bool) (r : EpochRecord) : (s.earlyMarker b r).choices = s.choices := by unfold State.earlyMarker; split <;> simp
@[simp] theorem State.earlyMarker_pending (b : Bool) (r : EpochRecord) : (s.earlyMarker b r).pending = s.pending := by unfold State.earlyMarker; split <;> simp

/-! ### freeze -/

@[simp] theorem State.freeze_cu (c : LoadSource) (f : Frozen) : (s.freeze c f).cu = s.cu := by simp [State.freeze]
@[simp] theorem State.freeze_pins (c : LoadSource) (f : Frozen) : (s.freeze c f).pins = s.pins := by simp [State.freeze]
@[simp] theorem State.freeze_now (c : LoadSource) (f : Frozen) : (s.freeze c f).now = s.now := by simp [State.freeze]
@[simp] theorem State.freeze_choices (c : LoadSource) (f : Frozen) : (s.freeze c f).choices = s.choices := by simp [State.freeze]
@[simp] theorem State.freeze_pending (c : LoadSource) (f : Frozen) : (s.freeze c f).pending = s.pending := by simp [State.freeze]

/-! ### loadFails -/

@[simp] theorem State.loadFails_vbi (c : LoadCause) : (s.loadFails c).vbi = s.vbi := by simp [State.loadFails]
@[simp] theorem State.loadFails_gtu (c : LoadCause) : (s.loadFails c).gtu = s.gtu := by simp [State.loadFails]
@[simp] theorem State.loadFails_cm (c : LoadCause) : (s.loadFails c).cm = s.cm := by simp [State.loadFails]
@[simp] theorem State.loadFails_cu (c : LoadCause) : (s.loadFails c).cu = s.cu := by simp [State.loadFails]
@[simp] theorem State.loadFails_ae (c : LoadCause) : (s.loadFails c).ae = s.ae := by simp [State.loadFails]
@[simp] theorem State.loadFails_pins (c : LoadCause) : (s.loadFails c).pins = s.pins := by simp [State.loadFails]
@[simp] theorem State.loadFails_now (c : LoadCause) : (s.loadFails c).now = s.now := by simp [State.loadFails]
@[simp] theorem State.loadFails_choices (c : LoadCause) : (s.loadFails c).choices = s.choices := by simp [State.loadFails]
@[simp] theorem State.loadFails_pending (c : LoadCause) : (s.loadFails c).pending = s.pending := by simp [State.loadFails]

/-! ### attemptFails -/

@[simp] theorem State.attemptFails_vbi (n : Nat) : (s.attemptFails n).vbi = s.vbi := by unfold State.attemptFails; split <;> simp
@[simp] theorem State.attemptFails_gtu (n : Nat) : (s.attemptFails n).gtu = s.gtu := by unfold State.attemptFails; split <;> simp
@[simp] theorem State.attemptFails_cm (n : Nat) : (s.attemptFails n).cm = s.cm := by unfold State.attemptFails; split <;> simp
@[simp] theorem State.attemptFails_cu (n : Nat) : (s.attemptFails n).cu = s.cu := by unfold State.attemptFails; split <;> simp
@[simp] theorem State.attemptFails_ae (n : Nat) : (s.attemptFails n).ae = s.ae := by unfold State.attemptFails; split <;> simp
@[simp] theorem State.attemptFails_pins (n : Nat) : (s.attemptFails n).pins = s.pins := by unfold State.attemptFails; split <;> simp
@[simp] theorem State.attemptFails_now (n : Nat) : (s.attemptFails n).now = s.now := by unfold State.attemptFails; split <;> simp
@[simp] theorem State.attemptFails_choices (n : Nat) : (s.attemptFails n).choices = s.choices := by unfold State.attemptFails; split <;> simp
@[simp] theorem State.attemptFails_pending (n : Nat) : (s.attemptFails n).pending = s.pending := by unfold State.attemptFails; split <;> simp

/-! ### portSoftReset -/

@[simp] theorem State.portSoftReset_vbi : (s.portSoftReset).vbi = s.vbi := by simp [State.portSoftReset]
@[simp] theorem State.portSoftReset_pc : (s.portSoftReset).pc = s.pc := by simp [State.portSoftReset]
@[simp] theorem State.portSoftReset_gtu : (s.portSoftReset).gtu = s.gtu := by simp [State.portSoftReset]
@[simp] theorem State.portSoftReset_cm : (s.portSoftReset).cm = s.cm := by simp [State.portSoftReset]
@[simp] theorem State.portSoftReset_cu : (s.portSoftReset).cu = s.cu := by simp [State.portSoftReset]
@[simp] theorem State.portSoftReset_ae : (s.portSoftReset).ae = s.ae := by simp [State.portSoftReset]
@[simp] theorem State.portSoftReset_sl : (s.portSoftReset).sl = s.sl := by simp [State.portSoftReset]
@[simp] theorem State.portSoftReset_pins : (s.portSoftReset).pins = s.pins := by simp [State.portSoftReset]
@[simp] theorem State.portSoftReset_now : (s.portSoftReset).now = s.now := by simp [State.portSoftReset]
@[simp] theorem State.portSoftReset_choices : (s.portSoftReset).choices = s.choices := by simp [State.portSoftReset]
@[simp] theorem State.portSoftReset_pending : (s.portSoftReset).pending = s.pending := by simp [State.portSoftReset]

/-! ### participationSoftReset -/

@[simp] theorem State.participationSoftReset_cm : (s.participationSoftReset).cm = s.cm := by unfold State.participationSoftReset; split <;> simp
@[simp] theorem State.participationSoftReset_ae : (s.participationSoftReset).ae = s.ae := by unfold State.participationSoftReset; split <;> simp
@[simp] theorem State.participationSoftReset_sl : (s.participationSoftReset).sl = s.sl := by unfold State.participationSoftReset; split <;> simp
@[simp] theorem State.participationSoftReset_mp : (s.participationSoftReset).mp = s.mp := by unfold State.participationSoftReset; split <;> simp
@[simp] theorem State.participationSoftReset_pins : (s.participationSoftReset).pins = s.pins := by unfold State.participationSoftReset; split <;> simp
@[simp] theorem State.participationSoftReset_now : (s.participationSoftReset).now = s.now := by unfold State.participationSoftReset; split <;> simp
@[simp] theorem State.participationSoftReset_choices : (s.participationSoftReset).choices = s.choices := by unfold State.participationSoftReset; split <;> simp
@[simp] theorem State.participationSoftReset_pending : (s.participationSoftReset).pending = s.pending := by unfold State.participationSoftReset; split <;> simp

/-! ### softWithdraw -/

@[simp] theorem State.softWithdraw_vbi : (s.softWithdraw).vbi = s.vbi := by unfold State.softWithdraw; split <;> simp
@[simp] theorem State.softWithdraw_pc : (s.softWithdraw).pc = s.pc := by unfold State.softWithdraw; split <;> simp
@[simp] theorem State.softWithdraw_gtu : (s.softWithdraw).gtu = s.gtu := by unfold State.softWithdraw; split <;> simp
@[simp] theorem State.softWithdraw_cu : (s.softWithdraw).cu = s.cu := by unfold State.softWithdraw; split <;> simp
@[simp] theorem State.softWithdraw_sl : (s.softWithdraw).sl = s.sl := by unfold State.softWithdraw; split <;> simp
@[simp] theorem State.softWithdraw_pins : (s.softWithdraw).pins = s.pins := by unfold State.softWithdraw; split <;> simp
@[simp] theorem State.softWithdraw_now : (s.softWithdraw).now = s.now := by unfold State.softWithdraw; split <;> simp
@[simp] theorem State.softWithdraw_choices : (s.softWithdraw).choices = s.choices := by unfold State.softWithdraw; split <;> simp
@[simp] theorem State.softWithdraw_pending : (s.softWithdraw).pending = s.pending := by unfold State.softWithdraw; split <;> simp

/-! ### cardSoftReset -/

@[simp] theorem State.cardSoftReset_vbi (b : Bool) : (s.cardSoftReset b).vbi = s.vbi := by cases b <;> simp [State.cardSoftReset, State.commandsSoftReset]
@[simp] theorem State.cardSoftReset_pc (b : Bool) : (s.cardSoftReset b).pc = s.pc := by cases b <;> simp [State.cardSoftReset, State.commandsSoftReset]
@[simp] theorem State.cardSoftReset_gtu (b : Bool) : (s.cardSoftReset b).gtu = s.gtu := by cases b <;> simp [State.cardSoftReset, State.commandsSoftReset]
@[simp] theorem State.cardSoftReset_sl (b : Bool) : (s.cardSoftReset b).sl = s.sl := by cases b <;> simp [State.cardSoftReset, State.commandsSoftReset]
@[simp] theorem State.cardSoftReset_pins (b : Bool) : (s.cardSoftReset b).pins = s.pins := by cases b <;> simp [State.cardSoftReset, State.commandsSoftReset]
@[simp] theorem State.cardSoftReset_now (b : Bool) : (s.cardSoftReset b).now = s.now := by cases b <;> simp [State.cardSoftReset, State.commandsSoftReset]
@[simp] theorem State.cardSoftReset_choices (b : Bool) : (s.cardSoftReset b).choices = s.choices := by cases b <;> simp [State.cardSoftReset, State.commandsSoftReset]
@[simp] theorem State.cardSoftReset_pending (b : Bool) : (s.cardSoftReset b).pending = s.pending := by cases b <;> simp [State.cardSoftReset, State.commandsSoftReset]

end Sys2Proof.Machine
end

