-- ==== Sys2Proof/Laws/Monitor.lean ====
section
/-! SUPPORT. What the condition monitor's operations do, once for each: the line filters, the own condition and the monitor's activity. -/

namespace Sys2Proof.Machine

variable (s : State)

/-! ## Line filters -/

/-- A filter read back is the one written to its line, and the old one on the others. -/
theorem State.filter_setFilter (n m : Fin 4) (f : LineFilter) :
    (s.setFilter n f).filter m = if n = m then f else s.filter m := by
  simp only [State.filter, State.setFilter, Fin.getElem_fin, Vector.getElem_set, Fin.ext_iff]

@[simp] theorem State.raw_setFilter (n m : Fin 4) (f : LineFilter) : (s.setFilter n f).raw m = s.raw m := rfl

/-- Judging line `n` writes the filter it is judged to, and no other line's. -/
theorem State.filter_judgeLine (n m : Fin 4) :
    (s.judgeLine n).filter m = if n = m then s.judgedFilter n else s.filter m :=
  s.filter_setFilter n m _

/-- A line is judged alike after another line has been. -/
theorem State.judgedFilter_judgeLine (n m : Fin 4) (h : n ≠ m) : (s.judgeLine n).judgedFilter m = s.judgedFilter m := by
  have hf : (s.judgeLine n).filter m = s.filter m := by rw [State.filter_judgeLine, if_neg h]
  unfold State.judgedFilter
  rw [hf]
  rfl

/-- Judging the four lines in turn judges each as it stood. -/
theorem State.filter_judgeLines (n : Fin 4) : (allLines.foldl State.judgeLine s).filter n = s.judgedFilter n := by
  have h01 : (0 : Fin 4) ≠ 1 := by decide
  have h02 : (0 : Fin 4) ≠ 2 := by decide
  have h03 : (0 : Fin 4) ≠ 3 := by decide
  have h12 : (1 : Fin 4) ≠ 2 := by decide
  have h13 : (1 : Fin 4) ≠ 3 := by decide
  have h23 : (2 : Fin 4) ≠ 3 := by decide
  simp only [allLines, List.foldl]
  match n with
  | 0 => simp [State.filter_judgeLine]
  | 1 => simp [State.filter_judgeLine, State.judgedFilter_judgeLine]
  | 2 => simp [State.filter_judgeLine, State.judgedFilter_judgeLine]
  | 3 => simp [State.filter_judgeLine, State.judgedFilter_judgeLine]

/-- Judging the four lines writes nothing but their filters. -/
theorem State.judgeLines_eq : allLines.foldl State.judgeLine s =
    { s with cm := { s.cm with filters := #v[s.judgedFilter 0, s.judgedFilter 1, s.judgedFilter 2, s.judgedFilter 3] } } := by
  have hv : (allLines.foldl State.judgeLine s).cm.filters =
      #v[s.judgedFilter 0, s.judgedFilter 1, s.judgedFilter 2, s.judgedFilter 3] := by
    apply Vector.ext
    intro i hi
    have h := s.filter_judgeLines ⟨i, hi⟩
    unfold State.filter at h
    simp only [Fin.getElem_fin] at h
    rw [h]
    match i, hi with
    | 0, _ => rfl
    | 1, _ => rfl
    | 2, _ => rfl
    | 3, _ => rfl
  rw [← hv]
  rfl

/-! ## The own condition -/

/-- After a derivation the own condition is the one its sources give. -/
@[simp] theorem State.deriveOwn_own : s.deriveOwn.cm.own = s.ownConditionNow := by
  unfold State.deriveOwn; split <;> simp_all

/-- A derivation changes the own condition alone in CM. -/
theorem State.deriveOwn_cm : s.deriveOwn.cm = { s.cm with own := s.ownConditionNow } := by
  unfold State.deriveOwn; split
  · rename_i h; rw [h]
  · rfl

/-- A derivation that gives the value held changes nothing. -/
theorem State.deriveOwn_eq (h : s.cm.own = s.ownConditionNow) : s.deriveOwn = s := by
  unfold State.deriveOwn; rw [if_pos h.symm]

/-- The sources of the own condition are not touched by a derivation. -/
@[simp] theorem State.ownConditionNow_deriveOwn : s.deriveOwn.ownConditionNow = s.ownConditionNow := by
  unfold State.ownConditionNow State.filter State.lineEnabled State.frozen State.area
  simp [State.deriveOwn_cm]

@[simp] theorem State.filter_deriveOwn (n : Fin 4) : s.deriveOwn.filter n = s.filter n := by
  simp [State.filter, State.deriveOwn_cm]

/-! ## Activity -/

/-- After a judgement the monitor is active exactly when R111 calls for it. -/
@[simp] theorem State.judgeMonitor_active : s.judgeMonitor.cm.monitorActive = s.monitorCalled := by
  unfold State.judgeMonitor; split
  · rename_i h; exact h.symm
  · split
    · rename_i h; exact h.symm
    · rename_i h; simp [State.deriveOwn_cm, h]

/-- A judgement that finds the monitor as called changes nothing. -/
theorem State.judgeMonitor_eq (h : s.cm.monitorActive = s.monitorCalled) : s.judgeMonitor = s := by
  unfold State.judgeMonitor; rw [if_pos h.symm]

@[simp] theorem State.filter_judgeMonitor (n : Fin 4) : s.judgeMonitor.filter n = s.filter n := by
  unfold State.judgeMonitor; split
  · rfl
  · split
    · rfl
    · simp; rfl

end Sys2Proof.Machine
end

