-- ==== Sys2Proof/Laws/Engine.lean ====
section
/-! SUPPORT. The actuation engine's shared operations case by case: what an offer does in each engine state, what a fault leaves, and how the queue is
run. -/

namespace Sys2Proof.Machine

variable (s : State)

/-! ### Offers -/

theorem State.offer_idle (d : Directive) (h : s.ae.engine = .idle) :
    s.offer d = ({ s with ae := { s.ae with debt := s.ae.debt + 1 } }).runQueue [d] := by
  simp only [State.offer, h]

/-- The engine queues offers: RUNNING, HOLDING or HELD. -/
def Engine.queues (e : Engine) : Bool := e = .running || e = .holding || e = .held

theorem State.offer_coalesces (d : Directive) (h : s.ae.engine.queues = true) (c : s.ae.coalesces d = true) :
    s.offer d = { s with ae := { s.ae with queue := s.ae.queue.dropLast, debt := s.ae.debt - 1 } } := by
  cases he : s.ae.engine <;> simp_all [State.offer, Engine.queues]

theorem State.offer_appends (d : Directive) (h : s.ae.engine.queues = true) (c : s.ae.coalesces d = false)
    (l : s.ae.queue.length < queueDepth) :
    s.offer d = { s with ae := { s.ae with queue := s.ae.queue ++ [d], debt := s.ae.debt + 1 } } := by
  cases he : s.ae.engine <;> simp_all [State.offer, Engine.queues]

theorem State.offer_overflows (d : Directive) (h : s.ae.engine.queues = true) (c : s.ae.coalesces d = false)
    (l : ¬s.ae.queue.length < queueDepth) :
    s.offer d = s.engineFault ⟨.overflow, some d, if s.ae.engine.moving then s.ae.stepIndex else none⟩ := by
  cases he : s.ae.engine <;> simp_all [State.offer, Engine.queues]

theorem State.offer_out (d : Directive) (h : s.ae.engine.out = true) : s.offer d = s := by
  cases he : s.ae.engine <;> simp_all [State.offer, Engine.out]

/-! ### Faults and completions -/

@[simp] theorem State.engineFault_ae (f : FaultRecord) : (s.engineFault f).ae =
    { s.ae with engine := .faulted, queue := [], running := none, debt := 0, actuated := .unknown, waiting := .none, fault := f } := by
  simp [State.engineFault]

@[simp] theorem State.completed_ae (d : Directive) : (s.completed d).ae =
    { s.ae with running := none, waiting := .none, actuated := d.target, debt := s.ae.debt - 1 } := by
  simp [State.completed]

@[simp] theorem State.engineRests_ae : s.engineRests.ae = { s.ae with engine := .idle, queue := [] } := by
  simp [State.engineRests]

@[simp] theorem State.sequenceBegins_ae (d : Directive) (rest : List Directive) : (s.sequenceBegins d rest).ae =
    { s.ae with engine := .running, queue := rest, running := some d, waiting := .none, fallbackTaken := false, stepCount := 0,
                retryCount := 0, retryOwner := none } := by
  simp [State.sequenceBegins]

/-- The outputs change with the pins' history, and nothing else does. -/
@[simp] theorem Ae.drives_outputs (o : BitVec 12) (a : Ae) : (a.drives o).outputs = o := rfl
@[simp] theorem Ae.drives_driven (o : BitVec 12) (a : Ae) : (a.drives o).driven = o :: a.driven := rfl

/-- A record entered adds at most its own output change to the pins' history. -/
theorem Ae.act_driven (fb : BitVec 8) (now : Ticks) (i : Nat) (r : StepRecord) (a : Ae) : ∃ l : List (BitVec 12), (a.act fb now i r).1.driven = l ++ a.driven := by
  unfold Ae.act
  split
  · exact ⟨[_], rfl⟩
  · exact ⟨[_], rfl⟩
  · exact ⟨[], rfl⟩
  · dsimp only
    unfold Ae.loadRetry
    split_ifs <;> exact ⟨[], rfl⟩
  · exact ⟨[], rfl⟩

/-- A chain adds its output changes to the pins' history and takes none out. -/
theorem Ae.enterUpTo_driven (steps : List StepRecord) (fb : BitVec 8) (now : Ticks) (n i : Nat) (a : Ae) :
    ∃ l : List (BitVec 12), (a.enterUpTo steps fb now n i).1.driven = l ++ a.driven := by
  induction n generalizing i a with
  | zero => exact ⟨[], rfl⟩
  | succ n ih =>
    unfold Ae.enterUpTo
    dsimp only
    cases steps[i]? with
    | none => exact ⟨[], rfl⟩
    | some r =>
      dsimp only
      have ha := Ae.act_driven fb now i r { a with stepCount := a.stepCount + 1, stepIndex := some i }
      generalize Ae.act fb now i r { a with stepCount := a.stepCount + 1, stepIndex := some i } = x at ha
      obtain ⟨b, done⟩ := x
      cases done with
      | false => exact ha
      | true =>
        dsimp only
        split_ifs
        · exact ha
        · obtain ⟨l, hl⟩ := ha
          obtain ⟨m, hm⟩ := ih r.nextIndex.toNat b
          exact ⟨m ++ l, by rw [hm, hl, List.append_assoc]⟩

/-! ### The queue -/

@[simp] theorem State.runQueue_nil : s.runQueue [] = s.engineRests := rfl

theorem State.runQueue_none (d : Directive) (rest : List Directive) (h : s.dirEntry d = none) :
    s.runQueue (d :: rest) = (({ s with ae := { s.ae with queue := rest } }).completed d).runQueue rest := by
  rw [State.runQueue]; simp only [h]

/-- After the queue is run the engine is IDLE, RUNNING or FAULTED. -/
theorem State.runQueue_engine (l : List Directive) :
    (s.runQueue l).ae.engine = .idle ∨ (s.runQueue l).ae.engine = .running ∨ (s.runQueue l).ae.engine = .faulted := by
  have act : ∀ (fb : BitVec 8) (now : Ticks) (i : Nat) (r : StepRecord) (a : Ae), (a.act fb now i r).1.engine = a.engine := by
    intro fb now i r a
    unfold Ae.act
    split
    · rfl
    · rfl
    · rfl
    · dsimp only
      unfold Ae.loadRetry
      split_ifs <;> rfl
    · rfl
  have enter : ∀ (steps : List StepRecord) (fb : BitVec 8) (now : Ticks) (n i : Nat) (a : Ae),
      (a.enterUpTo steps fb now n i).1.engine = a.engine := by
    intro steps fb now n
    induction n with
    | zero => intro i a; rfl
    | succ n ih =>
      intro i a
      unfold Ae.enterUpTo
      dsimp only
      cases steps[i]? with
      | none => rfl
      | some r =>
        dsimp only
        have ha := act fb now i r { a with stepCount := a.stepCount + 1, stepIndex := some i }
        generalize Ae.act fb now i r { a with stepCount := a.stepCount + 1, stepIndex := some i } = x at ha
        obtain ⟨b, done⟩ := x
        cases done with
        | false => exact ha
        | true =>
          dsimp only
          split_ifs
          · exact ha
          · rw [ih]; exact ha
  induction l generalizing s with
  | nil => left; simp
  | cons d rest ih =>
    unfold State.runQueue
    cases s.dirEntry d with
    | none => exact ih _
    | some i =>
      dsimp only
      have he := enter (s.sequenceBegins d rest).steps (s.sequenceBegins d rest).pins.fb (s.sequenceBegins d rest).now
        (entryLimit - (s.sequenceBegins d rest).ae.stepCount) i (s.sequenceBegins d rest).ae
      unfold Ae.enter
      generalize Ae.enterUpTo _ _ _ _ _ _ = x at he ⊢
      obtain ⟨a, e⟩ := x
      cases e with
      | waits => right; left; simpa using he
      | loops j => right; right; simp
      | completes => exact ih _

end Sys2Proof.Machine
end

