-- ==== Sys2Proof/Laws/Memory.lean ====
section
/-! SUPPORT. The byte arrays of the staging areas: a read after a write, the canonical form and the size bound kept by a write, and the canonical form of
the areas after reset. -/

namespace Sys2Proof.Laws

open Sys2Proof.Machine Sys2Proof.Safety

/-- `lo` is below index `a`, or there is no `lo`. -/
def above (lo : Option Nat) (a : Nat) : Bool := match lo with | none => true | some b => decide (b < a)

theorem wfAbove_nil (lo : Option Nat) : Memory.wfAbove lo [] = true := by cases lo <;> rfl

theorem wfAbove_cons (lo : Option Nat) (a : Nat) (v : Byte) (m : Memory) :
    Memory.wfAbove lo ((a, v) :: m) = true ↔ above lo a = true ∧ v ≠ Memory.unlisted ∧ Memory.wfAbove (some a) m = true := by
  cases lo <;> simp [Memory.wfAbove, above, and_assoc]

theorem above_trans {lo : Option Nat} {a b : Nat} (h : above lo a = true) (k : a < b) : above lo b = true := by
  cases lo with
  | none => rfl
  | some c =>
    have h' : c < a := by simpa [above] using h
    simpa [above] using Nat.lt_trans h' k

/-- A canonical array above `b` is canonical above whatever `b` is above. -/
theorem wfAbove_mono {lo : Option Nat} {b : Nat} {m : Memory} (k : above lo b = true) (h : Memory.wfAbove (some b) m = true) :
    Memory.wfAbove lo m = true := by
  cases m with
  | nil => exact wfAbove_nil lo
  | cons c m =>
    obtain ⟨a, v⟩ := c
    rw [wfAbove_cons] at h ⊢
    exact ⟨above_trans k (by simpa [above] using h.1), h.2⟩

/-- A write keeps the canonical form. -/
theorem wfAbove_write {lo : Option Nat} {m : Memory} {a : Nat} {v : Byte} (k : above lo a = true) (h : Memory.wfAbove lo m = true) :
    Memory.wfAbove lo (m.write a v) = true := by
  induction m generalizing lo with
  | nil =>
    unfold Memory.write
    split_ifs with hv
    · exact wfAbove_nil lo
    · exact (wfAbove_cons lo a v []).mpr ⟨k, hv, wfAbove_nil _⟩
  | cons c m ih =>
    obtain ⟨b, w⟩ := c
    have hc := (wfAbove_cons lo b w m).mp h
    unfold Memory.write
    split_ifs with hab hv hab hv
    · exact h
    · exact (wfAbove_cons lo a v _).mpr ⟨k, hv, (wfAbove_cons _ b w m).mpr ⟨by simpa [above] using hab, hc.2⟩⟩
    · exact wfAbove_mono hc.1 hc.2.2
    · subst a
      exact (wfAbove_cons lo b v m).mpr ⟨hc.1, hv, hc.2.2⟩
    · exact (wfAbove_cons lo b w _).mpr ⟨hc.1, hc.2.1, ih (by simp [above]; omega) hc.2.2⟩

/-- A write keeps the canonical form of a whole array. -/
theorem wf_write {m : Memory} (a : Nat) (v : Byte) (h : m.wf = true) : (m.write a v).wf = true := wfAbove_write rfl h

/-- A canonical array above `b` reads as unlisted at `b` and below. -/
theorem read_of_wfAbove {b : Nat} {m : Memory} (h : Memory.wfAbove (some b) m = true) {a : Nat} (k : a ≤ b) :
    m.read a = Memory.unlisted := by
  induction m generalizing b with
  | nil => rfl
  | cons c m ih =>
    obtain ⟨d, w⟩ := c
    rw [wfAbove_cons] at h
    have hd : b < d := by simpa [above] using h.1
    unfold Memory.read
    rw [if_neg (by omega)]
    exact ih h.2.2 (by omega)

theorem read_write_of_wfAbove {lo : Option Nat} {m : Memory} {a : Nat} {v : Byte} (h : Memory.wfAbove lo m = true) (c : Nat) :
    (m.write a v).read c = if c = a then v else m.read c := by
  induction m generalizing lo with
  | nil =>
    unfold Memory.write
    by_cases hv : v = Memory.unlisted <;> simp [hv, Memory.read]
  | cons d m ih =>
    obtain ⟨b, w⟩ := d
    have hc := (wfAbove_cons lo b w m).mp h
    have low : ∀ x, x ≤ b → Memory.read m x = Memory.unlisted := fun x hx => read_of_wfAbove hc.2.2 hx
    unfold Memory.write
    rcases Nat.lt_trichotomy a b with hab | hab | hab
    · rw [if_pos hab]
      by_cases hv : v = Memory.unlisted
      · rw [if_pos hv]
        by_cases hca : c = a
        · rw [if_pos hca, hv, Memory.read, if_neg (by omega)]; exact low c (by omega)
        · rw [if_neg hca]
      · rw [if_neg hv, Memory.read]
    · subst hab
      rw [if_neg (Nat.lt_irrefl a), if_pos rfl]
      by_cases hv : v = Memory.unlisted
      · rw [if_pos hv]
        by_cases hca : c = a
        · rw [if_pos hca, hv]; exact low c (by omega)
        · rw [if_neg hca, Memory.read, if_neg hca]
      · rw [if_neg hv]
        by_cases hca : c = a
        · rw [Memory.read, if_pos hca, if_pos hca]
        · rw [Memory.read, if_neg hca, if_neg hca, Memory.read, if_neg hca]
    · rw [if_neg (by omega), if_neg (by omega), Memory.read, ih hc.2.2, Memory.read]
      by_cases hcb : c = b
      · rw [if_pos hcb, if_neg (by omega), if_pos hcb]
      · rw [if_neg hcb, if_neg hcb]

/-- The byte written reads back. -/
theorem read_write_self {m : Memory} (a : Nat) (v : Byte) (h : m.wf = true) : (m.write a v).read a = v := by
  rw [read_write_of_wfAbove h, if_pos rfl]

/-- Every other byte reads as before. -/
theorem read_write_other {m : Memory} {a c : Nat} (v : Byte) (h : m.wf = true) (hc : c ≠ a) : (m.write a v).read c = m.read c := by
  rw [read_write_of_wfAbove h, if_neg hc]

/-- A write below `n` keeps every listed index below `n`. -/
theorem below_write {n a : Nat} {m : Memory} (v : Byte) (ha : a < n) (h : Memory.below n m = true) : Memory.below n (m.write a v) = true := by
  induction m with
  | nil => unfold Memory.write; split_ifs <;> simp [Memory.below, ha]
  | cons c m ih =>
    obtain ⟨b, w⟩ := c
    have h' : b < n ∧ Memory.below n m = true := by simpa [Memory.below] using h
    have key : ∀ x : Nat × Byte, ∀ l : Memory, Memory.below n (x :: l) = true ↔ x.1 < n ∧ Memory.below n l = true := by
      intro x l; simp [Memory.below]
    unfold Memory.write
    split_ifs
    · exact h
    · exact (key _ _).mpr ⟨ha, h⟩
    · exact h'.2
    · exact (key _ _).mpr ⟨ha, h'.2⟩
    · exact (key _ _).mpr ⟨h'.1, ih h'.2⟩

/-- Both staging areas are canonical after reset. -/
theorem wf_reset : State.reset.mp.cfgStaging.wf = true ∧ State.reset.mp.stepStaging.wf = true := ⟨rfl, rfl⟩

/-- A byte stored in a window keeps both staging areas canonical. -/
theorem wf_stage (w : StagingWindow) (v : Byte) (m : Mp) (h : m.cfgStaging.wf = true ∧ m.stepStaging.wf = true) :
    (m.stage w v).cfgStaging.wf = true ∧ (m.stage w v).stepStaging.wf = true := by
  cases w with
  | config => exact ⟨wf_write _ _ h.1, h.2⟩
  | step => exact ⟨h.1, wf_write _ _ h.2⟩

/-- Outside a window's own array, storing a byte changes no byte. -/
theorem stage_other (v : Byte) (m : Mp) : (m.stage .config v).stepStaging = m.stepStaging ∧ (m.stage .step v).cfgStaging = m.cfgStaging := ⟨rfl, rfl⟩

end Sys2Proof.Laws
end

