-- ==== Sys2Proof/Laws/Port.lean ====
section
/-! SUPPORT. What a host access does: nothing where its register takes no write, and otherwise its effect with the frame's address going on; a control command
by whether its block takes it. -/

namespace Sys2Proof.Machine

variable (s : State)

theorem State.portServed_reset (h : s.participation = .reset) : s.portServed = false := by simp [State.portServed, h]

theorem State.portServed_deaf (h : s.mp.deaf = true) : s.portServed = false := by simp [State.portServed, h]

theorem State.portServed_iff : s.portServed = true ↔ s.participation ≠ .reset ∧ s.mp.deaf = false := by simp [State.portServed]

/-- A data byte is written where the port is served and the frame in progress, if any, is a write frame that stands there. -/
theorem State.takesWrite_iff (a : BitVec 7) :
    s.takesWrite a = true ↔
      s.participation ≠ .reset ∧ s.mp.deaf = false ∧ ∀ f : Frame, s.mp.frame = some f → f.write = true ∧ f.address = a := by
  unfold State.takesWrite
  rw [Bool.and_eq_true, State.portServed_iff, and_assoc]
  refine and_congr_right fun _ => and_congr_right fun _ => ?_
  cases h : s.mp.frame with
  | none => simp
  | some f => simp

/-- A write that is taken has its effect, and the frame's address goes on. -/
theorem State.portWrite_taken (a : BitVec 7) (h : s.takesWrite a = true) (f : State → State) : s.portWrite a f = (f s).wrote a := by
  unfold State.portWrite; rw [if_pos h]

/-- A write that is not taken does nothing. -/
theorem State.portWrite_not_taken (a : BitVec 7) (h : s.takesWrite a = false) (f : State → State) : s.portWrite a f = s := by
  unfold State.portWrite; rw [h]; rfl

/-- A control command its block refuses changes CTRL's read-back and the frame alone. -/
theorem State.control_refused (h : s.takesWrite 0x01#7 = true) (c : BitVec 4) :
    s.control c none =
      { s with mp := { s.mp with ctrlCode := c, ctrlResult := .refused, frame := s.mp.frame.map (Frame.wrote 0x01#7) } } := by
  unfold State.control; exact s.portWrite_taken ctrlAddress h _

/-- A control command its block takes. -/
theorem State.control_taken (t : State) (h : s.takesWrite 0x01#7 = true) (c : BitVec 4) :
    s.control c (some t) = (t.ctrlReads c .accepted).wrote 0x01#7 := by
  unfold State.control; exact s.portWrite_taken ctrlAddress h _

/-- A control command where CTRL takes no write does nothing. -/
theorem State.control_not_taken (h : s.takesWrite 0x01#7 = false) (c : BitVec 4) (t : Option State) : s.control c t = s := by
  unfold State.control; exact s.portWrite_not_taken _ h _

/-- Eight more bits of a write frame that stands at CTRL are the control command its code names. -/
theorem State.writeAt_ctrl (v : Byte) : s.writeAt 0x01#7 v = s.controlByte v := rfl

/-! ### Reads -/

/-- Taking a byte touches the group copy, the byte being shifted out and its mark alone. -/
theorem State.takeAt_frame (a : BitVec 7) :
    s.takeAt a = { s with mp := { s.mp with
      capture := (s.takeAt a).mp.capture, readout := (s.takeAt a).mp.readout, snapTaken := (s.takeAt a).mp.snapTaken } } := by
  unfold State.takeAt
  split <;> rfl

/-- Outside the groups the byte is taken as it stands, and no copy is held after it. -/
theorem State.takeAt_register (a : BitVec 7) (h : groupOf a = none) :
    s.takeAt a = { s with mp := { s.mp with
      capture := none, readout := some (s.registerByte a), snapTaken := a = 0x08#7 && s.mp.snapState = .ready } } := by
  unfold State.takeAt State.takeByte State.readsAs
  rw [h]; rfl

/-- At its first byte a group is copied whole, and the byte taken from the copy. -/
theorem State.takeAt_first (a : BitVec 7) (g : Group) (h : groupOf a = some (g, 0)) :
    s.takeAt a = { s with mp := { s.mp with
      capture := some (g, s.groupBytes g), readout := some (byteAt (s.groupBytes g) 0),
      snapTaken := a = 0x08#7 && s.mp.snapState = .ready } } := by
  unfold State.takeAt State.takeByte State.readsAs
  rw [h]
  simp only [State.takeCopy, State.setMp]
  rw [if_pos trivial]
  rfl

/-- A later byte of a group is taken from the copy while one of it is held. -/
theorem State.takeAt_copied (a : BitVec 7) (g : Group) (o : Nat) (l : List Byte) (h : groupOf a = some (g, o + 1)) (c : s.mp.capture = some (g, l)) :
    s.takeAt a = { s with mp := { s.mp with
      readout := some (byteAt l (o + 1)), snapTaken := a = 0x08#7 && s.mp.snapState = .ready } } := by
  unfold State.takeAt State.takeByte State.readsAs
  have keep : Option.filter (fun c : Group × List Byte => decide (c.1 = g)) (some (g, l)) = some (g, l) := by simp [Option.filter]
  rw [h]
  simp only [State.setMp, c, keep, ↓reduceIte]
  rfl

/-- A read that is not served does nothing. -/
theorem State.portRead_not_served (a : BitVec 7) (h : s.portServed = false) : s.portRead a = s := by
  unfold State.portRead; rw [h]; rfl

/-- In a read frame that stands at its register, a read is the shifting out of the byte taken before. -/
theorem State.portRead_in_frame (a : BitVec 7) (h : s.portServed = true) (f : s.mp.frame = some ⟨false, a⟩) :
    s.portRead a = s.readOn ⟨false, a⟩ := by
  unfold State.portRead
  rw [if_pos h, f]
  simp

/-- In any other frame no byte is read there. -/
theorem State.portRead_elsewhere (a : BitVec 7) (f : Frame) (hf : s.mp.frame = some f) (h : f.write = true ∨ f.address ≠ a) : s.portRead a = s := by
  unfold State.portRead
  rw [hf]
  cases s.portServed with
  | false => rfl
  | true =>
    have : (!f.write && decide (f.address = a)) = false := by rcases h with h | h <;> simp [h]
    simp [this]

/-- The shifting out of a byte touches the port alone. -/
theorem State.readOn_frame (f : Frame) : s.readOn f = { s with mp := (s.readOn f).mp } := by
  unfold State.readOn
  rw [State.takeAt_frame]
  rfl

end Sys2Proof.Machine
end

