-- ==== Sys2Proof/Laws/Table.lean ====
section
/-! SUPPORT. The rows of the group table under the table's operations: which entry each rewrites, and which facts of an entry no cover operation
touches. -/

namespace Sys2Proof.Machine

/-- Every position is listed. -/
theorem mem_allPos (n : Pos) : n ∈ allPos := by revert n; decide

/-- Row `n` of a tabulated table. -/
@[simp] theorem tabulate_get {α : Type} (f : Pos → α) (n : Pos) : (tabulate f)[n.val]'n.isLt = f n := by
  obtain ⟨n, h⟩ := n
  interval_cases n <;> rfl

variable (g : Gtu)

@[simp] theorem Gtu.entry_setEntry_self (n : Pos) (e : Entry) : (g.setEntry n e).entry n = e := by
  simp [Gtu.entry, Gtu.setEntry]

theorem Gtu.entry_setEntry_other {n m : Pos} (h : m ≠ n) (e : Entry) : (g.setEntry n e).entry m = g.entry m := by
  have : n.val ≠ m.val := fun k => h (Fin.ext k.symm)
  simp [Gtu.entry, Gtu.setEntry, this]

theorem Gtu.entry_setEntry (n m : Pos) (e : Entry) : (g.setEntry n e).entry m = if m = n then e else g.entry m := by
  split_ifs with h
  · rw [h, Gtu.entry_setEntry_self]
  · exact g.entry_setEntry_other h e

@[simp] theorem Gtu.entry_mapEntries (f : Pos → Entry → Entry) (n : Pos) : (g.mapEntries f).entry n = f n (g.entry n) := by
  unfold Gtu.mapEntries
  exact tabulate_get (fun n => f n (g.entry n)) n

@[simp] theorem Gtu.entry_cleared (roles : Pos → Role) (n : Pos) : (Gtu.cleared roles).entry n = Entry.cleared (roles n) := by
  unfold Gtu.cleared
  exact tabulate_get (fun n => Entry.cleared (roles n)) n

@[simp] theorem Gtu.entry_offList (p n : Pos) : (g.offList p).entry n = g.entry n := rfl
@[simp] theorem Gtu.entry_arrive (p n : Pos) : (g.arrive p).entry n = g.entry n := rfl
@[simp] theorem Gtu.entry_requeue (p n : Pos) : (g.requeue p).entry n = g.entry n := rfl

theorem Gtu.entry_setCover (p n : Pos) (a : Assignment) (b : Option Pos) (c : Cls) :
    (g.setCover p a b c).entry n = if n = p then { g.entry p with assignment := a, partner := b, cls := c } else g.entry n :=
  g.entry_setEntry p n _

theorem Gtu.entry_setCls (p n : Pos) (c : Cls) :
    (g.setCls p c).entry n = if n = p then { g.entry p with cls := c } else g.entry n :=
  g.entry_setEntry p n _

/-- The facts of an entry that ending, selecting or advancing a cover leaves as they were. -/
def Entry.facts (e : Entry) : Role × Presence × Nat × Condition × Bool × Bool :=
  (e.role, e.presence, e.runCount, e.condition, e.locked, e.faulted)

theorem Gtu.facts_setCover (p n : Pos) (a : Assignment) (b : Option Pos) (c : Cls) :
    ((g.setCover p a b c).entry n).facts = (g.entry n).facts := by
  rw [Gtu.entry_setCover]; split_ifs with h
  · rw [h]; rfl
  · rfl

theorem Gtu.facts_setCls (p n : Pos) (c : Cls) : ((g.setCls p c).entry n).facts = (g.entry n).facts := by
  rw [Gtu.entry_setCls]; split_ifs with h
  · rw [h]; rfl
  · rfl

theorem Gtu.facts_clearPrimary (p n : Pos) : ((g.clearPrimary p).entry n).facts = (g.entry n).facts := g.facts_setCover p n _ _ _

theorem Gtu.facts_requeueOrClear (p n : Pos) : ((g.requeueOrClear p).entry n).facts = (g.entry n).facts := by
  unfold Gtu.requeueOrClear
  dsimp only
  split_ifs
  · rw [Gtu.entry_requeue, Gtu.facts_setCover]
  · exact g.facts_clearPrimary p n

/-- A property of a table that one pass over a list keeps at each position is kept by the whole pass. -/
theorem Gtu.foldl_keeps {P : Gtu → Prop} {f : Gtu → Pos → Gtu} (h : ∀ g p, P g → P (f g p)) :
    ∀ (l : List Pos) (g : Gtu), P g → P (l.foldl f g)
  | [], _, hg => hg
  | p :: l, g, hg => Gtu.foldl_keeps h l (f g p) (h g p hg)

/-- Putting the requeues of a stage in order moves places on the list alone. -/
@[simp] theorem Gtu.entry_orderRequeues (start : Gtu) (n : Pos) : (g.orderRequeues start).entry n = g.entry n := by
  refine Gtu.foldl_keeps (P := fun g' => g'.entry n = g.entry n) ?_ _ g rfl
  intro g' p h
  split_ifs
  · rw [Gtu.entry_requeue, h]
  · exact h

/-- A requeue puts `p` on the list and keeps every other place. -/
theorem Gtu.mem_requeue (p q : Pos) : q ∈ (g.requeue p).waitList ↔ q = p ∨ q ∈ g.waitList := by
  unfold Gtu.requeue Gtu.offList
  have h : ∀ (f : Pos → Bool) (l : List Pos), q ∈ l.takeWhile f ++ p :: l.dropWhile f ↔ q = p ∨ q ∈ l := by
    intro f l
    conv_rhs => rw [← List.takeWhile_append_dropWhile (p := f) (l := l)]
    simp only [List.mem_append, List.mem_cons]
    tauto
  rw [h]
  simp only [List.mem_filter, decide_not, Bool.not_eq_true', decide_eq_false_iff_not]
  tauto

/-- Putting the requeues of a stage in order leaves the same positions on the list. -/
theorem Gtu.mem_orderRequeues (start : Gtu) (q : Pos) : q ∈ (g.orderRequeues start).waitList ↔ q ∈ g.waitList := by
  unfold Gtu.orderRequeues
  refine Gtu.foldl_keeps (P := fun g' => q ∈ g'.waitList ↔ q ∈ g.waitList) (fun g' p h => ?_) _ g Iff.rfl
  split_ifs with c
  · rw [Gtu.mem_requeue, ← h]
    simp only [Bool.and_eq_true, Gtu.waiting, decide_eq_true_eq] at c
    exact ⟨fun k => k.elim (fun e => e ▸ c.1) id, Or.inr⟩
  · exact h

/-- The index and the requested state are not the table's covers: putting requeues in order keeps both. -/
theorem Gtu.orderRequeues_keeps (start : Gtu) :
    (g.orderRequeues start).sliceIndex = g.sliceIndex ∧ (g.orderRequeues start).requested = g.requested := by
  unfold Gtu.orderRequeues
  refine Gtu.foldl_keeps (P := fun g' => g'.sliceIndex = g.sliceIndex ∧ g'.requested = g.requested) (fun g' p h => ?_) _ g ⟨rfl, rfl⟩
  split_ifs
  · exact h
  · exact h

@[simp] theorem Gtu.waitList_settle : g.settle.waitList = g.waitList := rfl

/-- The end of a stage leaves the same positions on the list. -/
theorem Gtu.mem_settleFrom (start : Gtu) (q : Pos) : q ∈ (g.settleFrom start).waitList ↔ q ∈ g.waitList := by
  unfold Gtu.settleFrom
  rw [Gtu.waitList_settle, Gtu.mem_orderRequeues]

theorem Gtu.facts_toDropping (p n : Pos) (c : Cls) : ((g.toDropping p c).entry n).facts = (g.entry n).facts := by
  unfold Gtu.toDropping
  rw [Gtu.facts_setCover]
  refine Gtu.foldl_keeps (P := fun g' => (g'.entry n).facts = (g.entry n).facts) ?_ allPos g rfl
  intro g' q h
  split_ifs
  · rw [Gtu.facts_clearPrimary, h]
  · exact h

theorem Gtu.facts_revoke (p n : Pos) : ((g.revoke p).entry n).facts = (g.entry n).facts := by
  unfold Gtu.revoke
  dsimp only
  split
  · exact g.facts_requeueOrClear p n
  · exact g.facts_toDropping p n _
  · exact g.facts_toDropping p n _
  · rfl
  · rfl

theorem Gtu.facts_release (p n : Pos) : ((g.release p).entry n).facts = (g.entry n).facts := by
  unfold Gtu.release
  dsimp only
  split
  · split_ifs
    · exact g.facts_clearPrimary p n
    · rfl
  · exact g.facts_clearPrimary p n
  · exact g.facts_toDropping p n _
  · exact g.facts_toDropping p n _
  · exact g.facts_setCls p n _

theorem Gtu.facts_revokeHolders (b n : Pos) : ((g.revokeHolders b).entry n).facts = (g.entry n).facts := by
  refine Gtu.foldl_keeps (P := fun g' => (g'.entry n).facts = (g.entry n).facts) ?_ allPos g rfl
  intro g' p h
  split_ifs
  · rw [Gtu.facts_revoke, h]
  · exact h

theorem Gtu.facts_endDroppings (b n : Pos) : ((g.endDroppings b).entry n).facts = (g.entry n).facts := by
  refine Gtu.foldl_keeps (P := fun g' => (g'.entry n).facts = (g.entry n).facts) ?_ allPos g rfl
  intro g' p h
  split_ifs
  · rw [Gtu.facts_requeueOrClear, h]
  · exact h

theorem Gtu.facts_settle (n : Pos) : (g.settle.entry n).facts = (g.entry n).facts := by
  unfold Gtu.settle
  rw [Gtu.entry_mapEntries]
  cases hr : (g.entry n).role with
  | empty => rfl
  | primary => simp [Entry.facts, hr]
  | backup => cases hh : g.holder n <;> simp [Entry.facts, hr]

theorem Gtu.facts_settleFrom (start : Gtu) (n : Pos) : ((g.settleFrom start).entry n).facts = (g.entry n).facts := by
  unfold Gtu.settleFrom
  rw [Gtu.facts_settle, Gtu.entry_orderRequeues]

theorem Gtu.facts_select (p b n : Pos) (c : Cls) : ((g.select p b c).entry n).facts = (g.entry n).facts := by
  unfold Gtu.select
  rw [Gtu.entry_offList, Gtu.facts_setCover]
  cases g.holder b with
  | none => rfl
  | some q => exact g.facts_revoke q n

theorem Gtu.facts_serve (blk : List Byte) (n : Pos) : ((g.serve blk).entry n).facts = (g.entry n).facts := by
  have key : ∀ (k : Nat) (g' : Gtu), ((Gtu.serveUpTo blk g k g').entry n).facts = (g'.entry n).facts := by
    intro k
    induction k with
    | zero => intro g'; rfl
    | succ k ih =>
      intro g'
      unfold Gtu.serveUpTo
      cases h : g'.firstServed blk g'.waitList with
      | none => rfl
      | some pb => exact (ih _).trans ((congrArg Entry.facts (Gtu.entry_orderRequeues _ _ n)).trans (Gtu.facts_select _ pb.1 pb.2 n _))
  exact key 112 g

/-! ### Service -/

/-- Primaries without a candidate are passed over. -/
theorem Gtu.firstServed_skips (blk : List Byte) (l m : List Pos) (h : ∀ q ∈ l, g.choose blk q (g.entry q).cls = none) :
    g.firstServed blk (l ++ m) = g.firstServed blk m := by
  induction l with
  | nil => rfl
  | cons a t ih =>
    rw [List.cons_append, Gtu.firstServed, h a List.mem_cons_self]
    exact ih fun q k => h q (List.mem_cons_of_mem a k)

/-- Service with no primary to serve is over. -/
theorem Gtu.serveUpTo_none (blk : List Byte) (start : Gtu) (n : Nat) (h : g.firstServed blk g.waitList = none) : Gtu.serveUpTo blk start n g = g := by
  cases n with
  | zero => rfl
  | succ n => rw [Gtu.serveUpTo, h]

/-- Service makes the selection for the first primary that has a candidate, and goes on. -/
theorem Gtu.serveUpTo_some (blk : List Byte) (start : Gtu) (n : Nat) (p b : Pos) (h : g.firstServed blk g.waitList = some (p, b)) :
    Gtu.serveUpTo blk start (n + 1) g = Gtu.serveUpTo blk start n ((g.select p b (g.entry p).cls).orderRequeues start) := by
  rw [Gtu.serveUpTo, h]

end Sys2Proof.Machine
end

