-- ==== Sys2Proof/WellFormed.lean ====
section
/-! DEFINITION. Which terms of `Instr` are commands of their row: the two rows that are the complement of others are checked here; every other
operand is held to its range by its type. -/

namespace Sys2Proof

/-- A command's operands are ones its row can have. -/
def Instr.wf : Instr → Bool
  | .ctrlUnknownCode code => !knownControlCode code
  | .registerWriteIgnored addr => !writableAddress addr
  | .addressPhaseAttempt _ | .fullReset | .fullResetRelease _ | .loadReadStart | .addressAttemptRetry | .clockStretchTimeout
  | .imageByteReceived _ | .epochTimerExpiry | .unheardMarker | .markerStart | .markerEnd | .longMarker | .lineReleased
  | .recordDelivery | .commandExpiry | .dwellExpiry | .feedbackChange _ | .awaitTimeout | .lineInputChange _ _ _
  | .holdoffExpiry _ | .txactTransition | .silenceTimerExpiry | .wtrTimerExpiry | .discardTimerExpiry
  | .commandSubmission _ | .commandAcknowledge _ | .start | .rejoin | .softReset | .hold | .resume | .stop | .clearFault
  | .snap | .snapRelease | .istatWrite _ | .ienWrite _ | .pointerWrite _ _ | .stagingWrite _ _ | .windowDataRead _
  | .snapdataRead | .groupCapture _ | .lowStretchBegin | .shortStretchEnd | .markerDriveRelease | .cellBegin | .cellSample
  | .dominantCellRelease | .commandByteReceived _ | .transactionEnd => true

end Sys2Proof
end

