-- ==== Sys2Proof/Tests/Slice0.lean ====
section
/-! SUPPORT. The model's own tests, each one step on a small state or one table operation: well-formedness, the manual's worked examples, and for each
statement with hypotheses a state and operands that meet them, clause by clause (`test_meets_…`). -/

namespace Sys2Proof.Tests

open Sys2Proof Sys2Proof.Machine Sys2Proof.Safety

set_option Elab.async false

/-! ## Small states -/

/-- The group configuration block of the shelf of Section 11.1 with local parameters: all lines enabled, holdoffs of 100 ms, no silence threshold. -/
def area : List Byte :=
  [0x14#8, 0x10#8, 0xA0#8, 0x00#8] ++ List.replicate 16 0x00#8 ++ [0x03#8, 0x01#8, 0x2C#8, 0x06#8] ++ [0x0F#8, 0x0A#8, 0x0A#8, 0x00#8]

/-- The shelf's configuration with the built-in steps. -/
def conf : Frozen := frozenOf area defaultDirectory defaultSteps

/-- A machine in participation state `p` with nothing loaded. -/
def bare (p : Participation) : State := { State.reset with pc := { State.reset.pc with participation := p } }

/-- Station 2 of the shelf in participation state `p`, its table cleared. -/
def station (p : Participation) : State :=
  { bare p with
      vbi := { State.reset.vbi with receiver := .resting }
      gtu := Gtu.cleared (blockRole area)
      sl := { State.reset.sl with ownPos := 2, loadState := .frozen, loadSource := .hostShort, config := some conf } }

/-- A PRESENT entry of the shelf. -/
def seen (n : Pos) : Entry :=
  { Entry.cleared (blockRole area n) with presence := if blockRole area n = .empty then .absent else .present }

/-- The shelf's table with every configured position PRESENT and no cover. -/
def shelf : Gtu := { entries := tabulate seen, waitList := [], sliceIndex := 0, requested := .carrying }

/-- The shelf's table with a cover for each row: the primary, its assignment, backup, class and condition. -/
def covers (l : List (Pos × Assignment × Pos × Cls × Condition)) : Gtu :=
  (l.foldl (fun g r => (g.setEntry r.1 { g.entry r.1 with condition := r.2.2.2.2 }).setCover r.1 r.2.1 (some r.2.2.1) r.2.2.2.1) shelf).settle

/-- Station 2 IN_STEP, its line covered by backup 8. -/
def inStep : State :=
  { station .inStep with
      gtu := { covers [(2, .active, 8, .waitRestore, .clear)] with requested := .yielded }
      ae := { State.reset.ae with actuated := .yielded }
      cu := { State.reset.cu with
        table := [⟨3, .force, .contending, none, 5⟩, ⟨4, .clear, .queued, none, 0⟩, ⟨1, .unlock, .done, some .accepted, 2⟩], nextTag := 5,
        wtrTimer := some (sec 300) } }

/-- The station with its engine in state `e`. -/
def withEngine (e : Engine) (s : State) : State := { s with ae := { s.ae with engine := e } }

/-- The station with a sequence in progress, waiting as `w` says at record `i`. -/
def waitingAt (w : Waiting) (i : Nat) (s : State) : State :=
  { s with ae := { s.ae with engine := .running, running := some .yield, debt := 1, stepIndex := some i, waiting := w } }

/-- Records with a DWELL at 0, and AWAITs on FB0 at 1 (with a fallback) and 2 (without one, and with a retry). -/
def slowSteps : List StepRecord :=
  [⟨0x50#8, 0x00#8, 0x00#8, 0x00#8, 0x00#8, 0x05#8, 0x00#8, 0x00#8⟩, ⟨0x78#8, 0x00#8, 0x00#8, 0x00#8, 0x01#8, 0x01#8, 0x00#8, 0x09#8⟩,
   ⟨0x71#8, 0x00#8, 0x00#8, 0x01#8, 0x01#8, 0x01#8, 0x00#8, 0x09#8⟩]

/-- The configuration with `slowSteps`, YIELD starting at record 0 and RECLAIM without an entry. -/
def slowConf : Frozen := frozenOf area (List.replicate 33 0x00#8 ++ [0xFF#8, 0x01#8, 0x02#8]) slowSteps

/-- Station 2 with the slow records. -/
def slow (p : Participation) : State := { station p with sl := { (station p).sl with config := some slowConf } }

/-- The state with a frame of the given direction that stands at `a`. -/
def framed (write : Bool) (a : BitVec 7) (s : State) : State := { s with mp := { s.mp with frame := some ⟨write, a⟩ } }

/-- The state in a frame that began in RESET. -/
def deafened (s : State) : State := { s with mp := { s.mp with deaf := true } }

/-- A write of `a` is taken, with no frame in progress and in a write frame that stands there. -/
abbrev Taken (a : BitVec 7) (s : State) : Prop := s.takesWrite a = true ∧ (framed true a s).takesWrite a = true

/-- The state a command answers. -/
def after (c : Instr) (s : State) : Option State :=
  match exec c s with
  | .next t => some t
  | .fault _ | .refused _ => none

/-- The cells of an epoch with the listed cells dominant. -/
def dominant (l : List Nat) : List Bool := (List.range 168).map fun k => decide (k ∈ l)

/-- A record with no fault that reads the listed cells dominant. -/
def reading (l : List Nat) : EpochRecord := recordOf (dominant l) [] {} false .none Outgoing.emptied

/-- The presence cells of the shelf. -/
def present : List Nat := [1, 2, 5, 8, 9]

/-- A readable short image of the shelf. -/
def shortBody : List Byte := 0x3C#8 :: area

/-- A readable full image of the shelf with the built-in records. -/
def fullBody : List Byte := 0xC3#8 :: area ++ defaultDirectory ++ [0x00#8, 0x03#8] ++ defaultSteps.flatMap StepRecord.bytes

/-- The two CRC bytes of an image. -/
def crcBytes (l : List Byte) : List Byte := [(crc16 l).extractLsb' 8 8, (crc16 l).extractLsb' 0 8]

/-- The loader receiving an image of which `l` has come. -/
def receiving (l : List Byte) : State :=
  { bare .loading with sl := { State.reset.sl with ownPos := 2, loadState := .reading, phase := .receiving, byteCount := l.length, image := l } }

/-- UNCONFIGURED with the area staged, and the steps staged as given. -/
def staged (steps : Option (List Byte)) : State :=
  { bare .unconfigured with
      sl := { State.reset.sl with ownPos := 2, loadState := .failed, loadCause := .noDevice }
      mp := { State.reset.mp with
        cfgStaging := (area.zipIdx).foldl (fun m b => m.write b.2 b.1) []
        stepStaging := ((steps.getD []).zipIdx).foldl (fun m b => m.write b.2 b.1) []
        stepsStaged := steps.isSome } }

/-! ## Well-formedness -/

theorem test_wf_rejects_a_known_control_code : (Instr.ctrlUnknownCode 0x01#8).wf = false := by decide
theorem test_wf_rejects_the_last_control_code : (Instr.ctrlUnknownCode 0x09#8).wf = false := by decide
theorem test_wf_accepts_other_control_codes : (Instr.ctrlUnknownCode 0x00#8).wf = true ∧ (Instr.ctrlUnknownCode 0x0A#8).wf = true := by decide
theorem test_wf_rejects_a_writable_address : (Instr.registerWriteIgnored 0x01#7).wf = false ∧ (Instr.registerWriteIgnored 0x0D#7).wf = false := by
  decide
theorem test_wf_accepts_other_addresses : (Instr.registerWriteIgnored 0x00#7).wf = true ∧ (Instr.registerWriteIgnored 0x08#7).wf = true := by decide
theorem test_no_table_word_spells_a_command : decodeTableWord 8 0 = none ∧ State.reset.withFetchWord 8 0 = State.reset := ⟨rfl, rfl⟩

/-! ## Checksums and layouts -/

/-- The two check values the manual gives for the ASCII string 123456789. -/
theorem test_checksums_of_the_nine_digits :
    crc8 [0x31#8, 0x32#8, 0x33#8, 0x34#8, 0x35#8, 0x36#8, 0x37#8, 0x38#8, 0x39#8] = 0xF4#8 ∧
    crc16 [0x31#8, 0x32#8, 0x33#8, 0x34#8, 0x35#8, 0x36#8, 0x37#8, 0x38#8, 0x39#8] = 0x29B1#16 := by decide +kernel

theorem test_roles_of_the_shelf :
    (allPos.filter fun n => blockRole area n = .primary) = [1, 2, 5] ∧ (allPos.filter fun n => blockRole area n = .backup) = [8, 9] ∧
    blockWtr area = 300 ∧ blockLossThreshold area = 6 ∧ blockPooled area = true ∧ blockRevertive area = true := by decide +kernel

theorem test_shelf_configuration_is_valid : blockValid 2 area = true ∧ blockValid 0 area = false := by decide +kernel

theorem test_default_steps_are_valid : stepsValid defaultDirectory 3 defaultSteps = true := by decide +kernel

theorem test_slice_reads_back : Entry.ofSlice .primary ((covers [(2, .active, 8, .fail, .failed)]).entry 2).slice =
    some ((covers [(2, .active, 8, .fail, .failed)]).entry 2) := by decide +kernel

theorem test_request_word_is_read : decodeGrant (dominant [80, 81, 83, 85, 86]) = some (.force, 4) := by decide +kernel

/-! ## Worked sequences (Chapter 11) -/

/-- Assignment, partner, class and rank of the entries asked for, and the wait list. -/
def shows (g : Gtu) (l : List Pos) : List (Assignment × Option Pos × Cls × Nat) × List Pos :=
  (l.map fun n => ((g.entry n).assignment, (g.entry n).partner, (g.entry n).cls, (g.entry n).waitRank), g.waitList)

/-- Section 11.2, record n: a FAIL claim forms and takes backup 8. -/
theorem test_single_fail_record_n : shows (shelf.tableStages area (reading (present ++ [18]))).1 [2, 8, 9] =
    ([(.yielding, some 8, .fail, 0), (.yielding, some 2, .none, 0), (.none, none, .none, 0)], []) := by decide +kernel

/-- Section 11.2, record n + 3: the primary is no longer busy. -/
theorem test_single_fail_record_n3 :
    shows ((covers [(2, .yielding, 8, .fail, .failed)]).tableStages area (reading (present ++ [18]))).1 [2, 8] =
      ([(.taking, some 8, .fail, 0), (.taking, some 2, .none, 0)], []) := by decide +kernel

/-- Section 11.2, record m: the line has cleared, and the cover waits to restore. -/
theorem test_line_clears_record_m :
    shows ((covers [(2, .active, 8, .fail, .failed)]).tableStages area (reading present)).1 [2, 8] =
      ([(.active, some 8, .waitRestore, 0), (.active, some 2, .none, 0)], []) := by decide +kernel

/-- Section 11.2, record m′: RESTORE is granted to station 2. -/
theorem test_restore_record_m' :
    shows ((covers [(2, .active, 8, .waitRestore, .clear)]).tableStages area (reading (present ++ [81, 83, 84, 86]))).1 [2, 8] =
      ([(.dropping, some 8, .hold, 0), (.none, none, .none, 0)], []) := by decide +kernel

/-- Section 11.3, record 1000: a second FAIL preempts the DEGRADE cover. -/
theorem test_preemption_record_1000 :
    shows ((covers [(1, .active, 9, .degrade, .degraded), (2, .active, 8, .fail, .failed)]).tableStages area
      (reading (present ++ [33, 18, 21]))).1 [1, 2, 5, 8, 9] =
    ([(.dropping, some 9, .degrade, 0), (.active, some 8, .fail, 0), (.yielding, some 9, .fail, 0), (.active, some 2, .none, 0),
      (.yielding, some 5, .none, 0)], []) := by decide +kernel

/-- Section 11.3, record 1003: the DROPPING ends, the new cover takes, and the preempted primary waits at rank 1. -/
theorem test_preemption_record_1003 :
    shows ((covers [(1, .dropping, 9, .degrade, .degraded), (2, .active, 8, .fail, .failed), (5, .yielding, 9, .fail, .failed)]).tableStages area
      (reading (present ++ [33, 18, 21]))).1 [1, 2, 5, 9] =
    ([(.none, none, .degrade, 1), (.active, some 8, .fail, 0), (.taking, some 9, .fail, 0), (.taking, some 5, .none, 0)], [1]) := by
  decide +kernel

/-! ## One step -/

theorem test_reset_release_reads_the_straps : (after (.fullResetRelease ⟨11, false⟩) State.reset).map (fun s => (s.sl.ownPos, s.participation, s.sl.phase)) =
    some (11, .loading, .settling (ms 1)) := by decide +kernel

/-- A frame whose SCS fell before the release is not served, and the next one is (R171). -/
theorem test_frame_open_at_the_release :
    (after (.fullResetRelease ⟨11, true⟩) State.reset).map (fun s => (s.portServed, (after .transactionEnd s).map State.portServed)) =
      some (false, some true) := by decide +kernel

theorem test_short_image_freezes :
    (after (.imageByteReceived ((crcBytes shortBody).getD 1 0)) (receiving (shortBody ++ (crcBytes shortBody).take 1))).map
      (fun s => (s.participation, s.sl.loadState, s.sl.loadSource, s.ae.engine, s.mp.istat)) =
    some (.listening, .frozen, .eepromShort, .idle, 0b000001#6) := by decide +kernel

theorem test_short_image_with_a_wrong_crc_fails :
    (after (.imageByteReceived ((crcBytes shortBody).getD 1 0 + 1)) (receiving (shortBody ++ (crcBytes shortBody).take 1))).map
      (fun s => (s.participation, s.sl.loadCause, s.sl.byteCount)) = some (.unconfigured, .crc, 31) := by decide +kernel

/-- The CRC of the full image, taken in four parts. -/
theorem test_full_image_crc : crc16 fullBody = 0xEBEF#16 := by
  have more : ∀ (l m : List Byte) (r q : BitVec 16), crc16 l = r →
      m.foldl (fun r b => crcShift8 0x1021#16 (r ^^^ (BitVec.zeroExtend 16 b <<< 8))) r = q → crc16 (l ++ m) = q := by
    intro l m r q h k
    rw [← k, ← h]
    exact List.foldl_append
  have a : crc16 (fullBody.take 26) = 0xCDA5#16 := by decide +kernel
  have b := more (fullBody.take 26) ((fullBody.drop 26).take 26) _ 0xEBDD#16 a (by decide +kernel)
  have c := more _ ((fullBody.drop 52).take 26) _ 0xE4C3#16 b (by decide +kernel)
  exact more _ (fullBody.drop 78) _ _ c (by decide +kernel)

/-- What SL does on its two lines: an attempt that finds SDA low twice and is not acknowledged at the offset, and a byte that is not the last. -/
theorem test_two_wire_actions :
    (after (.addressPhaseAttempt ⟨2, true, false, true, true⟩) { bare .loading with sl := { State.reset.sl with phase := .addressing 1 } }).map
      (fun s => s.sl.wire) = some [.pulse, .pulse, .stop, .start, .send 0xAC#8, .send 0x00#8, .stop] ∧
    (after (.imageByteReceived 0x3C#8) (receiving [])).map (fun s => s.sl.wire) = some [.ack] ∧
    (after (.imageByteReceived 0x00#8) (receiving [])).map (fun s => (s.sl.wire, s.sl.loadCause)) = some ([.nack, .stop], .noImage) := by
  decide +kernel

theorem test_start_freezes_the_staging : (after .start (staged none)).map (fun s => (s.participation, s.sl.loadSource, s.sl.config)) =
    some (.listening, .hostShort, some conf) := by decide +kernel

theorem test_hold_in_idle : (after .hold inStep).map (fun s => (s.ae.engine, s.mp.ctrlResult, s.mp.istat)) =
    some (.held, .accepted, 0b001000#6) := by decide +kernel

theorem test_stop_then_unknown : (after .stop inStep).map (fun s => (s.ae.engine, s.ae.actuated)) = some (.stopped, .unknown) := by decide +kernel

theorem test_dwell_expires_and_completes :
    (after .dwellExpiry (waitingAt (.dwell 7) 0 (slow .inStep))).map (fun s => (s.now, s.ae.engine, s.ae.actuated, s.ae.debt)) =
      some (7, .idle, .yielded, 0) := by decide +kernel

/-- Both output changes of a chain reach the pins, in record order (R140). -/
theorem test_chain_pulses_an_output :
    (inStep.ae.enter [⟨0x00#8, 0x01#8, 0x00#8, 0x00#8, 0x00#8, 0x01#8, 0x00#8, 0x00#8⟩, ⟨0x30#8, 0x00#8, 0x00#8, 0x00#8, 0x00#8, 0x01#8, 0x00#8, 0x00#8⟩]
      0#8 0 0).1.driven = [0x000#12, 0x001#12] := by decide +kernel

theorem test_await_fails_without_a_fallback :
    (after .awaitTimeout (waitingAt (.await 7) 2 (slow .inStep))).map (fun s => (s.ae.engine, s.ae.fault)) =
      some (.faulted, ⟨.timeout, some .yield, some 2⟩) := by decide +kernel

theorem test_submission_takes_the_next_tag :
    (after (.commandSubmission 0x00#8) inStep).map (fun s => (s.mp.cmdsub, s.cu.table.length, s.cu.nextTag)) =
      some (.accepted 5, 4, 6) := by decide +kernel

theorem test_duplicate_submission_is_refused :
    (after (.commandSubmission 0x01#8) inStep).map (fun s => s.mp.cmdsub) = some .duplicate := by decide +kernel

theorem test_acknowledge_frees_a_done_record :
    (after (.commandAcknowledge 0x01#8) inStep).map (fun s => (s.mp.cmdack, s.cu.table.length)) = some (.acknowledged, 2) := by decide +kernel

theorem test_staging_pointer_wraps :
    (after (.stagingWrite .config 0x55#8) { staged none with mp := { (staged none).mp with cfgPtr := 27 } }).map
      (fun s => (s.mp.cfgPtr, s.mp.cfgStaging.read 27)) = some (0, 0x55#8) := by decide +kernel

theorem test_ident_is_read : (after (.commandByteReceived 0x00#8) inStep).map (fun s => s.mp.readout) = some (some 0x5B#8) := by decide +kernel

/-- A read frame goes on by itself, each byte as it is shifted out: 0x04, then 0x05, and a window's pointer in place of the address. -/
theorem test_read_frame_goes_on :
    (after (.commandByteReceived 0xFF#8) (framed false 0x04#7 inStep)).map (fun s => (s.mp.frame, s.mp.readout)) =
      some (some ⟨false, 0x05#7⟩, some 0x00#8) ∧
    (after (.commandByteReceived 0xFF#8) (framed false 0x0A#7 inStep)).map (fun s => (s.mp.frame, s.mp.cfgPtr, s.mp.readout)) =
      some (some ⟨false, 0x0A#7⟩, 1, some 0x10#8) := by decide +kernel

/-- Eight more bits of a write frame are its register's write, and a read frame takes none. -/
theorem test_write_frame_writes :
    (after (.commandByteReceived 0x3F#8) (framed true 0x05#7 inStep)).map (fun s => (s.mp.ien, s.mp.frame)) = some (0x3F#6, some ⟨true, 0x06#7⟩) ∧
    after (.ienWrite 0x3F#8) (framed false 0x05#7 inStep) = some (framed false 0x05#7 inStep) := by decide +kernel

/-- The rest of a frame that a full reset cut short is not served after the release, and the next frame is. -/
theorem test_frame_cut_by_a_full_reset :
    (after .fullReset (framed true 0x05#7 inStep)).map (fun s => (s.mp.frame, s.mp.deaf)) = some (none, true) ∧
    after (.ienWrite 0x3F#8) (deafened inStep) = some (deafened inStep) ∧
    (after .transactionEnd (deafened inStep)).map (fun s => s.mp.deaf) = some false := by decide +kernel

/-- A group is copied at its first byte, and its later bytes come from the copy. -/
theorem test_group_copy :
    (after (.commandByteReceived 0x50#8) inStep).map (fun s => (s.mp.capture, s.mp.readout)) =
      some (some (.cmdtab, inStep.cmdtab), some 0x93#8) ∧
    (after (.commandByteReceived 0x00#8) { framed false 0x50#7 inStep with mp :=
      { (framed false 0x50#7 inStep).mp with capture := some (.cmdtab, [1#8, 2#8]) } }).map (fun s => s.mp.readout) = some (some 2#8) := by
  decide +kernel

theorem test_snapshot_outside_the_group_is_at_once :
    (after .snap (station .isolated)).map (fun s => (s.mp.snapState, s.mp.snapByte)) = some (.ready, 0x85#8) := by decide +kernel

theorem test_line_fault_waits_for_its_holdoff :
    (after (.lineInputChange 0 true false) inStep).map (fun s => s.filter 0) = some ⟨.clear, some (.failed, ms 100)⟩ := by decide +kernel

/-! ## Hypotheses that can be met

Each theorem gives, for the statement of its name, a state and operands that meet the hypotheses of each clause together. -/

/-- `c` runs from some state that satisfies `P`. -/
def Met (P : State → Prop) : Prop := ∃ s, P s

theorem test_meets_StepRunsTheFrontCommand :
    Met (fun s => s.pending = [.snap, .hold]) ∧ Met (fun s => s.pending = []) :=
  ⟨⟨{ inStep with pending := [.snap, .hold] }, rfl⟩, ⟨inStep, rfl⟩⟩

theorem test_meets_ResetStateHoldsTheResetValues : Met (fun s => s.vbi.outgoing = State.reset.vbi.outgoing ∧ s.participation = .inStep) :=
  ⟨{ inStep with vbi := State.reset.vbi }, rfl, rfl⟩

theorem test_meets_FullResetAndItsRelease :
    Met (fun s => s.participation = .reset ∧ s.cm = Cm.reset ∧ s.sl.config = none ∧ rawLevel s.pins.sf[(0 : Fin 4)] s.pins.sd[(0 : Fin 4)] = .failed) ∧
    Met (fun s => s.participation ≠ .reset) :=
  ⟨⟨{ State.reset with pins := { Pins.quiet with sf := #v[true, false, false, false] } }, by decide +kernel⟩, ⟨inStep, by decide⟩⟩

theorem test_meets_PortIsDeafInReset :
    (portCommand (.ienWrite 0x3F#8) = true ∧ State.reset.participation = .reset) ∧
    ((deafened inStep).participation ≠ .reset ∧ (deafened inStep).mp.deaf = true) ∧
    (access (.ienWrite 0x3F#8) = some (true, 0x05#7) ∧ (framed false 0x05#7 inStep).mp.frame = some ⟨false, 0x05#7⟩ ∧
      (framed true 0x04#7 inStep).mp.frame = some ⟨true, 0x04#7⟩) ∧
    addressAfter 0x0E#7 ≠ groupAddress .pstat := by decide +kernel

/-- LOADING with the read at `p`. -/
def loading (p : ReadPhase) : State := { bare .loading with sl := { State.reset.sl with loadState := .reading, phase := p } }

theorem test_meets_AddressPhaseOfTheRead :
    (loading (.settling 10000)).sl.phase = .settling 10000 ∧ (loading (.pausing 1 7)).sl.phase = .pausing 1 7 ∧
    ((loading (.addressing 1)).sl.phase = .addressing 1 ∧
      ∃ p : AddressPhase, p.sdaHighAfter = 9 ∧ p.ackWrite = true ∧ p.ackOffsetHigh = true ∧ p.ackOffsetLow = true ∧ p.ackRead = true) ∧
    (∃ p : AddressPhase, p.sdaHighAfter = 10) ∧
    (∀ p ∈ [(⟨9, false, true, true, true⟩ : AddressPhase), ⟨0, true, false, true, true⟩, ⟨0, true, true, false, true⟩, ⟨0, true, true, true, false⟩],
      p.sdaHighAfter ≤ 9 ∧ (p.ackWrite = false ∨ p.ackOffsetHigh = false ∨ p.ackOffsetLow = false ∨ p.ackRead = false)) ∧
    (2 < 3 ∧ (loading (.addressing 2)).sl.phase = .addressing 2) ∧
    (3 ≤ 3 ∧ (loading (.addressing 3)).sl.phase = .addressing 3) ∧ (loading .receiving).sl.phase = .receiving ∧
    ((∀ due, (loading .ended).sl.phase ≠ .settling due) ∧ (∀ n due, (loading .ended).sl.phase ≠ .pausing n due) ∧
      (∀ n, (loading .ended).sl.phase ≠ .addressing n) ∧ (loading .ended).sl.phase ≠ .receiving) :=
  ⟨rfl, rfl, ⟨rfl, ⟨9, true, true, true, true⟩, by decide⟩, ⟨⟨10, true, true, true, true⟩, rfl⟩, by decide, ⟨by decide, rfl⟩,
    ⟨by decide, rfl⟩, rfl,
    by refine ⟨?_, ?_, ?_, ?_⟩ <;> intros <;> simp [loading]⟩

/-- A state receiving `l`, and the byte `b` that completes `m`. -/
abbrev Completes (l : List Byte) (b : Byte) (m : List Byte) : Prop := (receiving l).sl.phase = .receiving ∧ (receiving l).sl.image ++ [b] = m

theorem test_meets_ImageBytesUntilTheReadEnds :
    Completes (shortBody.take 29) 0xF9#8 (shortBody ++ [0xF9#8]) ∧ (shortBody ++ [0xF9#8]).length < 31 ∧
    (byteAt (fullBody.take 66) 0 = 0xC3#8 ∧ (fullBody.take 66).length < 67) ∧
    (67 ≤ (fullBody ++ [0xEB#8]).length ∧ (fullBody ++ [0xEB#8]).length < 69 + 8 * 3) ∧
    (byteAt [0x00#8] 0 ≠ 0x3C#8 ∧ byteAt [0x00#8] 0 ≠ 0xC3#8) ∧
    (let l := fullBody.take 65 ++ [0x01#8, 0x01#8]
     67 ≤ l.length ∧ 256 < 256 * (byteAt l 65).toNat + (byteAt l 66).toNat) ∧
    ((shortBody ++ crcBytes shortBody).length = 31 ∧ blockValid 2 ((shortBody.drop 1).take 28) = true ∧
      crc16 shortBody = 0xF970#16 ∧ crcBytes shortBody = [0xF9#8, 0x70#8]) ∧
    ((fullBody ++ [0xEB#8, 0xEF#8]).length = 69 + 8 * 3 ∧ crc16 fullBody = 0xEBEF#16 ∧
      stepsValid ((fullBody.drop 29).take 36) 3 ((List.range 3).map fun i => stepRecordAt (byteAt fullBody) (67 + 8 * i)) = true) ∧
    (let l := 0x3C#8 :: List.replicate 28 0x00#8
     blockValid 2 ((l.drop 1).take 28) = false ∧ crcBytes l ≠ []) :=
  ⟨by decide +kernel, by decide +kernel, by decide +kernel, by decide +kernel, by decide +kernel, by decide +kernel, by decide +kernel,
    ⟨by decide +kernel, test_full_image_crc, by decide +kernel⟩, by decide +kernel⟩

theorem test_meets_FreezePutsTheConfigurationInForce :
    Met (fun s => s.vbi.receiver = .off ∧ s.participation.timed = false ∧ s.ae.engine = .idle ∧ conf.directory = defaultDirectory ∧
      conf.steps = defaultSteps) ∧
    Met (fun s => s.vbi.receiver = .off ∧ s.participation.timed = false ∧ s.ae.engine = .stopped) ∧
    Met (fun s => s.vbi.receiver = .off ∧ s.participation.timed = false ∧ s.ae.engine = .held ∧ s.ae.queue.length < 4) :=
  ⟨⟨staged none, by decide +kernel⟩, ⟨withEngine .stopped (staged none), by decide +kernel⟩, ⟨withEngine .held (staged none), by decide +kernel⟩⟩

/-- The directory, count and records of the built-in steps, as staged bytes. -/
def stepBytes : List Byte := defaultDirectory ++ [0x00#8, 0x03#8] ++ defaultSteps.flatMap StepRecord.bytes

theorem test_meets_StartChecksTheStaging :
    (Taken 0x01#7 (staged none) ∧ (staged none).participation = .unconfigured ∧ blockValid 2 ((staged none).mp.cfgStaging.bytes 0 28) = true ∧ (staged none).mp.stepsStaged = false) ∧
    (let s := staged (some stepBytes)
     Taken 0x01#7 s ∧ blockValid 2 (s.mp.cfgStaging.bytes 0 28) = true ∧ s.mp.stepsStaged = true ∧
       stepsValid (s.mp.stepStaging.bytes 0 36) 3 ((List.range 3).map fun i => stepRecordAt s.mp.stepStaging.read (38 + 8 * i)) = true) ∧
    (let s := staged (some [0x05#8])
     Taken 0x01#7 s ∧ s.mp.stepsStaged = true ∧ stepsValid (s.mp.stepStaging.bytes 0 36) 0 [] = false) ∧
    (Taken 0x01#7 (bare .unconfigured) ∧ blockValid 2 ((bare .unconfigured).mp.cfgStaging.bytes 0 28) = false) := by
  refine ⟨?_, ?_, ?_, ?_⟩ <;> decide +kernel

theorem test_meets_RejoinAndRefusedControls :
    (∀ p ∈ [Participation.isolated, .conflict], Taken 0x01#7 (station p) ∧ (station p).vbi.receiver ≠ .off) ∧
    (Taken 0x01#7 inStep ∧ inStep.mp.snapState = .idle ∧ inStep.ae.engine = .idle) ∧ Taken 0x01#7 (bare .loading) ∧
    (∀ e ∈ [Engine.held, .running, .faulted], Taken 0x01#7 (withEngine e inStep)) ∧ 0x09#8 < 0x0A#8 := by decide +kernel

/-- The station with its snapshot unit ARMED. -/
def armed (s : State) : State := { s with mp := { s.mp with snapState := .armed } }

theorem test_meets_SoftReset :
    (∀ s ∈ [inStep, armed inStep, station .learning, station .listening, station .isolated, station .conflict, staged none],
      Taken 0x01#7 s ∧ s.participation ≠ .loading ∧ Started s ∧ SnapshotUnitShaped s) ∧
    (armed inStep).mp.snapState = .armed ∧ inStep.mp.snapState ≠ .armed ∧ (waitingAt .none 0 inStep).ae.engine = .running := by
  refine ⟨?_, by decide, by decide, by decide⟩
  decide +kernel

theorem test_meets_HoldByEngineState :
    (∀ e ∈ [Engine.idle, .running, .holding, .held, .stopped, .faulted],
      Taken 0x01#7 (withEngine e inStep) ∧ (withEngine e inStep).ae.engine = e ∧ (withEngine e inStep).ae.queue.length < 4) ∧
    EngineAccounts (withEngine .held inStep) := by decide +kernel

/-- HELD with directive `d` queued. -/
def heldWith (d : Directive) (s : State) : State := { s with ae := { s.ae with engine := .held, queue := [d], debt := 1 } }

theorem test_meets_ResumeByEngineState :
    (∀ e ∈ [Engine.idle, .running, .holding, .held, .stopped, .faulted],
      Taken 0x01#7 (withEngine e inStep) ∧ (withEngine e inStep).ae.engine = e) ∧
    ((withEngine .held inStep).ae.queue = [] ∧ (withEngine .held inStep).cm.monitorActive = (withEngine .held inStep).monitorCalled) ∧
    (Taken 0x01#7 (heldWith .yield (slow .inStep)) ∧ (heldWith .yield (slow .inStep)).dirEntry .yield = some 0 ∧
      ((heldWith .yield (slow .inStep)).steps[0]?.bind StepRecord.kind) = some .dwell) ∧
    (heldWith .reclaim (slow .inStep)).dirEntry .reclaim = none := by decide +kernel

theorem test_meets_StopTakesTheEngineOut :
    Taken 0x01#7 inStep ∧ inStep.ae.engine ≠ .faulted ∧ inStep.cm.monitorActive = false := by decide +kernel

theorem test_meets_ClearFaultByEngineState :
    (∀ s ∈ [inStep, staged none], Taken 0x01#7 (withEngine .faulted s) ∧ (withEngine .faulted s).ae.engine = .faulted) ∧
    (staged none).participation = .unconfigured ∧ (Taken 0x01#7 inStep ∧ inStep.ae.engine ≠ .faulted) := by decide +kernel

/-- The actuated state UNKNOWN. -/
def unknown (s : State) : State := { s with ae := { s.ae with actuated := .unknown } }

/-- The station with a YIELD in progress and `l` queued. -/
def busyWith (l : List Directive) (s : State) : State :=
  { s with ae := { s.ae with engine := .running, running := some .yield, queue := l, debt := l.length + 1 } }

/-- The station with the START of its freeze still in progress. -/
def starting (s : State) : State := { s with ae := { s.ae with engine := .running, running := some .start, debt := 1 } }

theorem test_meets_ReconciliationByParticipation :
    (∀ p ∈ [Participation.reset, .loading, .unconfigured, .listening, .learning, .inStep, .isolated, .conflict],
      EngineAccounts (unknown (station p)) ∧ (unknown (station p)).ae.engine = .idle ∧ (unknown (station p)).ae.actuated = .unknown ∧
      (EngineAccounts (busyWith [.reclaim] (station p)) ∧ (busyWith [.reclaim] (station p)).ae.queue = [] ++ [.reclaim]) ∧
      (EngineAccounts (busyWith [] (station p)) ∧ (busyWith [] (station p)).ae.running = some .yield) ∧
      EngineAccounts (heldWith .yield (station p))) ∧
    ((station .learning).ae.engine = .idle ∧ (station .learning).ae.actuated ≠ .unknown) ∧
    (∀ p ∈ [Participation.listening, .isolated, .conflict], (station p).ownRole = .primary ∧ Directive.reclaim.target = .carrying ∧
      (busyWith [.reclaim] (station p)).ae.outcomeState = .carrying ∧ (busyWith [] (station p)).ae.outcomeState ≠ .carrying) := by decide +kernel

theorem test_meets_ReconciliationByParticipation_starting :
    let s := starting (station .inStep)
    s.participation = .inStep ∧ s.ae.engine = .running ∧ s.ae.running = some .start ∧ s.ae.queue = [] ∧ s.ownEntry.role = .primary ∧
      s.ownEntry.assignment = .none := by decide +kernel

/-- The station with the receiver in state `r`, the line low as given, and the driver `d`. -/
def lineAt (r : Receiver) (low : Bool) (d : Driver) : State :=
  { inStep with vbi := { inStep.vbi with receiver := r, lineLow := low, driver := d, epochTimer := some 9 } }

theorem test_meets_LineStretchesAndReleases :
    (∀ r : Receiver, ∀ low : Bool, (lineAt r low .released).vbi.lineLow = low ∧ (lineAt r low .released).vbi.receiver = r) ∧
    (lineAt .inMarker true (.marker 4 true)).vbi.driver = .marker 4 true ∧ (lineAt .inCells true (.cell 4)).vbi.driver = .cell 4 ∧
    ((∀ since heard, (lineAt .inCells true (.cell 4)).vbi.driver ≠ .marker since heard) ∧
      ∀ since, (lineAt .inMarker true (.marker 4 true)).vbi.driver ≠ .cell since) :=
  ⟨fun _ _ => ⟨rfl, rfl⟩, rfl, rfl, by constructor <;> intros <;> simp [lineAt]⟩

theorem test_meets_MarkerStartLatchesTheRecord :
    ((lineAt .seeking true .released).vbi.lineLow = true ∧ (lineAt .seeking true .released).vbi.receiver = .seeking) ∧
    ((lineAt .resting true (.marker 4 false)).vbi.lineLow = true ∧ (lineAt .resting true (.marker 4 false)).vbi.receiver = .resting ∧
      (lineAt .resting true (.marker 4 false)).vbi.driver = .marker 4 false) ∧
    ((lineAt .inCells true .released).vbi.lineLow = true ∧ (lineAt .inCells true .released).vbi.receiver = .inCells) ∧
    (lineAt .blocked true .released).vbi.receiver = .blocked ∧ (lineAt .seeking false .released).vbi.lineLow = false := by decide

theorem test_meets_EpochTimerAndLostMarkers :
    (∀ r : Receiver, (lineAt r true .released).vbi.epochTimer = some 9 ∧ (lineAt r true .released).vbi.receiver = r) ∧
    (station .isolated).vbi.epochTimer = none ∧ (lineAt .resting true (.marker 4 false)).vbi.driver = .marker 4 false ∧
    (∀ since, (lineAt .resting true (.marker 4 true)).vbi.driver ≠ .marker since false) :=
  ⟨fun _ => ⟨rfl, rfl⟩, rfl, rfl, by intros; simp [lineAt]⟩

/-- The station in IN_CELLS after `read` cells and `begun` begun, with a latched record that calls for every kind of cell. -/
def inCells (read begun : Nat) : State :=
  { inStep with vbi :=
      { inStep.vbi with
          receiver := .inCells
          outgoing := { participation := .inStep, condition := .failed, owesWork := true, engineOut := true, request := some 0x12#7,
                        digest := 0x5A#8, mirror := 0x0#29 }
          epoch := { cells := List.replicate read false, wrote := List.replicate begun false, contention := .contending,
                     driveFault := false, faults := {} } } }

theorem read_inCells (r b : Nat) : (inCells r b).vbi.epoch.cells.length = r := List.length_replicate

theorem begun_inCells (r b : Nat) : (inCells r b).vbi.epoch.wrote.length = b := List.length_replicate

theorem test_meets_CellsAreWrittenFromTheLatchedRecord :
    (∀ k ∈ [0, 2, 18, 50, 66, 79, 80, 86, 87, 94, 95, 102, 103, 131, 132, 160, 161, 167],
      (inCells k k).vbi.receiver = .inCells ∧ (inCells k k).vbi.epoch.cells.length = k ∧ (inCells k k).vbi.epoch.wrote.length = k ∧ k < 168) ∧
    168 ≤ (inCells 168 168).vbi.epoch.cells.length := by
  refine ⟨?_, (read_inCells 168 168).ge⟩
  intro k hk
  refine ⟨rfl, read_inCells k k, begun_inCells k k, ?_⟩
  revert k
  decide

theorem test_meets_CellsAreReadAndTheRecordCloses :
    (∀ k ∈ [0, 86, 102, 160, 167], (inCells k (k + 1)).vbi.receiver = .inCells ∧ (inCells k (k + 1)).vbi.epoch.cells.length = k ∧
      (inCells k (k + 1)).vbi.epoch.wrote.length = k + 1 ∧ (inCells k (k + 1)).vbi.epoch.wrote[k]? = some false) ∧
    (inCells 4 4).vbi.epoch.wrote.length ≠ (inCells 4 4).vbi.epoch.cells.length + 1 ∧
    (inCells 168 168).vbi.epoch.cells.length = 168 ∧ (inCells 167 168).vbi.epoch.cells.length ≠ 168 := by
  refine ⟨?_, by rw [begun_inCells, read_inCells]; decide, read_inCells _ _, by rw [read_inCells]; decide⟩
  intro k _
  exact ⟨rfl, read_inCells _ _, begun_inCells _ _, by simp [inCells]⟩

theorem test_meets_GrantIsReadFromTheRequestCells : FramingFaults.any {} = false ∧ FramingFaults.any { quiet := true } = true := ⟨rfl, rfl⟩

theorem test_meets_VerdictsClassThePairs :
    [(true, false)] ≠ [] ∧ digestVerdict (dominant [87, 88, 89, 90, 91, 92, 93, 94]) = .consistent ∧ digestVerdict (dominant []) ≠ .consistent ∧
    mirrorVerdict (dominant ((List.range 29).map fun i => 103 + i)) = .consistent ∧ mirrorVerdict (dominant []) ≠ .consistent := by decide +kernel

theorem test_meets_NarrationReadsBack :
    (let cells := (List.range 168).map fun k => (Outgoing.emptied).dominantAt 2 .none k
     ∀ k, 87 ≤ k → k < 161 → cellAt cells k = Outgoing.emptied.dominantAt 2 .none k) ∧
    Outgoing.emptied.mirror = mirrorBits 15 0x1FFFFFF#25 ∧ (seen 2).runCount < 16 ∧ (seen 2).waitRank < 16 ∧
    (let g := covers [(1, .active, 9, .degrade, .degraded), (2, .taking, 8, .fail, .failed)]
     let rival := { seen 5 with assignment := .taking, partner := some 9, cls := .fail }
     let lockedOut := { seen 9 with locked := true }
     let waits := { seen 5 with cls := .fail, waitRank := 1 }
     (∀ d ∈ [rival, waits], (g.entry 5).slice ≠ d.slice ∧ Entry.ofSlice .primary d.slice = some d ∧ sliceOk area 3 5 d = true) ∧
     (Entry.ofSlice .backup lockedOut.slice = some lockedOut ∧ sliceOk area 3 9 lockedOut = true) ∧
     sliceOk area 3 5 { waits with waitRank := 4 } = false ∧
     (g.setEntry 5 rival).holds 1 9 = true ∧ (g.setEntry 5 rival).holds 5 9 = true ∧
     (g.setEntry 9 lockedOut).holds 1 9 = true ∧ ((g.setEntry 9 lockedOut).entry 9).locked = true ∧
     ¬∃ b, (g.holds 5 b = true ∧ g.holds 2 b = true) ∨ (g.drops 5 b = true ∧ g.drops 2 b = true)) ∧
    ((((shelf.setCls 2 .fail).arrive 2).setCls 5 .fail).waitList.Pairwise fun p q =>
      ((((shelf.setCls 2 .fail).arrive 2).setCls 5 .fail).entry p).cls.code ≤ ((((shelf.setCls 2 .fail).arrive 2).setCls 5 .fail).entry q).cls.code) := by
  refine ⟨?_, by decide, by decide, by decide, by decide +kernel, by decide +kernel⟩
  intro cells k _ h
  have h' : k < 168 := by omega
  simp [cells, cellAt, List.getD, h']

/-- A station's counters and history set. -/
def counting (clean verify silent : Nat) (history : List Bool) (s : State) : State :=
  { s with pc := { s.pc with cleanCount := clean, verifyCount := verify, noNarratorCount := silent, syncHistory := history } }

/-- A faulted record. -/
def faulty : EpochRecord := recordOf (dominant []) [] { quiet := true } false .none Outgoing.emptied

/-- The record of an epoch narrated as station `s` would. -/
def narrated (s : State) : EpochRecord :=
  let o := { s.outgoingNow with participation := .inStep }
  recordOf ((List.range 168).map fun k => decide (87 ≤ k) && o.dominantAt 2 .none k) [] {} false .none o

/-- The conditions of the clauses for LISTENING. -/
theorem test_meets_DeliveredRecordMovesParticipation_listening :
    ((reading [1]).driveFault = false ∧ (reading [1]).foreign 2 = false ∧ (reading [1]).faults.any = false ∧
      cellAt (reading [1]).cells 2 = false ∧ (reading [1]).digestVerdict = .noNarrator) ∧
    (counting 6 0 0 [] (station .listening)).pc.cleanCount + 1 < 8 ∧ 8 ≤ (counting 7 0 0 [] (station .listening)).pc.cleanCount + 1 ∧
    ((narrated (station .listening)).digestVerdict = .consistent ∧ (narrated (station .listening)).digestTrue = conf.digest) ∧
    ((reading ((List.range 8).map fun i => 87 + i)).digestVerdict = .consistent ∧
      (reading ((List.range 8).map fun i => 87 + i)).digestTrue ≠ conf.digest) ∧
    faulty.faults.any = true ∧ (reading [2]).foreign 2 = true ∧ { reading [1] with driveFault := true }.driveFault = true := by
  refine ⟨?_, ?_, ?_, ?_, ?_, ?_, ?_, ?_⟩ <;> decide +kernel

/-- The conditions of the clauses for LEARNING and IN_STEP. -/
theorem test_meets_DeliveredRecordMovesParticipation_group :
    ((narrated (station .learning)).mirrorValue = some (0, ((station .learning).gtu.entry 0).slice) ∧ (station .learning).gtu.sliceIndex = 0 ∧
      (narrated (station .learning)).mirrorVerdict = .consistent ∧ (narrated (station .learning)).foreign 2 = false) ∧
    ((counting 0 14 0 [] (station .learning)).pc.verifyCount + 1 < 16 ∧ 16 ≤ (counting 0 15 0 [] (station .learning)).pc.verifyCount + 1) ∧
    ((reading [1]).mirrorVerdict = .noNarrator ∧ (counting 0 0 14 [] (station .learning)).pc.noNarratorCount + 1 < 16 ∧
      16 ≤ (counting 0 0 15 [] (station .learning)).pc.noNarratorCount + 1) ∧
    ((reading ((List.range 58).map fun i => 103 + i)).mirrorVerdict = .disagreement) ∧
    ((narrated inStep).own.participation = .inStep ∧ (narrated inStep).digestTrue = (narrated inStep).own.digest ∧
      (narrated inStep).mirrorTrue = (narrated inStep).own.mirror) ∧
    ({ narrated inStep with mirrorTrue := 0x1FFFFFFF#29 }.mirrorTrue ≠ (narrated inStep).own.mirror ∧
      { narrated inStep with digestTrue := 0#8 }.digestTrue ≠ (narrated inStep).own.digest) ∧
    (3 ≤ ((true :: [true, true, false]).take 8 |>.filter id).length ∧ ((false :: [true, true, false]).take 8 |>.filter id).length < 3) := by
  refine ⟨?_, ?_, ?_, ?_, ?_, ?_, ?_⟩ <;> decide +kernel

theorem test_meets_LeavingTheGroup :
    (inStep.participation.inGroup = true ∧ inStep.ownEntry.cls = .waitRestore ∧ inStep.vbi.receiver ≠ .off ∧ (∃ d ∈ inStep.cu.table, d.state ≠ .done)) ∧
    (station .learning).ownEntry.cls ≠ .waitRestore ∧ (armed inStep).mp.snapState = .armed ∧ (station .listening).participation.inGroup = false := by
  decide +kernel

/-- What the clauses of a delivery in LISTENING, LEARNING or IN_STEP assume of the record, the moves apart aside. -/
abbrev Stays (r : EpochRecord) (s : State) : Prop :=
  r.driveFault = false ∧ r.foreign s.sl.ownPos = false ∧ ((r.faults.any :: s.pc.syncHistory).take 8 |>.filter id).length < 3

/-- The conditions of the clauses for LISTENING and for the grant stage. -/
theorem test_meets_AppliedRecordRunsTheStagesInOrder_listening :
    (let s := station .listening
     (∀ r ∈ [faulty, recordOf (dominant [2]) (dominant [2]) {} false .none Outgoing.emptied], Stays r s ∧ (r.faults.any = true ∨ cellAt r.cells 2 = true)) ∧
     ∀ r ∈ [reading [1], narrated s, reading ((List.range 8).map fun i => 87 + i)], Stays r s ∧ r.faults.any = false ∧ cellAt r.cells 2 = false) ∧
    ((counting 6 0 0 [] (station .listening)).pc.cleanCount + 1 < 8 ∧ 8 ≤ (counting 7 0 0 [] (station .listening)).pc.cleanCount + 1) ∧
    (reading present).grant = none ∧ (reading (present ++ [81, 83, 84, 86])).grant = some (.restore, 2) := by
  refine ⟨?_, ?_, ?_, ?_⟩ <;> decide +kernel

theorem test_meets_AppliedRecordRunsTheStagesInOrder :
    (Stays (narrated inStep) inStep ∧ (narrated inStep).faults.any = false ∧ (narrated inStep).digestTrue = (narrated inStep).own.digest ∧
      (narrated inStep).mirrorTrue = (narrated inStep).own.mirror ∧ (reading [1]).own.participation ≠ .inStep) ∧
    (Stays (narrated inStep) (station .inStep) ∧
      { narrated inStep with mirrorTrue := 0x1FFFFFFF#29 }.mirrorTrue ≠ (narrated inStep).own.mirror) ∧
    (Stays (reading [1]) (station .learning) ∧ (station .learning).sl.config = some conf ∧ (station .learning).pc.verifyCount + 1 < 16 ∧
      (station .learning).pc.noNarratorCount + 1 < 16) ∧
    ((reading [1]).digestVerdict ≠ .consistent ∧ (reading [1]).mirrorVerdict = .noNarrator ∧
      (counting 0 0 15 [] (station .learning)).pc.noNarratorCount = 15) ∧
    ((narrated (station .learning)).digestVerdict = .consistent ∧ (narrated (station .learning)).digestTrue = conf.digest ∧
      (narrated (station .learning)).mirrorVerdict = .consistent ∧ (narrated (station .learning)).mirrorValue ≠ none) ∧
    Stays faulty inStep ∧ faulty.faults.any = true ∧ (armed inStep).mp.snapState = .armed := by
  refine ⟨?_, ?_, ?_, ?_, ?_, ?_, ?_, ?_⟩ <;> decide +kernel

/-- The table's relations and its wait list are lawful. -/
def lawfulTable (g : Gtu) : Bool := decide (CoversLawful g) && decide (WaitListLawful g)

/-- The shelf with entry 2 at a presence and run count. -/
def tracked (p : Presence) (k : Nat) : Gtu := shelf.setEntry 2 { seen 2 with presence := p, runCount := k }

/-- Primary 2 waits at class FAIL. -/
def oneWaiting : Gtu := ((shelf.setCls 2 .fail).arrive 2).settle

/-- A lawful table with every assignment: 1 DROPPING from 8, 2 YIELDING to 8, and 5 with the assignment and class given, to 9. -/
def busyShelf (a : Assignment) (c : Cls) (x : Condition) : Gtu :=
  covers [(1, .dropping, 8, .degrade, .degraded), (2, .yielding, 8, .fail, .failed), (5, a, 9, c, x)]

/-- A table whose position `n` is one record from being lost. -/
def fading (n : Pos) (g : Gtu) : Gtu := (g.setEntry n { g.entry n with runCount := 5 }).settle

theorem test_meets_PresenceFaultAndConditionAreRead_of_entries :
    (∀ x ∈ [(Presence.present, 4), (.present, 5), (.lost, 0), (.joining, 1), (.joining, 2)],
      ((tracked x.1 x.2).entry 2).role ≠ .empty ∧ ((tracked x.1 x.2).entry 2).presence = x.1 ∧ ((tracked x.1 x.2).entry 2).presence ≠ .absent) ∧
    (shelf.entry 0).role = .empty ∧ (byteAt area 23).toNat = 6 := by decide +kernel

theorem test_meets_PresenceFaultAndConditionAreRead_lawful_yielding : lawfulTable (busyShelf .yielding .fail .failed) = true := by decide +kernel

theorem test_meets_PresenceFaultAndConditionAreRead_lawful_active : lawfulTable (busyShelf .active .manual .clear) = true := by decide +kernel

theorem test_meets_PresenceFaultAndConditionAreRead_lawful_fading : lawfulTable (fading 9 (busyShelf .active .fail .failed)) = true := by
  decide +kernel

theorem test_meets_PresenceFaultAndConditionAreRead_lawful_waiting : lawfulTable oneWaiting = true := by decide +kernel

/-- A backup or a primary that is lost, faulted or FAILED in a record, beside each assignment. -/
theorem test_meets_PresenceFaultAndConditionAreRead_of_covers :
    (∀ a ∈ [Assignment.yielding, .taking, .active, .dropping], ((busyShelf a .fail .failed).entry 5).assignment = a) ∧
    (∀ q ∈ [(1 : Pos), 2], ((busyShelf .active .fail .failed).entry q).partner ≠ ((busyShelf .active .fail .failed).entry 5).partner) ∧
    (∀ n ∈ [(5 : Pos), 9],
      (((fading n (busyShelf .active .fail .failed)).presenceStage area (reading [])).entry n).presence = .lost) ∧
    (((busyShelf .yielding .fail .failed).faultStage (reading [73])).entry 9).faulted = true ∧
    (((busyShelf .active .fail .failed).conditionStage area (reading (25 :: present))).entry 9).condition = .failed ∧
    (2 ∈ oneWaiting.waitList ∧ ((oneWaiting.conditionStage area (reading present)).entry 2).condition = .clear) := by
  refine ⟨?_, ?_, ?_, ?_, ?_, ?_⟩ <;> decide +kernel

/-- Primary 5 in DROPPING of backup 8 beside primary 1 that holds it ACTIVE. -/
def beside : Gtu := covers [(5, .dropping, 8, .fail, .failed), (1, .active, 8, .manual, .clear)]

/-- The other primary leaves ACTIVE for DROPPING by its own loss, by the backup's fault, or by the backup's condition, or nothing happens to it. -/
theorem test_meets_PresenceFaultAndConditionAreRead_displaced :
    lawfulTable beside = true ∧ lawfulTable (fading 1 beside) = true ∧
    (((fading 1 beside).presenceStage area (reading [5, 8])).entry 1).presence = .lost ∧
    (((fading 1 beside).presenceStage area (reading present)).entry 1).presence = .present ∧
    ((beside.faultStage (reading [72])).entry 8).faulted = true ∧
    ((beside.conditionStage area (reading (24 :: present))).entry 8).condition = .failed ∧
    lawfulTable (covers [(5, .dropping, 8, .manual, .clear)]) = true := by
  refine ⟨?_, ?_, ?_, ?_, ?_, ?_, ?_⟩ <;> decide +kernel

/-- Primaries 1 and 2 of class FAIL, YIELDING to 8 and 9. -/
def twoYielding : Gtu := covers [(1, .yielding, 8, .fail, .failed), (2, .yielding, 9, .fail, .failed)]

/-- Two requeues of one class in one stage stand in ascending position order (R69): both primaries are faulted in one record. -/
theorem test_two_requeues_of_one_stage : (twoYielding.faultStage (reading (present ++ [65, 66]))).waitList = [1, 2] := by decide +kernel

/-- They stand in front of the rest of their class. -/
theorem test_two_requeues_with_a_waiting_one :
    ((((twoYielding.setCls 5 .fail).arrive 5).settle).faultStage (reading (present ++ [65, 66]))).waitList = [1, 2, 5] := by decide +kernel

/-- A DROPPING of a lost backup ends under R85 though another primary that held it is lost in the same record, before it in position order. -/
theorem test_a_dropping_outlives_its_rival_and_ends :
    let g := fading 1 (fading 8 (covers [(5, .dropping, 8, .fail, .failed), (1, .active, 8, .fail, .failed)]))
    let t := g.presenceStage area (reading [5])
    lawfulTable g = true ∧ (t.entry 1).presence = .lost ∧ (t.entry 8).presence = .lost ∧
      shows t [1, 5] = ([(.none, none, .none, 0), (.none, none, .fail, 1)], [5]) := by decide +kernel

/-- CLEAR is read of a PRESENT position whose F and D cells are recessive, seen or silent (R66). -/
theorem test_recessive_cells_read_clear :
    ∀ cells ∈ [present, [8]], (((covers [(2, .active, 8, .fail, .failed)]).conditionStage area (reading cells)).entry 2).condition = .clear := by
  decide +kernel

/-- Primary 2 enters IN_STEP with a long START in progress: the outcome state is RELEASED, and either nothing is asked (R166) or RECLAIM is queued behind
START, which runs on (R105, R148). -/
theorem test_start_in_progress_at_the_entry :
    let s := starting (station .inStep)
    s.ae.outcomeState = .released ∧ s.desired = .carrying ∧
      (Config.comparisonWaitsForStart = true → s.reconcile.ae = s.ae ∧ s.reconcile.gtu.requested = .released) ∧
      (Config.comparisonWaitsForStart = false →
        s.reconcile.ae = { s.ae with queue := [.reclaim], debt := 2 } ∧ s.reconcile.gtu.requested = .carrying) := by
  refine ⟨by decide +kernel, by decide +kernel, fun h => ?_, fun h => ?_⟩
  · have w : (starting (station .inStep)).realign.waitsForStart = true := by rw [State.waitsForStart, h]; decide +kernel
    have e : (starting (station .inStep)).reconcile = (starting (station .inStep)).realign := State.directiveStage_of_waits _ w
    rw [e]
    decide +kernel
  · have w : (starting (station .inStep)).realign.waitsForStart = false := by rw [State.waitsForStart, h]; decide +kernel
    have e := State.directiveStage_of_not_waits _ w
    rw [show (starting (station .inStep)).reconcile = (starting (station .inStep)).realign.directiveStage from rfl, e]
    decide +kernel

theorem test_meets_CoversEndByRevocationOrRelease :
    (∀ a ∈ [Assignment.yielding, .taking, .active, .dropping], ∀ c ∈ [Cls.force, .degrade, .manual, .hold],
      ((covers [(2, a, 8, c, .clear)]).entry 2).assignment = a ∧ ((covers [(2, a, 8, c, .clear)]).entry 2).cls = c ∧
      ((covers [(2, a, 8, c, .clear)]).entry 2).presence = .present ∧ ((covers [(2, a, 8, c, .clear)]).entry 2).locked = false) ∧
    ((shelf.setCls 2 .fail).arrive 2).waitList = [2] ∧ (shelf.entry 2).assignment = .none ∧ 2 ∉ shelf.waitList ∧
    (let g := covers [(1, .dropping, 8, .fail, .failed), (2, .active, 8, .fail, .failed)]
     g.drops 1 8 = true ∧ (g.entry 2).partner = some 8 ∧ (1 : Pos) ≠ 2 ∧ (g.entry 8).presence ≠ .lost) ∧
    (let g := (twoYielding.revoke 1).revoke 2
     g.waitList = [2, 1] ∧ g.waitList.Nodup ∧ (g.waitList.Pairwise fun p q => (g.entry p).cls.code ≤ (g.entry q).cls.code) ∧
       ∀ p ∈ [(1 : Pos), 2], (twoYielding.entry p).assignment ≠ .none) := by decide +kernel

theorem test_meets_SelectionTakesTheLeastUrgentBackup :
    shelf.choose area 2 .fail = some 8 ∧ shelf.candidate area 2 .fail 9 = true ∧ shelf.holder 9 = none ∧
    (let g := covers [(1, .active, 9, .degrade, .degraded), (5, .active, 8, .hold, .clear)]
     g.choose area 2 .fail = some 8 ∧ g.holder 8 = some 5 ∧ (5 : Pos) ≠ 2 ∧ ∀ b', g.candidate area 2 .fail b' = true → g.holder b' ≠ none) := by
  decide +kernel

/-- The shelf with entry `n` locked. -/
def lockedShelf (n : Pos) : Gtu := shelf.setEntry n { seen n with locked := true }

theorem test_meets_GrantsTakeEffectByTheirRequest :
    (shelf.entry 0).role = .empty ∧ ((lockedShelf 2).entry 2).locked = true ∧ (shelf.entry 2).locked = false ∧ (shelf.entry 8).role = .backup ∧
    (let g := (lockedShelf 2).setEntry 2 { seen 2 with locked := true, condition := .failed }
     (g.entry 2).role = .primary ∧ (g.entry 2).presence = .present ∧ (g.entry 2).condition ≠ .clear ∧ (g.entry 2).assignment = .none) ∧
    (let g := (lockedShelf 2).setEntry 2 { seen 2 with locked := true, condition := .failed, assignment := .dropping, partner := some 8, cls := .hold }
     (g.entry 2).assignment = .dropping ∧ (g.entry 2).cls = .hold) ∧
    ((tracked .lost 0).entry 2).presence ≠ .present ∧
    (shelf.choose area 2 .force = some 8 ∧ shelf.choose area 2 .manual = some 8 ∧ (shelf.entry 2).cls = .none) ∧
    (let g := covers [(1, .active, 9, .force, .clear), (5, .active, 8, .force, .clear)]
     g.choose area 2 .force = none ∧ g.choose area 2 .manual = none) ∧
    (((covers [(2, .active, 8, .hold, .clear)]).entry 2).cls = .hold ∧ ((covers [(2, .active, 8, .force, .failed)]).entry 2).condition ≠ .clear) ∧
    ((covers [(2, .active, 8, .waitRestore, .clear)]).entry 2).cls = .waitRestore := by decide +kernel

theorem test_meets_HandshakeFollowsTheBusyCells :
    (∀ a ∈ [Assignment.yielding, .taking, .active, .dropping],
      let g := covers [(2, a, 8, .fail, .failed)]
      (g.entry 2).role = .primary ∧ (g.entry 2).partner = some 8 ∧ (g.entry 2).assignment = a ∧ (g.entry 8).faulted = false) ∧
    (let g := covers [(1, .dropping, 8, .fail, .failed), (2, .yielding, 8, .fail, .failed)]
     g.drops 1 8 = true ∧ (g.entry 2).partner = some 8) ∧
    (shelf.entry 2).assignment ≠ ((covers [(2, .taking, 8, .fail, .failed)]).entry 2).assignment := by decide +kernel

/-- Primary 2 waits with both backups held at class FORCE. -/
def noneFree : Gtu := (((covers [(1, .active, 9, .force, .clear), (5, .active, 8, .force, .clear)]).setCls 2 .fail).arrive 2).settle

/-- Primaries 1 and 2 wait at class FAIL, and 1 is faulted. -/
def oneHeldUp : Gtu :=
  ((((shelf.setEntry 1 { seen 1 with faulted := true }).setCls 2 .fail).arrive 2).setCls 1 .fail |>.arrive 1).settle

theorem test_meets_ServiceSelectsInListOrder :
    (oneWaiting.waitList = [] ++ 2 :: [] ∧ oneWaiting.choose area 2 .fail = some 8) ∧
    (oneHeldUp.waitList.length = 2 ∧ (∀ b : Pos, oneHeldUp.candidate area 1 (oneHeldUp.entry 1).cls b = false) ∧
      oneHeldUp.choose area 2 (oneHeldUp.entry 2).cls = some 8) ∧
    ∀ p ∈ noneFree.waitList, ∀ b : Pos, noneFree.candidate area p (noneFree.entry p).cls b = false := by
  refine ⟨?_, ?_, ?_⟩ <;> decide +kernel

theorem test_meets_ServiceLeavesNoCandidateWaiting :
    (CoversLawful oneWaiting ∧ WaitListLawful oneWaiting ∧ (oneWaiting.serve area).waitList = []) ∧
    (CoversLawful noneFree ∧ WaitListLawful noneFree ∧ (noneFree.serve area).waitList = [2]) := by
  refine ⟨⟨?_, ?_, ?_⟩, ?_, ?_, ?_⟩ <;> decide +kernel

theorem test_meets_DirectivesBringTheRequestedStateToTheDesired :
    (inStep.ownEntry.role = .primary ∧ inStep.ownEntry.assignment ≠ .none ∧ inStep.gtu.requested = .yielded ∧ inStep.desired = .yielded) ∧
    ((station .inStep).ownEntry.role = .primary ∧ (station .inStep).ownEntry.assignment = .none ∧ (station .inStep).gtu.requested = .released ∧
      (station .inStep).desired = .carrying) ∧
    (let s : State := { inStep with sl := { inStep.sl with ownPos := 8 }, gtu := { inStep.gtu with requested := .taken 1 } }
     s.ownEntry.role = .backup ∧ s.ownEntry.partner = some 2 ∧ s.ownEntry.assignment = .active ∧ s.desired = .taken 2 ∧ s.gtu.requested = .taken 1) ∧
    (let s : State := { inStep with sl := { inStep.sl with ownPos := 9 }, gtu := { inStep.gtu with requested := .taken 1 } }
     s.ownEntry.role = .backup ∧ s.ownEntry.assignment = .none ∧ s.desired = .idle) ∧
    ((starting (station .inStep)).ae.running = some .start ∧ .start ∈ (heldWith .start (station .inStep)).ae.queue ∧
      ¬(inStep.ae.running = some .start ∨ .start ∈ inStep.ae.queue)) := by decide +kernel

theorem test_meets_OffersByEngineState :
    (∀ e : Engine, (withEngine e inStep).ae.engine = e) ∧
    ((heldWith .yield inStep).ae.queue.getLast? = some .yield ∧ Directive.reclaim.inverse = some .yield) ∧
    ((heldWith .yield inStep).ae.queue.length < 4 ∧ ∀ v, Directive.yield.inverse = some v → (heldWith .yield inStep).ae.queue.getLast? ≠ some v) ∧
    4 ≤ [Directive.yield, .reclaim, .yield, .reclaim].length :=
  ⟨fun _ => rfl, by decide, ⟨by decide, by rintro v hv; cases hv; decide⟩, by decide⟩

theorem test_meets_EnteringARecordActsByKind :
    (∃ r, defaultSteps[0]? = some r ∧ r.kind = some .drive) ∧ (∃ r, defaultSteps[1]? = some r ∧ r.kind = some .release) ∧
    (∃ r, slowSteps[0]? = some r ∧ r.kind = some .dwell) ∧
    (∃ r, slowSteps[1]? = some r ∧ r.kind = some .await ∧ r.satisfied 0x01#8 = true ∧ r.satisfied 0x00#8 = false) :=
  ⟨⟨defaultSteps[0], by decide⟩, ⟨defaultSteps[1], by decide⟩, ⟨slowSteps[0], by decide⟩, ⟨slowSteps[1], by decide⟩⟩

theorem test_meets_CompletionOfASequence :
    (withEngine .holding inStep).ae.engine = .holding ∧ ((waitingAt .none 0 inStep).ae.engine = .running ∧ (waitingAt .none 0 inStep).ae.queue = []) ∧
    (inStep.dirEntry .yield = some 1 ∧
      ((inStep.sequenceBegins .yield []).ae.enter inStep.steps inStep.pins.fb inStep.now 1).2 = .completes) ∧
    ((slow .inStep).dirEntry .yield = some 0 ∧
      (((slow .inStep).sequenceBegins .yield []).ae.enter slowSteps 0#8 0 0).2 = .waits) ∧
    (({ (slow .inStep).ae with stepCount := 1024 }).enter slowSteps 0#8 0 0).2 = .loops 0 ∧ (slow .inStep).dirEntry .reclaim = none ∧
    ((waitingAt .none 0 inStep).ae.enter inStep.steps 0#8 0 1).2 = .completes ∧ ((waitingAt .none 0 (slow .inStep)).ae.enter slowSteps 0#8 0 1).2 = .waits ∧
    (withEngine .holding inStep).ae.engine = .holding ∧ (waitingAt .none 0 inStep).ae.engine ≠ .holding := by
  decide +kernel

theorem test_meets_WaitingRecordEvents :
    (let s := waitingAt (.dwell 7) 0 (slow .inStep)
     s.ae.waiting = .dwell 7 ∧ s.ae.running = some .yield ∧ s.ae.stepIndex = some 0 ∧ s.steps[0]? = some slowSteps[0]) ∧
    (let s := waitingAt (.await 7) 1 (slow .inStep)
     s.ae.waiting = .await 7 ∧ s.steps[1]? = some slowSteps[1] ∧ slowSteps[1].satisfied 0x01#8 = true ∧ slowSteps[1].satisfied 0x02#8 = false ∧
       s.ae.retryCount = 0 ∧ slowSteps[1].hasFallback = true) ∧
    (let s : State := waitingAt (.await 7) 2 { slow .inStep with ae := { State.reset.ae with retryCount := 1 } }
     s.ae.waiting = .await 7 ∧ 0 < s.ae.retryCount ∧ s.steps[2]? = some slowSteps[2] ∧ slowSteps[2].hasFallback = false) ∧
    ((∀ due, inStep.ae.waiting ≠ .dwell due) ∧ ∀ due, inStep.ae.waiting ≠ .await due) := by
  refine ⟨by decide +kernel, by decide +kernel, by decide +kernel, ?_⟩
  constructor <;> intro due <;> simp [inStep, State.reset, State.afterFullReset, Ae.reset]

/-- The station's configuration with holdoffs of 0. -/
def prompt : State := { inStep with sl := { inStep.sl with config := some { conf with area := area.take 25 ++ [0x00#8, 0x00#8, 0x00#8] } } }

theorem test_meets_LineInputChangeJudgesTheFilter :
    (inStep.cm.own = inStep.ownConditionNow ∧ inStep.participation ≠ .reset ∧ Condition.failed ≠ inStep.raw 0 ∧
      Condition.failed ≠ (inStep.filter 0).filtered ∧ ms 10 * (byteAt inStep.area 25).toNat ≠ 0) ∧
    (prompt.cm.own = prompt.ownConditionNow ∧ prompt.participation ≠ .reset ∧ ms 10 * (byteAt prompt.area 25).toNat = 0) ∧
    (let s : State := { inStep with pins := { inStep.pins with sf := #v[true, false, false, false] } }
     s.raw 0 = .failed ∧ (s.filter 0).filtered = .clear ∧ Condition.clear ≠ s.raw 0) ∧
    (State.reset.participation = .reset ∧ State.reset.cm.own = State.reset.ownConditionNow) := by decide +kernel

/-- The station with a pending change on line 0, its monitor active and the silence timer running. -/
def monitored : State :=
  { inStep with cm := { inStep.cm with
      filters := #v[⟨.clear, some (.failed, 50)⟩, ⟨.clear, none⟩, ⟨.clear, none⟩, ⟨.clear, none⟩], monitorActive := true, silenceTimer := some 60 } }

theorem test_meets_HoldoffAndSilenceEvents :
    (monitored.filter 0).pending = some (.failed, 50) ∧ (monitored.filter 1).pending = none ∧ monitored.cm.monitorActive = true ∧
    inStep.cm.monitorActive = false ∧ monitored.cm.silenceTimer = some 60 ∧ inStep.cm.silenceTimer = none := by decide +kernel

/-- The station with a silence threshold, carrying its own line. -/
def carrying : State :=
  { inStep with
      sl := { inStep.sl with config := some { conf with area := area.take 27 ++ [0x05#8] } }
      ae := { inStep.ae with actuated := .carrying } }

theorem test_meets_OwnConditionAndMonitorAreDerived :
    ((∃ n : Fin 4, inStep.lineEnabled n = true) ∧ { monitored with cm := { monitored.cm with txSilent := true } }.cm.txSilent = true) ∧
    inStep.cm.monitorActive = inStep.monitorCalled ∧ (carrying.cm.monitorActive = false ∧ carrying.monitorCalled = true) ∧
    (monitored.cm.monitorActive = true ∧ monitored.monitorCalled = false) := by decide +kernel

/-- The station's command table with one more record. -/
def fullTable : State := { inStep with cu := { inStep.cu with table := inStep.cu.table ++ [⟨7, .manual, .queued, none, 0⟩] } }

theorem test_meets_CommandSubmissionByTheTable :
    (Taken 0x02#7 inStep ∧ CommandTableShaped inStep ∧ inStep.cu.table.length < 4 ∧ (∃ c ∈ inStep.cu.table, c.kind = .force ∧ c.state ≠ .done) ∧
      (∀ c ∈ inStep.cu.table, c.kind = .lockout → c.state = .done) ∧ ∀ c ∈ inStep.cu.table, c.kind = .unlock → c.state = .done) ∧
    (Taken 0x02#7 fullTable ∧ CommandTableShaped fullTable ∧ fullTable.cu.table.length = 4) ∧ 5 ≤ (0x05#8).toNat % 8 ∧ Kind.lockout.request.code = (0x00#8).toNat % 8 ∧
    Kind.unlock.request.code = (0x04#8).toNat % 8 := by
  refine ⟨?_, ?_, ?_, ?_, ?_⟩ <;> decide +kernel

theorem test_meets_CommandAcknowledgeByTheRecord :
    (Taken 0x03#7 inStep ∧ CommandTableShaped inStep) ∧ (∃ c ∈ inStep.cu.table, c.tag = 1 ∧ c.state = .done) ∧
    (∃ c ∈ inStep.cu.table, c.tag = 3 ∧ c.state ≠ .done) ∧ (∀ c ∈ inStep.cu.table, c.tag ≠ 9) := by
  refine ⟨?_, ?_, ?_, ?_⟩ <;> decide +kernel

/-- The station with its head counted to `n`. -/
def counted (n : Nat) : State := { inStep with cu := { inStep.cu with table := [⟨3, .force, .contending, none, n⟩, ⟨4, .clear, .queued, none, 0⟩] } }

theorem test_meets_HeadExpiresAtSixtyFour :
    (∀ n ∈ [62, 63, 64], CommandTableShaped (counted n) ∧ headOf (counted n).cu.table = some ⟨3, .force, .contending, none, n⟩) ∧
    headOf (station .inStep).cu.table = none ∧ inStep.cu.headTag ≠ some 4 ∧ (station .listening).participation.inGroup = false ∧
    (∀ r ∈ [reading [1], faulty], (counted 62).participation.inGroup = true ∧ ((counted 62).deliver r).participation.inGroup = true ∧
      ¬(r.ownWin = true)) ∧
    ((counted 62).deliver (reading [2])).participation.inGroup = false ∧
    (let r := { reading [1] with ownWin := true }
     let s : State := { counted 62 with cu := { (counted 62).cu with offered := .command 3 } }
     s.participation = .inStep ∧ (s.deliver r).participation.inGroup = true ∧ r.faults.any = false ∧ s.cu.offered = .command 3) := by
  refine ⟨?_, ?_, ?_, ?_, ?_, ?_, ?_⟩ <;> decide +kernel

theorem test_meets_OfferedWordWinsAndTheRestoreSlot :
    (inStep.participation = .inStep ∧ headOf inStep.cu.table = some ⟨3, .force, .contending, none, 5⟩) ∧
    (headOf (station .inStep).cu.table = none ∧ (station .inStep).cu.restoreFull = false) ∧
    { (station .inStep).cu with restoreFull := true }.restoreFull = true ∧
    (openTag 3 inStep.cu.table = true ∧ openTag 1 inStep.cu.table = false) ∧ inStep.cu.wtrTimer = some (sec 300) ∧
    (inStep.ownEntry.cls = .waitRestore ∧ 0 < 256 * (byteAt inStep.area 21).toNat + (byteAt inStep.area 22).toNat) ∧
    (let s : State := { inStep with sl := { inStep.sl with config := some { conf with area := area.set 21 0x00#8 |>.set 22 0x00#8 } } }
     s.ownEntry.cls = .waitRestore ∧ 256 * (byteAt s.area 21).toNat + (byteAt s.area 22).toNat = 0) ∧
    (station .inStep).ownEntry.cls ≠ .waitRestore := by
  refine ⟨?_, ?_, ?_, ?_, ?_, ?_, ?_, ?_⟩ <;> decide +kernel

theorem test_meets_InterruptStatusAndEnables : Taken 0x04#7 inStep ∧ Taken 0x05#7 inStep := by decide +kernel

theorem test_meets_PointerAndStagingWrites :
    (∀ a ∈ [0x07#7, 0x09#7, 0x0A#7, 0x0B#7, 0x0C#7, 0x0D#7], Taken a (staged none) ∧ Taken a inStep) ∧
    ((staged none).participation = .unconfigured ∧ (staged none).mp.cfgStaging.wf = true ∧
      (staged (some stepBytes)).mp.stepStaging.wf = true) ∧ inStep.participation ≠ .unconfigured := by decide +kernel

theorem test_meets_WindowReadsReturnTheByteAtThePointer :
    (staged none).sl.config = none ∧
    (inStep.participation ≠ .reset ∧ inStep.mp.deaf = false ∧ inStep.mp.frame = none ∧
      ∀ a ∈ [0x0A#7, 0x0D#7], (framed false a inStep).mp.frame = some ⟨false, a⟩ ∧ (framed false a inStep).mp.deaf = false) ∧
    (inStep.sl.config = some conf ∧ conf.directory.length = 36) ∧
    (∀ k ∈ [35, 36, 37, 38, 61, 62, 2085], k < 36 ∨ k = 36 ∨ k = 37 ∨ (38 ≤ k ∧ k < 38 + 8 * conf.steps.length) ∨ 38 + 8 * conf.steps.length ≤ k) ∧
    (5 < 8 ∧ 43 = 38 + 8 * 0 + 5 ∧ conf.steps[0]? = some defaultSteps[0]) := by decide +kernel

/-- A snapshot of the shelf. -/
def shot : Snapshot := { kind := .record, notInStep := false, participation := .inStep, sliceIndex := 0, waitList := [], entries := shelf.entries }

/-- The station READY. -/
def ready : State := { inStep with mp := { inStep.mp with snapState := .ready, snapshot := some shot, discardTimer := some 70 } }

/-- The byte in the port is one of the buffer. -/
def taking (s : State) : State := { s with mp := { s.mp with snapTaken := true } }

theorem test_meets_SnapshotCommandsReadsAndDiscard :
    (Taken 0x01#7 inStep ∧ inStep.participation.inGroup = true ∧ inStep.mp.snapState ≠ .armed ∧ inStep.mp.snapState ≠ .ready) ∧
    ((armed inStep).mp.snapState = .armed ∧ (armed inStep).mp.snapState ≠ .idle) ∧ (station .isolated).participation.inGroup = false ∧
    (Taken 0x01#7 ready ∧ ready.mp.snapState = .ready ∧ ready.mp.snapshot = some shot ∧ ready.mp.discardTimer = some 70) ∧
    (∀ s ∈ [ready, taking ready, armed inStep], s.participation ≠ .reset ∧ s.mp.deaf = false ∧ s.mp.frame = none ∧
      (framed false 0x08#7 s).mp.frame = some ⟨false, 0x08#7⟩) ∧
    (ready.mp.snapTaken = false ∧ (taking ready).mp.snapTaken = true) ∧ inStep.mp.discardTimer = none := by
  decide +kernel

theorem test_meets_SpiFramesAndGroupCaptures :
    (inStep.participation ≠ .reset ∧ inStep.mp.deaf = false ∧ inStep.mp.frame = none) ∧ (0x85#8).getLsbD 7 = true ∧
    ((0x10#8).getLsbD 7 = false ∧ (0x10#8).extractLsb' 0 7 = groupAddress .pstat) ∧
    (groupOf 0x0F#7 = none ∧ groupOf 0x50#7 = some (.cmdtab, 0) ∧ groupOf 0x5C#7 = some (.cmdtab, 11 + 1) ∧ groupOf 0x5D#7 = none) ∧
    (∀ a ∈ [0x04#7, 0x08#7, 0x0A#7, 0x0D#7, 0x0F#7, 0x5C#7, 0x7F#7], (framed false a inStep).mp.frame = some ⟨false, a⟩ ∧
      (framed true a inStep).mp.frame = some ⟨true, a⟩) ∧
    (∀ a ∈ [0x00#7, 0x08#7, 0x7F#7], Taken a inStep ∧ writableAddress a = false) := by decide +kernel

/-- A lawful IN_STEP station with a command waiting. -/
def lawful : State := { inStep with pending := [.hold] }

/-- The hypotheses of the statements about every step. -/
theorem test_meets_StepKeepsTheLaws :
    Lawful lawful ∧ (∃ t, step lawful = .next t) ∧ lawful.sl.config = some conf ∧ lawful.pending.head? ≠ some .fullReset := by
  refine ⟨⟨?_, ?_, ?_, ?_, ?_, ?_, ?_, ?_, ?_, ?_, ?_, ?_, ?_, ?_, ?_⟩, ⟨_, rfl⟩, rfl, ?_⟩
  case refine_7 =>
    intro f hf
    cases (show some conf = some f from hf)
    decide +kernel
  all_goals decide +kernel

end Sys2Proof.Tests
end

section
/-! SUPPORT. What the cells of an epoch say (R31): the verdict by the readings of a field's pairs, a field as the number its true half reads, and the
values a record carries with each verdict. -/

namespace Sys2Proof.Machine

/-! ## The verdict on a list of pairs -/

/-- `verdictOf` with each of its tests as what it asks of the pairs: all silent, all dominant-one, none silent. -/
theorem verdictOf_eq (pairs : List (Bool × Bool)) :
    verdictOf pairs =
      if ∀ p ∈ pairs, p = (false, false) then .noNarrator
      else if ∀ p ∈ pairs, p = (true, false) ∨ p = (false, true) then .consistent
      else if ∀ p ∈ pairs, p ≠ (false, false) then .disagreement
      else .mixed := by
  have silent : ∀ p : Bool × Bool, (!p.1 && !p.2) = true ↔ p = (false, false) := by decide
  have single : ∀ p : Bool × Bool, (p.1 != p.2) = true ↔ p = (true, false) ∨ p = (false, true) := by decide
  have heard : ∀ p : Bool × Bool, (p.1 || p.2) = true ↔ p ≠ (false, false) := by decide
  simp only [verdictOf, List.all_eq_true, silent, single, heard]

theorem verdictOf_eq_noNarrator_iff (pairs : List (Bool × Bool)) :
    verdictOf pairs = .noNarrator ↔ ∀ p ∈ pairs, p = (false, false) := by
  rw [verdictOf_eq]
  split_ifs with silent <;> simpa using silent

section
variable {pairs : List (Bool × Bool)}

theorem not_all_silent_of_all_heard (some_pair : pairs ≠ []) (heard : ∀ p ∈ pairs, p ≠ (false, false)) :
    ¬∀ p ∈ pairs, p = (false, false) := by
  obtain ⟨p, hp⟩ := List.exists_mem_of_ne_nil pairs some_pair
  exact fun silent => heard p hp (silent p hp)

theorem verdictOf_eq_consistent_iff (some_pair : pairs ≠ []) :
    verdictOf pairs = .consistent ↔ ∀ p ∈ pairs, p = (true, false) ∨ p = (false, true) := by
  rw [verdictOf_eq]
  constructor
  · intro verdict
    split_ifs at verdict with _ single
    exact single
  · intro single
    have heard : ∀ p ∈ pairs, p ≠ (false, false) := fun p hp => by
      rcases single p hp with rfl | rfl <;> decide
    rw [if_neg (not_all_silent_of_all_heard some_pair heard), if_pos single]

theorem verdictOf_eq_disagreement_iff (some_pair : pairs ≠ []) :
    verdictOf pairs = .disagreement ↔ (∃ p ∈ pairs, p = (true, true)) ∧ ∀ p ∈ pairs, p ≠ (false, false) := by
  rw [verdictOf_eq]
  constructor
  · intro verdict
    split_ifs at verdict with _ not_single heard
    have both : ∀ p : Bool × Bool, p ≠ (false, false) → p ≠ (true, true) → p = (true, false) ∨ p = (false, true) := by decide
    refine ⟨?_, heard⟩
    by_contra no_both
    exact not_single fun p hp => both p (heard p hp) fun h => no_both ⟨p, hp, h⟩
  · rintro ⟨⟨_, clash, rfl⟩, heard⟩
    have not_single : ¬∀ p ∈ pairs, p = (true, false) ∨ p = (false, true) := fun single => by simpa using single _ clash
    rw [if_neg (not_all_silent_of_all_heard some_pair heard), if_neg not_single, if_pos heard]

end

theorem verdictOf_eq_mixed_iff (pairs : List (Bool × Bool)) :
    verdictOf pairs = .mixed ↔ (∃ p ∈ pairs, p = (false, false)) ∧ ∃ p ∈ pairs, p ≠ (false, false) := by
  rw [verdictOf_eq]
  constructor
  · intro verdict
    split_ifs at verdict with not_silent _ not_heard
    push Not at not_silent not_heard
    exact ⟨not_heard, not_silent⟩
  · rintro ⟨⟨_, gap, rfl⟩, ⟨q, hq, heard⟩⟩
    have not_silent : ¬∀ p ∈ pairs, p = (false, false) := fun silent => heard (silent q hq)
    have not_single : ¬∀ p ∈ pairs, p = (true, false) ∨ p = (false, true) := fun single => by simpa using single _ gap
    have not_heard : ¬∀ p ∈ pairs, p ≠ (false, false) := fun all_heard => all_heard _ gap rfl
    rw [if_neg not_silent, if_neg not_single, if_neg not_heard]

/-! ## The true half of a field as a number -/

section
variable (cells : List Bool)

/-- Each further cell is the number's new least significant bit. -/
theorem cellField_succ (k n : Nat) :
    cellField cells k (n + 1) = Nat.bit (!cellAt cells (k + n)) (cellField cells k n) := by
  cases h : cellAt cells (k + n) <;> simp [cellField, List.range_succ, h]

theorem cellField_lt (k n : Nat) : cellField cells k n < 2 ^ n := by
  induction n with
  | zero => exact Nat.one_pos
  | succ n ih => rw [cellField_succ, Nat.bit_lt_two_pow_succ_iff]; exact ih

/-- A field of `m + n` cells splits into its first `m` and its last `n`. -/
theorem cellField_add (k m n : Nat) :
    cellField cells k (m + n) = cellField cells k m * 2 ^ n + cellField cells (k + m) n := by
  induction n with
  | zero => simp [cellField]
  | succ n ih =>
    rw [← Nat.add_assoc, cellField_succ, cellField_succ, ih, Nat.bit_val, Nat.bit_val, Nat.add_assoc k]
    ring

/-- Bit `i` of a field, counted from its last cell: set where the cell reads recessive. -/
theorem testBit_cellField (k : Nat) {n i : Nat} (hi : i < n) :
    (cellField cells k n).testBit i = !cellAt cells (k + (n - 1 - i)) := by
  induction n generalizing i with
  | zero => omega
  | succ n ih =>
    rw [cellField_succ]
    cases i with
    | zero => rw [Nat.testBit_bit_zero]; rfl
    | succ i => rw [Nat.testBit_bit_succ, ih (by omega), show n + 1 - 1 - (i + 1) = n - 1 - i by omega]

/-- The true half of a field is read bit by bit, its first cell the most significant bit and a recessive cell a 1 (R31). -/
theorem getMsbD_cellField (k : Nat) {n i : Nat} (hi : i < n) :
    (BitVec.ofNat n (cellField cells k n)).getMsbD i = true ↔ cellAt cells (k + i) = false := by
  rw [BitVec.getMsbD_eq_getLsbD, BitVec.getLsbD_ofNat, testBit_cellField cells k (by omega), show n - 1 - (n - 1 - i) = i by omega]
  simp [hi, show n - 1 - i < n by omega]

/-- The two parts of a field side by side are the field. -/
theorem cellField_append (k m n : Nat) :
    BitVec.ofNat m (cellField cells k m) ++ BitVec.ofNat n (cellField cells (k + m) n) =
      BitVec.ofNat (m + n) (cellField cells k (m + n)) := by
  apply BitVec.eq_of_toNat_eq
  rw [BitVec.toNat_append, BitVec.toNat_ofNat, BitVec.toNat_ofNat, BitVec.toNat_ofNat, Nat.mod_eq_of_lt (cellField_lt cells k m),
    Nat.mod_eq_of_lt (cellField_lt cells (k + m) n), Nat.mod_eq_of_lt (cellField_lt cells k (m + n)),
    ← Nat.shiftLeft_add_eq_or_of_lt (cellField_lt cells (k + m) n), Nat.shiftLeft_eq, cellField_add]

/-- The slice index and the slice of the mirror field's value are the true half split after its first 4 bits (R31). -/
theorem mirrorValueOf_append :
    BitVec.ofNat 4 (mirrorValueOf cells).1.val ++ (mirrorValueOf cells).2 = BitVec.ofNat 29 (cellField cells mirrorField 29) := by
  have index : (mirrorValueOf cells).1.val = cellField cells mirrorField 4 := Nat.mod_eq_of_lt (cellField_lt cells mirrorField 4)
  rw [index]
  exact cellField_append cells mirrorField 4 25

end

/-! ## The verdicts and the values of a record -/

section
variable (cells wrote : List Bool) (f : FramingFaults) (d : Bool) (c : Contention) (o : Outgoing)

@[simp] theorem recordOf_digestVerdict : (recordOf cells wrote f d c o).digestVerdict = digestVerdict cells := rfl

@[simp] theorem recordOf_mirrorVerdict : (recordOf cells wrote f d c o).mirrorVerdict = mirrorVerdict cells := rfl

@[simp] theorem recordOf_digestTrue :
    (recordOf cells wrote f d c o).digestTrue = BitVec.ofNat 8 (cellField cells digestField 8) := rfl

@[simp] theorem recordOf_mirrorTrue :
    (recordOf cells wrote f d c o).mirrorTrue = BitVec.ofNat 29 (cellField cells mirrorField 29) := rfl

variable {cells f}

theorem recordOf_digestValue_of_consistent (clean : f.any = false) (verdict : digestVerdict cells = .consistent) :
    (recordOf cells wrote f d c o).digestValue = some (recordOf cells wrote f d c o).digestTrue := by
  simp [recordOf, clean, verdict]

theorem recordOf_mirrorValue_of_consistent (clean : f.any = false) (verdict : mirrorVerdict cells = .consistent) :
    (recordOf cells wrote f d c o).mirrorValue = some (mirrorValueOf cells) := by
  simp [recordOf, clean, verdict]

theorem recordOf_digestValue_eq_none (withheld : f.any = true ∨ digestVerdict cells ≠ .consistent) :
    (recordOf cells wrote f d c o).digestValue = none := by
  rcases withheld with faulted | verdict
  · simp [recordOf, faulted]
  · simp [recordOf, verdict]

theorem recordOf_mirrorValue_eq_none (withheld : f.any = true ∨ mirrorVerdict cells ≠ .consistent) :
    (recordOf cells wrote f d c o).mirrorValue = none := by
  rcases withheld with faulted | verdict
  · simp [recordOf, faulted]
  · simp [recordOf, verdict]

end

/-- Settles O25: each verdict by its class of pairs, the fields' pairs by the layout of R184, and a record's values by its verdicts and faults. -/
theorem verdictsClassThePairs : Obligations.VerdictsClassThePairs := by
  refine ⟨fun pairs some_pair => ?_, fun cells => ⟨rfl, rfl⟩, fun cells wrote f d c o => ?_⟩
  · exact ⟨verdictOf_eq_noNarrator_iff pairs, verdictOf_eq_consistent_iff some_pair, verdictOf_eq_disagreement_iff some_pair,
      verdictOf_eq_mixed_iff pairs⟩
  · refine ⟨recordOf_digestVerdict .., recordOf_mirrorVerdict .., fun i hi => ?_, fun i hi => ?_,
      recordOf_digestValue_of_consistent wrote d c o, fun clean verdict => ?_,
      recordOf_digestValue_eq_none wrote d c o, recordOf_mirrorValue_eq_none wrote d c o⟩
    · exact getMsbD_cellField cells digestField hi
    · exact getMsbD_cellField cells mirrorField hi
    · exact ⟨_, _, recordOf_mirrorValue_of_consistent wrote d c o clean verdict, mirrorValueOf_append cells⟩

end Sys2Proof.Machine
end

section
/-! SUPPORT. The choice of a backup and its effects (R69, R89 to R92): where an arrival stands on the wait list, what a candidate is, which candidate a
choice takes, and what a selection leaves of the primary it is made for. -/

namespace Sys2Proof.Machine

variable (g : Gtu)

/-! ## Arrivals (R69) -/

@[simp] theorem Gtu.entries_arrive (p : Pos) : (g.arrive p).entries = g.entries := rfl

/-- An arrival splits the rest of the list after the entries at its front of its class and of smaller ones. -/
theorem Gtu.waitList_arrive (p : Pos) :
    ∃ before after : List Pos, (g.arrive p).waitList = before ++ p :: after ∧ before ++ after = (g.offList p).waitList ∧
      (∀ q ∈ before, g.rankClass q ≤ g.rankClass p) ∧ ∀ q : Pos, after.head? = some q → g.rankClass p < g.rankClass q := by
  refine ⟨_, _, rfl, List.takeWhile_append_dropWhile, fun q hq => ?_, fun q hq => ?_⟩
  · simpa using List.mem_takeWhile_imp hq
  · have stops := List.head?_dropWhile_not (fun q => decide (g.rankClass q ≤ g.rankClass p)) (g.offList p).waitList
    rw [hq] at stops
    exact Nat.lt_of_not_le (of_decide_eq_false stops)

/-! ## Candidates (R89) -/

theorem Gtu.selectable_iff (p : Pos) :
    g.selectable p = true ↔
      (g.entry p).role = .primary ∧ (g.entry p).presence = .present ∧ (g.entry p).locked = false ∧ (g.entry p).faulted = false := by
  simp [Gtu.selectable, and_assoc]

theorem Gtu.eligible_iff (b : Pos) (c : Cls) :
    g.eligible b c = true ↔
      (g.entry b).presence = .present ∧ (g.entry b).locked = false ∧ (g.entry b).faulted = false ∧
        ((g.entry b).condition = .clear ∨ ((g.entry b).condition = .degraded ∧ c = .force)) := by
  simp [Gtu.eligible, and_assoc]

theorem Gtu.available_iff (b : Pos) (c : Cls) :
    g.available b c = true ↔ ∀ q : Pos, g.holder b = some q → c.code < (g.entry q).cls.code := by
  unfold Gtu.available Gtu.rankClass
  cases g.holder b <;> simp

theorem Gtu.candidate_iff (blk : List Byte) (p b : Pos) (c : Cls) :
    g.candidate blk p c b = true ↔
      g.selectable p = true ∧ (g.entry b).role = .backup ∧ (blockPooled blk = true ∨ blockPartner blk p = some b) ∧
        g.eligible b c = true ∧ g.available b c = true := by
  simp [Gtu.candidate, and_assoc]

/-- The positions are listed in ascending order. -/
theorem allPos_ascending : allPos.Pairwise (· < ·) := by decide

theorem Gtu.mem_candidates (blk : List Byte) (p b : Pos) (c : Cls) : b ∈ g.candidates blk p c ↔ g.candidate blk p c b = true := by
  simp [Gtu.candidates, mem_allPos]

theorem Gtu.candidates_ascending (blk : List Byte) (p : Pos) (c : Cls) : (g.candidates blk p c).Pairwise (· < ·) :=
  allPos_ascending.filter _

/-! ## The choice (R90) -/

theorem Gtu.free_iff (b : Pos) : g.free b = true ↔ g.holder b = none := Option.isNone_iff_eq_none

/-- What a search of an ascending list finds is the lowest position it could find. -/
theorem find?_lowest {l : List Pos} (ascending : l.Pairwise (· < ·)) {f : Pos → Bool} {b : Pos} (found : l.find? f = some b) :
    ∀ b' ∈ l, f b' = true → b ≤ b' := by
  intro b' hb' hf
  obtain ⟨-, before, after, rfl, none_before⟩ := List.find?_eq_some_iff_append.mp found
  rcases List.mem_append.mp hb' with early | late
  · exact absurd hf (by simpa using none_before b' early)
  · rcases List.mem_cons.mp late with rfl | later
    · exact le_rfl
    · exact ((List.pairwise_cons.mp (List.pairwise_append.mp ascending).2.1).1 b' later).le

/-- A list of backups has a least urgent one unless it is empty. -/
theorem Gtu.leastUrgent_eq_none_iff (l : List Pos) : g.leastUrgent l = none ↔ l = [] := by
  cases l with
  | nil => simp [Gtu.leastUrgent]
  | cons a l =>
    rw [Gtu.leastUrgent]
    cases g.leastUrgent l with
    | none => simp
    | some b => dsimp only; split_ifs <;> simp

/-- Backup `b` is held at a greater class than `b'`, or at the same one and stands no higher. -/
def Gtu.LessUrgent (b b' : Pos) : Prop := g.heldClass b' < g.heldClass b ∨ (g.heldClass b' = g.heldClass b ∧ b ≤ b')

theorem Gtu.lessUrgent_refl (b : Pos) : g.LessUrgent b b := .inr ⟨rfl, le_rfl⟩

/-- The least urgent backup of an ascending list is one of the list, and comes first by class and position. -/
theorem Gtu.leastUrgent_spec {l : List Pos} (ascending : l.Pairwise (· < ·)) {b : Pos} (chosen : g.leastUrgent l = some b) :
    b ∈ l ∧ ∀ b' ∈ l, g.LessUrgent b b' := by
  induction l generalizing b with
  | nil => simp [Gtu.leastUrgent] at chosen
  | cons a l ih =>
    obtain ⟨a_lowest, tail_ascending⟩ := List.pairwise_cons.mp ascending
    rw [Gtu.leastUrgent] at chosen
    cases tail : g.leastUrgent l with
    | none =>
      obtain rfl := (g.leastUrgent_eq_none_iff l).mp tail
      obtain rfl : a = b := by simpa [tail] using chosen
      simpa using g.lessUrgent_refl a
    | some d =>
      obtain ⟨d_mem, d_first⟩ := ih tail_ascending tail
      simp only [tail] at chosen
      split_ifs at chosen with below
      · obtain rfl := Option.some.inj chosen
        exact ⟨List.mem_cons_of_mem a d_mem, List.forall_mem_cons.mpr ⟨.inl below, d_first⟩⟩
      · obtain rfl := Option.some.inj chosen
        refine ⟨List.mem_cons_self, List.forall_mem_cons.mpr ⟨g.lessUrgent_refl a, fun b' hb' => ?_⟩⟩
        have at_most : g.heldClass b' ≤ g.heldClass a := by
          rcases d_first b' hb' with less | ⟨same, -⟩ <;> omega
        exact at_most.lt_or_eq.imp_right fun same => ⟨same, (a_lowest b' hb').le⟩

section
variable (blk : List Byte) (p : Pos) (c : Cls)

theorem Gtu.choose_of_free {b : Pos} (found : (g.candidates blk p c).find? g.free = some b) : g.choose blk p c = some b := by
  simp [Gtu.choose, found]

theorem Gtu.choose_of_none_free (found : (g.candidates blk p c).find? g.free = none) :
    g.choose blk p c = g.leastUrgent (g.candidates blk p c) := by
  simp [Gtu.choose, found]

/-- No candidate is free exactly when every one is held. -/
theorem Gtu.find?_free_eq_none_iff :
    (g.candidates blk p c).find? g.free = none ↔ ∀ b : Pos, g.candidate blk p c b = true → g.holder b ≠ none := by
  simp only [List.find?_eq_none, Gtu.mem_candidates, Gtu.free_iff, ne_eq]

theorem Gtu.choose_eq_none_iff : g.choose blk p c = none ↔ ∀ b : Pos, g.candidate blk p c b = false := by
  have no_candidate : g.candidates blk p c = [] ↔ ∀ b : Pos, g.candidate blk p c b = false := by
    simp [List.eq_nil_iff_forall_not_mem, Gtu.mem_candidates]
  cases found : (g.candidates blk p c).find? g.free with
  | none => rw [g.choose_of_none_free blk p c found, Gtu.leastUrgent_eq_none_iff, no_candidate]
  | some b =>
    have b_candidate := (g.mem_candidates blk p b c).mp (List.mem_of_find?_eq_some found)
    rw [g.choose_of_free blk p c found]
    exact iff_of_false (Option.some_ne_none b) fun none_is => by simp [none_is b] at b_candidate

variable {b : Pos} (chosen : g.choose blk p c = some b)
include chosen

theorem Gtu.choose_candidate : g.candidate blk p c b = true := by
  rw [← Gtu.mem_candidates]
  cases found : (g.candidates blk p c).find? g.free with
  | none => exact (g.leastUrgent_spec (g.candidates_ascending blk p c) (g.choose_of_none_free blk p c found ▸ chosen)).1
  | some d =>
    obtain rfl := Option.some.inj ((g.choose_of_free blk p c found).symm.trans chosen)
    exact List.mem_of_find?_eq_some found

/-- With a free candidate the choice is free, and the lowest of them. -/
theorem Gtu.choose_lowest_free {b' : Pos} (b'_candidate : g.candidate blk p c b' = true) (b'_free : g.holder b' = none) :
    g.holder b = none ∧ ∀ b' : Pos, g.candidate blk p c b' = true → g.holder b' = none → b ≤ b' := by
  cases found : (g.candidates blk p c).find? g.free with
  | none => exact absurd b'_free ((g.find?_free_eq_none_iff blk p c).mp found b' b'_candidate)
  | some d =>
    obtain rfl := Option.some.inj ((g.choose_of_free blk p c found).symm.trans chosen)
    refine ⟨(g.free_iff d).mp (List.find?_some found), fun b'' candidate free => ?_⟩
    exact find?_lowest (g.candidates_ascending blk p c) found b'' ((g.mem_candidates blk p b'' c).mpr candidate) ((g.free_iff b'').mpr free)

/-- With every candidate held the choice is the one of the least urgent cover. -/
theorem Gtu.choose_lessUrgent (held : ∀ b' : Pos, g.candidate blk p c b' = true → g.holder b' ≠ none) {b' : Pos}
    (b'_candidate : g.candidate blk p c b' = true) : g.LessUrgent b b' := by
  have least : g.leastUrgent (g.candidates blk p c) = some b := by
    rw [← chosen, g.choose_of_none_free blk p c ((g.find?_free_eq_none_iff blk p c).mpr held)]
  exact (g.leastUrgent_spec (g.candidates_ascending blk p c) least).2 b' ((g.mem_candidates blk p b' c).mpr b'_candidate)

end

/-! ## Selections (R91, R92) -/

theorem Gtu.waitRank_setCover (p n : Pos) (a : Assignment) (b : Option Pos) (c : Cls) :
    ((g.setCover p a b c).entry n).waitRank = (g.entry n).waitRank := by
  rw [Gtu.entry_setCover]
  split_ifs with h
  · rw [h]
  · rfl

theorem Gtu.waitRank_clearPrimary (p n : Pos) : ((g.clearPrimary p).entry n).waitRank = (g.entry n).waitRank := g.waitRank_setCover p n _ _ _

theorem Gtu.waitRank_requeueOrClear (p n : Pos) : ((g.requeueOrClear p).entry n).waitRank = (g.entry n).waitRank := by
  unfold Gtu.requeueOrClear
  dsimp only
  split_ifs
  · rw [Gtu.entry_requeue, Gtu.waitRank_setCover]
  · exact g.waitRank_clearPrimary p n

theorem Gtu.waitRank_toDropping (p n : Pos) (c : Cls) : ((g.toDropping p c).entry n).waitRank = (g.entry n).waitRank := by
  unfold Gtu.toDropping
  rw [Gtu.waitRank_setCover]
  refine Gtu.foldl_keeps (P := fun g' => (g'.entry n).waitRank = (g.entry n).waitRank) (fun g' q h => ?_) allPos g rfl
  split_ifs
  · rw [Gtu.waitRank_clearPrimary, h]
  · exact h

/-- A revocation leaves the ranks to the end of its stage. -/
theorem Gtu.waitRank_revoke (p n : Pos) : ((g.revoke p).entry n).waitRank = (g.entry n).waitRank := by
  unfold Gtu.revoke
  dsimp only
  split
  · exact g.waitRank_requeueOrClear p n
  · exact g.waitRank_toDropping p n _
  · exact g.waitRank_toDropping p n _
  · rfl
  · rfl

/-- Two entries of the same facts and rank differ by their cover alone. -/
theorem Entry.withCover_eq {e e' : Entry} (facts : e.facts = e'.facts) (rank : e.waitRank = e'.waitRank) (a : Assignment) (b : Option Pos)
    (c : Cls) : { e with assignment := a, partner := b, cls := c } = { e' with assignment := a, partner := b, cls := c } := by
  simp only [Entry.facts, Prod.mk.injEq] at facts
  obtain ⟨role, presence, runCount, condition, locked, faulted⟩ := facts
  simp only [role, presence, runCount, condition, locked, faulted, rank]

theorem Gtu.select_of_free {b : Pos} (free : g.holder b = none) (p : Pos) (c : Cls) :
    g.select p b c = (g.setCover p .yielding (some b) c).offList p := by
  simp [Gtu.select, free]

theorem Gtu.select_of_held {b q : Pos} (held : g.holder b = some q) (p : Pos) (c : Cls) :
    g.select p b c = ((g.revoke q).setCover p .yielding (some b) c).offList p := by
  simp [Gtu.select, held]

/-- A new cover is put in its own entry, and its primary goes off the list. -/
theorem Gtu.newCover_effects (p : Pos) (a : Assignment) (b : Option Pos) (c : Cls) :
    ((g.setCover p a b c).offList p).entry p = { g.entry p with assignment := a, partner := b, cls := c } ∧
      (∀ q : Pos, q ≠ p → ((g.setCover p a b c).offList p).entry q = g.entry q) ∧
      ((g.setCover p a b c).offList p).waitList = g.waitList.filter fun q => q ≠ p := by
  refine ⟨?_, fun q other => ?_, rfl⟩
  · rw [Gtu.entry_offList, Gtu.entry_setCover, if_pos rfl]
  · rw [Gtu.entry_offList, Gtu.entry_setCover, if_neg other]

/-- Settles O32: the arrival's two sides, a candidate test by test, the choice by a free candidate or by the least urgent cover, and the selection after
the preemption of the primary that holds the backup, if any. -/
theorem selectionTakesTheLeastUrgentBackup : Obligations.SelectionTakesTheLeastUrgentBackup := by
  refine ⟨fun g p => ?_, fun blk g p b c => ?_, fun blk g p c => ⟨g.choose_eq_none_iff blk p c, fun b chosen => ⟨?_, ?_, ?_⟩⟩,
    fun g p b c _ => ?_⟩
  · obtain ⟨before, after, list, rest, in_front, behind⟩ := g.waitList_arrive p
    exact ⟨before, after, list, rest, in_front, behind, g.entries_arrive p⟩
  · rw [Gtu.candidate_iff, Gtu.selectable_iff, Gtu.eligible_iff, Gtu.available_iff]
  · exact g.choose_candidate blk p c chosen
  · rintro ⟨b', candidate, free⟩
    exact g.choose_lowest_free blk p c chosen candidate free
  · intro held b' candidate
    exact g.choose_lessUrgent blk p c chosen held candidate
  · cases holder : g.holder b with
    | none =>
      rw [g.select_of_free holder]
      exact g.newCover_effects p .yielding (some b) c
    | some q =>
      rw [g.select_of_held holder]
      obtain ⟨own, others, list⟩ := (g.revoke q).newCover_effects p .yielding (some b) c
      exact ⟨own.trans (Entry.withCover_eq (g.facts_revoke q p) (g.waitRank_revoke q p) _ _ _), others, list⟩

end Sys2Proof.Machine
end

section
/-! SUPPORT. The desired state by the own entry (R104), and the directive stage by the directives its comparison gives (R105, assumption 27). -/

namespace Sys2Proof.Machine

variable {s : State}

/-! ## The desired state (R104) -/

theorem State.desired_of_covered (role : s.ownEntry.role = .primary) (covered : s.ownEntry.assignment ≠ .none) : s.desired = .yielded := by
  simp [State.desired, role, covered]

theorem State.desired_of_uncovered (role : s.ownEntry.role = .primary) (uncovered : s.ownEntry.assignment = .none) :
    s.desired = .carrying := by
  simp [State.desired, role, uncovered]

theorem State.desired_of_taking {p : Pos} (role : s.ownEntry.role = .backup) (partner : s.ownEntry.partner = some p)
    (takes : s.ownEntry.assignment = .taking ∨ s.ownEntry.assignment = .active) : s.desired = .taken p := by
  rcases takes with takes | takes <;> simp [State.desired, role, partner, takes]

theorem State.desired_of_idle (role : s.ownEntry.role = .backup)
    (idle : s.ownEntry.assignment = .none ∨ s.ownEntry.assignment = .yielding) : s.desired = .idle := by
  rcases idle with idle | idle <;> simp [State.desired, role, idle]

/-! ## The directive stage (R105) -/

theorem State.waitsForStart_iff :
    s.waitsForStart = true ↔ Config.comparisonWaitsForStart = true ∧ (s.ae.running = some .start ∨ .start ∈ s.ae.queue) := by
  rw [State.waitsForStart, Bool.and_eq_true, Ae.owesStart_iff, and_comm]

/-- States that already agree need no directive. -/
theorem directivesFor_self (a : ActState) : directivesFor a a = [] := by
  cases a <;> simp [directivesFor]

/-- A comparison that gives no directive changes nothing. -/
theorem State.directiveStage_of_no_directive (unhindered : s.waitsForStart = false) {was ask : ActState} (requested : s.gtu.requested = was)
    (desired : s.desired = ask) (directives : directivesFor was ask = []) : s.directiveStage = s := by
  rw [s.directiveStage_of_not_waits unhindered, requested, desired, requestedAfter, if_pos directives, directives, ← requested]
  rfl

/-- A comparison that gives directives makes the desired state the requested one, and offers them in order. -/
theorem State.directiveStage_of_directives (unhindered : s.waitsForStart = false) {was ask : ActState} (requested : s.gtu.requested = was)
    (desired : s.desired = ask) {d : Directive} {ds : List Directive} (directives : directivesFor was ask = d :: ds) :
    s.directiveStage = (s.setRequested ask).offerAll (d :: ds) := by
  have asks : directivesFor was ask ≠ [] := directives ▸ List.cons_ne_nil d ds
  rw [s.directiveStage_of_not_waits unhindered, requested, desired, requestedAfter, if_neg asks, directives]

/-- Settles O36: the desired state by the own role and assignment, and the directive stage by the pair of requested and desired state. -/
theorem directivesBringTheRequestedStateToTheDesired : Obligations.DirectivesBringTheRequestedStateToTheDesired := by
  refine ⟨fun s => ⟨State.desired_of_covered, State.desired_of_uncovered, fun p => State.desired_of_taking, State.desired_of_idle⟩, ?_⟩
  intro s ask was asked waits desired
  refine ⟨fun hindered => s.directiveStage_of_waits (State.waitsForStart_iff.mpr hindered), fun not_waits => ?_⟩
  have unhindered : s.waitsForStart = false := Bool.eq_false_iff.mpr fun hindered => not_waits (State.waitsForStart_iff.mp hindered)
  have stage : ∀ {was' : ActState} {d : Directive} {ds : List Directive}, was = was' → directivesFor was' ask = d :: ds →
      s.directiveStage = asked.offerAll (d :: ds) :=
    fun requested => State.directiveStage_of_directives unhindered requested desired
  refine ⟨?_, ?_, ?_, ?_, ?_, ?_⟩
  · rintro carrying rfl
    exact stage carrying rfl
  · rintro (yielded | released) rfl
    · exact stage yielded rfl
    · exact stage released rfl
  · rintro p (idle | released) rfl
    · exact stage idle rfl
    · exact stage released rfl
  · rintro p taken rfl
    exact stage taken rfl
  · rintro p q taken rfl other
    exact stage taken (if_neg other)
  · rintro (same | ⟨released, rfl | rfl⟩)
    · exact State.directiveStage_of_no_directive unhindered same desired (directivesFor_self ask)
    · exact State.directiveStage_of_no_directive unhindered released desired rfl
    · exact State.directiveStage_of_no_directive unhindered released desired rfl

end Sys2Proof.Machine
end

section
/-! SUPPORT. Offers in the words of R136 and R137: which engine states queue and which discard, what coalescing asks of the newest directive of the queue,
and the step index an overflow records. -/

namespace Sys2Proof.Machine

/-! ## The engine states an offer finds (R136) -/

section
variable (e : Engine)

theorem Engine.queues_iff : e.queues = true ↔ e = .running ∨ e = .holding ∨ e = .held := by
  simp [Engine.queues, or_assoc]

theorem Engine.out_iff : e.out = true ↔ e = .stopped ∨ e = .faulted := by
  simp [Engine.out]

variable {e}

/-- Of the states that queue, HELD alone has no sequence in progress (R146). -/
theorem Engine.moving_iff_of_queues (queues : e.queues = true) : e.moving = true ↔ e ≠ .held := by
  rcases e.queues_iff.mp queues with rfl | rfl | rfl <;> decide

end

/-! ## Coalescing (R137) -/

section
variable (a : Ae) (d : Directive)

theorem Ae.coalesces_iff : a.coalesces d = true ↔ ∃ v : Directive, d.inverse = some v ∧ a.queue.getLast? = some v := by
  cases newest : a.queue.getLast? with
  | none => simp [Ae.coalesces, newest]
  | some n =>
    cases inverse : d.inverse with
    | none => simp [Ae.coalesces, newest, inverse]
    | some v => simp [Ae.coalesces, newest, inverse]

theorem Ae.coalesces_eq_false_iff :
    a.coalesces d = false ↔ ∀ v : Directive, d.inverse = some v → a.queue.getLast? ≠ some v := by
  rw [← Bool.not_eq_true, a.coalesces_iff d]
  simp only [not_exists, not_and, ne_eq]

end

/-! ## Overflow (R136, R147) -/

section
variable {s : State} {d : Directive}

/-- The step index of an overflow is that of the sequence in progress, which HELD does not have. -/
theorem State.offer_overflows_at (queues : s.ae.engine.queues = true) (apart : s.ae.coalesces d = false)
    (full : 4 ≤ s.ae.queue.length) :
    s.offer d = s.engineFault ⟨.overflow, some d, if s.ae.engine = .held then none else s.ae.stepIndex⟩ := by
  rw [s.offer_overflows d queues apart (Nat.not_lt.mpr full)]
  simp only [Engine.moving_iff_of_queues queues, ne_eq, ite_not]

end

/-- Settles O37: the inverse pairs by the directive, and an offer by the engine state it finds. -/
theorem offersByEngineState : Obligations.OffersByEngineState := by
  refine ⟨fun p => ⟨rfl, rfl⟩, ⟨rfl, rfl, rfl, rfl⟩, fun d s => ⟨s.offer_idle d, fun queueing => ?_, fun out => ?_⟩⟩
  · have queues := s.ae.engine.queues_iff.mpr queueing
    refine ⟨fun newest => ?_, fun other => ?_⟩
    · exact s.offer_coalesces d queues ((s.ae.coalesces_iff d).mpr newest)
    · have apart := (s.ae.coalesces_eq_false_iff d).mpr other
      exact ⟨s.offer_appends d queues apart, State.offer_overflows_at queues apart⟩
  · exact s.offer_out d (s.ae.engine.out_iff.mpr out)

end Sys2Proof.Machine
end

section
/-! SUPPORT. Every command as its next state: the step's own unfolding (assumption 1), the totality of `exec` with what no command touches, and the state
after a full reset. -/

namespace Sys2Proof.Machine

open Sys2Proof.Safety

/-! ## The step -/

/-- Settles O1: both arms of `step`. -/
theorem stepRunsTheFrontCommand : Obligations.StepRunsTheFrontCommand := by
  refine ⟨fun c s rest queue => ?_, fun s queue => ?_⟩
  · rw [step, queue]
  · simp only [step, queue, State.tick]

/-! ## What every command keeps (assumptions 1 and 19) -/

/-- `t` can follow `s`: the queue is as it was and the clock has not gone back. -/
def State.Follows (t s : State) : Prop := t.pending = s.pending ∧ s.now ≤ t.now

section
variable {s t : State}

theorem State.follows_of_eq (pending : t.pending = s.pending) (now : t.now = s.now) : t.Follows s := ⟨pending, now.ge⟩

theorem State.Follows.rfl : s.Follows s := State.follows_of_eq (Eq.refl _) (Eq.refl _)

theorem State.follows_of_advanced {due : Ticks} (pending : t.pending = s.pending) (now : t.now = max s.now due) : t.Follows s :=
  ⟨pending, now ▸ le_max_left _ _⟩

/-- A write that is taken moves the frame's address alone beside its effect. -/
theorem State.portWrite_follows (a : BitVec 7) {f : State → State} (effect : (f s).Follows s) : (s.portWrite a f).Follows s := by
  cases taken : s.takesWrite a with
  | true => rw [s.portWrite_taken a taken]; exact effect
  | false => rw [s.portWrite_not_taken a taken]; exact State.Follows.rfl

/-- A control command changes CTRL and the frame alone beside the effect its block gives it. -/
theorem State.control_follows (code : BitVec 4) {taken : Option State} (effect : ∀ u, taken = some u → u.Follows s) :
    (s.control code taken).Follows s := by
  refine State.portWrite_follows ctrlAddress ?_
  cases taken with
  | none => exact State.Follows.rfl
  | some u => exact effect u (Eq.refl _)

end

section
variable (s : State)

theorem State.startTaken_follows {u : State} (taken : s.startTaken = some u) : u.Follows s := by
  unfold State.startTaken at taken
  split_ifs at taken
  split at taken <;> cases taken
  · exact State.follows_of_eq (s.freeze_pending _ _) (s.freeze_now _ _)
  · exact State.Follows.rfl

theorem State.rejoinTaken_follows {u : State} (taken : s.rejoinTaken = some u) : u.Follows s := by
  unfold State.rejoinTaken at taken
  split_ifs at taken
  cases taken
  exact State.Follows.rfl

theorem State.softResetTaken_follows {u : State} (taken : s.softResetTaken = some u) : u.Follows s := by
  unfold State.softResetTaken at taken
  split_ifs at taken
  cases taken
  exact State.follows_of_eq (by simp) (by simp)

theorem State.holdTaken_follows {u : State} (taken : s.holdTaken = some u) : u.Follows s := by
  unfold State.holdTaken at taken
  split at taken <;> cases taken <;> exact State.Follows.rfl

theorem State.resumeTaken_follows {u : State} (taken : s.resumeTaken = some u) : u.Follows s := by
  unfold State.resumeTaken at taken
  split at taken <;> cases taken
  · exact State.Follows.rfl
  · exact State.follows_of_eq (s.runQueue_pending _) (s.runQueue_now _)
  · exact State.follows_of_eq (State.reconcile_pending _) (State.reconcile_now _)

theorem State.stopTaken_follows {u : State} (taken : s.stopTaken = some u) : u.Follows s := by
  unfold State.stopTaken at taken
  split_ifs at taken
  cases taken
  exact State.follows_of_eq s.engineStop_pending s.engineStop_now

theorem State.clearFaultTaken_follows {u : State} (taken : s.clearFaultTaken = some u) : u.Follows s := by
  unfold State.clearFaultTaken at taken
  split_ifs at taken
  cases taken
  exact State.follows_of_eq (State.reconcile_pending _) (State.reconcile_now _)

theorem State.armed_follows : s.armed.Follows s := by
  unfold State.armed
  split <;> exact State.Follows.rfl

theorem State.snapTaken_follows {u : State} (taken : s.snapTaken = some u) : u.Follows s := by
  unfold State.snapTaken at taken
  split_ifs at taken <;> cases taken
  · exact s.armed_follows
  · exact ⟨(State.captureIfArmed_pending _ _ _ _).trans s.armed_follows.1, s.armed_follows.2.trans_eq (State.captureIfArmed_now _ _ _ _).symm⟩

theorem State.snapReleaseTaken_follows {u : State} (taken : s.snapReleaseTaken = some u) : u.Follows s := by
  unfold State.snapReleaseTaken at taken
  split_ifs at taken
  cases taken
  exact State.Follows.rfl

theorem State.submitted_follows (v : Byte) : (s.submitted v).Follows s := by
  unfold State.submitted State.submit
  split
  · exact State.Follows.rfl
  · split_ifs <;> exact State.Follows.rfl

theorem State.acknowledged_follows (v : Byte) : (s.acknowledged v).Follows s := by
  unfold State.acknowledged State.acknowledge
  split
  · exact State.Follows.rfl
  · split_ifs <;> exact State.Follows.rfl

theorem State.staged_follows (w : StagingWindow) (v : Byte) : (s.staged w v).Follows s := by
  unfold State.staged
  split_ifs <;> exact State.Follows.rfl

theorem State.takeAt_follows (a : BitVec 7) : (s.takeAt a).Follows s := by
  rw [s.takeAt_frame]; exact State.Follows.rfl

theorem State.readOn_follows (f : Frame) : (s.readOn f).Follows s := by
  rw [s.readOn_frame]; exact State.Follows.rfl

theorem State.portRead_follows (a : BitVec 7) : (s.portRead a).Follows s := by
  unfold State.portRead
  split_ifs
  · split
    · exact State.Follows.rfl
    · split_ifs
      · exact s.readOn_follows _
      · exact State.Follows.rfl
  · exact State.Follows.rfl

theorem State.controlByte_follows (v : Byte) : (s.controlByte v).Follows s := by
  unfold State.controlByte
  refine State.control_follows _ fun u taken => ?_
  split at taken
  · exact s.startTaken_follows taken
  · exact s.rejoinTaken_follows taken
  · exact s.softResetTaken_follows taken
  · exact s.holdTaken_follows taken
  · exact s.resumeTaken_follows taken
  · exact s.stopTaken_follows taken
  · exact s.clearFaultTaken_follows taken
  · exact s.snapTaken_follows taken
  · exact s.snapReleaseTaken_follows taken
  · cases taken

theorem State.writeAt_follows (a : BitVec 7) (v : Byte) : (s.writeAt a v).Follows s := by
  unfold State.writeAt
  split
  · exact s.controlByte_follows v
  · exact State.portWrite_follows a (s.submitted_follows v)
  · exact State.portWrite_follows a (s.acknowledged_follows v)
  · exact State.portWrite_follows a State.Follows.rfl
  · exact State.portWrite_follows a State.Follows.rfl
  · exact State.portWrite_follows a State.Follows.rfl
  · exact State.portWrite_follows a State.Follows.rfl
  · exact State.portWrite_follows a (s.staged_follows _ v)
  · exact State.portWrite_follows a State.Follows.rfl
  · exact State.portWrite_follows a State.Follows.rfl
  · exact State.portWrite_follows a (s.staged_follows _ v)
  · exact State.portWrite_follows a State.Follows.rfl

theorem State.loadFails_follows (c : LoadCause) : (s.loadFails c).Follows s :=
  State.follows_of_eq (s.loadFails_pending c) (s.loadFails_now c)

theorem State.checkImage_follows : s.checkImage.Follows s := by
  unfold State.checkImage State.judgeImage
  dsimp only
  split_ifs <;> exact State.follows_of_eq (by simp) (by simp)

/-- The arms of `exec` that keep the clock, or move it to the instant a timer is due. -/
theorem exec_follows (c : Instr) : ∃ t : State, exec c s = .next t ∧ t.Follows s := by
  cases c
  case fullReset => exact ⟨_, rfl, State.follows_of_eq rfl rfl⟩
  case fullResetRelease pos =>
    simp only [exec, execFullResetRelease]
    split_ifs
    · exact ⟨_, rfl, State.follows_of_eq (by simp) (by simp)⟩
    · exact ⟨_, rfl, State.Follows.rfl⟩
  case loadReadStart =>
    simp only [exec, execLoadReadStart]
    split
    · exact ⟨_, rfl, State.follows_of_advanced rfl rfl⟩
    all_goals exact ⟨_, rfl, State.Follows.rfl⟩
  case addressPhaseAttempt p =>
    simp only [exec, execAddressPhaseAttempt]
    split
    · split_ifs
      · exact ⟨_, rfl, State.Follows.rfl⟩
      · exact ⟨_, rfl, State.follows_of_eq (by simp) (by simp)⟩
    all_goals exact ⟨_, rfl, State.Follows.rfl⟩
  case addressAttemptRetry =>
    simp only [exec, execAddressAttemptRetry]
    split
    · exact ⟨_, rfl, State.follows_of_advanced rfl rfl⟩
    all_goals exact ⟨_, rfl, State.Follows.rfl⟩
  case clockStretchTimeout =>
    simp only [exec, execClockStretchTimeout]
    split
    · exact ⟨_, rfl, State.follows_of_eq (by simp) (by simp)⟩
    · exact ⟨_, rfl, State.follows_of_eq (by simp) (by simp)⟩
    all_goals exact ⟨_, rfl, State.Follows.rfl⟩
  case imageByteReceived b =>
    simp only [exec, execImageByteReceived]
    split
    · split
      · exact ⟨_, rfl, State.Follows.rfl⟩
      · exact ⟨_, rfl, State.follows_of_eq (by simp) (by simp)⟩
      · exact ⟨_, rfl, State.checkImage_follows _⟩
    all_goals exact ⟨_, rfl, State.Follows.rfl⟩
  case epochTimerExpiry =>
    simp only [exec, execEpochTimerExpiry]
    split
    · exact ⟨_, rfl, State.Follows.rfl⟩
    · split
      · exact ⟨_, rfl, State.follows_of_advanced rfl rfl⟩
      · exact ⟨_, rfl, State.follows_of_advanced rfl rfl⟩
      · exact ⟨_, rfl, by simp, by simp⟩
      all_goals exact ⟨_, rfl, State.Follows.rfl⟩
  case unheardMarker =>
    simp only [exec, execUnheardMarker]
    split
    · exact ⟨_, rfl, by simp, by simp⟩
    all_goals exact ⟨_, rfl, State.Follows.rfl⟩
  case markerStart =>
    simp only [exec, execMarkerStart]
    split_ifs
    · exact ⟨_, rfl, by simp, by simp⟩
    · exact ⟨_, rfl, by simp, by simp⟩
    · exact ⟨_, rfl, State.Follows.rfl⟩
  case longMarker =>
    simp only [exec, execLongMarker]
    split_ifs
    · exact ⟨_, rfl, by simp, by simp⟩
    · exact ⟨_, rfl, State.Follows.rfl⟩
  case recordDelivery =>
    simp only [exec, execRecordDelivery]
    split_ifs
    · exact ⟨_, rfl, by simp, by simp⟩
    · exact ⟨_, rfl, State.Follows.rfl⟩
  case markerDriveRelease =>
    simp only [exec, execMarkerDriveRelease]
    split
    · exact ⟨_, rfl, State.follows_of_advanced rfl rfl⟩
    all_goals exact ⟨_, rfl, State.Follows.rfl⟩
  case dominantCellRelease =>
    simp only [exec, execDominantCellRelease]
    split
    · exact ⟨_, rfl, State.follows_of_advanced rfl rfl⟩
    all_goals exact ⟨_, rfl, State.Follows.rfl⟩
  case cellBegin =>
    simp only [exec, execCellBegin]
    split
    · exact ⟨_, rfl, State.follows_of_advanced (due := _) rfl rfl⟩
    · exact ⟨_, rfl, State.Follows.rfl⟩
  case cellSample =>
    simp only [exec, execCellSample]
    split_ifs
    · exact ⟨_, rfl, State.follows_of_advanced rfl rfl⟩
    · exact ⟨_, rfl, State.Follows.rfl⟩
  case commandExpiry => exact ⟨_, rfl, State.follows_of_eq s.expireHead_pending s.expireHead_now⟩
  case dwellExpiry =>
    simp only [exec, execDwellExpiry]
    split
    · exact ⟨_, rfl, by simp, by simp⟩
    · exact ⟨_, rfl, State.Follows.rfl⟩
  case feedbackChange levels =>
    simp only [exec, execFeedbackChange]
    split
    · split_ifs
      · exact ⟨_, rfl, State.follows_of_eq (by simp) (by simp)⟩
      · exact ⟨_, rfl, State.Follows.rfl⟩
    · exact ⟨_, rfl, State.Follows.rfl⟩
  case awaitTimeout =>
    simp only [exec, execAwaitTimeout]
    split
    · split_ifs <;> exact ⟨_, rfl, by simp, by simp⟩
    · exact ⟨_, rfl, State.Follows.rfl⟩
  case lineInputChange line sf sd =>
    simp only [exec, execLineInputChange]
    split_ifs
    · exact ⟨_, rfl, State.Follows.rfl⟩
    · exact ⟨_, rfl, State.follows_of_eq (by simp) (by simp)⟩
  case holdoffExpiry line =>
    simp only [exec, execHoldoffExpiry]
    split
    · exact ⟨_, rfl, State.Follows.rfl⟩
    · exact ⟨_, rfl, by simp, by simp⟩
  case txactTransition =>
    simp only [exec, execTxactTransition]
    split_ifs
    · exact ⟨_, rfl, State.follows_of_eq (by simp) (by simp)⟩
    · exact ⟨_, rfl, State.Follows.rfl⟩
  case silenceTimerExpiry =>
    simp only [exec, execSilenceTimerExpiry]
    split
    · exact ⟨_, rfl, State.Follows.rfl⟩
    · exact ⟨_, rfl, by simp, by simp⟩
  case wtrTimerExpiry =>
    simp only [exec, execWtrTimerExpiry]
    split
    · exact ⟨_, rfl, State.Follows.rfl⟩
    · exact ⟨_, rfl, State.follows_of_advanced rfl rfl⟩
  case discardTimerExpiry =>
    simp only [exec, execDiscardTimerExpiry]
    split
    · exact ⟨_, rfl, State.Follows.rfl⟩
    · exact ⟨_, rfl, State.follows_of_advanced rfl rfl⟩
  case commandSubmission v => exact ⟨_, rfl, State.portWrite_follows _ (s.submitted_follows v)⟩
  case commandAcknowledge v => exact ⟨_, rfl, State.portWrite_follows _ (s.acknowledged_follows v)⟩
  case start => exact ⟨_, rfl, State.control_follows _ fun u => s.startTaken_follows⟩
  case rejoin => exact ⟨_, rfl, State.control_follows _ fun u => s.rejoinTaken_follows⟩
  case softReset => exact ⟨_, rfl, State.control_follows _ fun u => s.softResetTaken_follows⟩
  case hold => exact ⟨_, rfl, State.control_follows _ fun u => s.holdTaken_follows⟩
  case resume => exact ⟨_, rfl, State.control_follows _ fun u => s.resumeTaken_follows⟩
  case stop => exact ⟨_, rfl, State.control_follows _ fun u => s.stopTaken_follows⟩
  case clearFault => exact ⟨_, rfl, State.control_follows _ fun u => s.clearFaultTaken_follows⟩
  case snap => exact ⟨_, rfl, State.control_follows _ fun u => s.snapTaken_follows⟩
  case snapRelease => exact ⟨_, rfl, State.control_follows _ fun u => s.snapReleaseTaken_follows⟩
  case ctrlUnknownCode code =>
    simp only [exec, execCtrlUnknownCode]
    split_ifs
    · exact ⟨_, rfl, State.Follows.rfl⟩
    · exact ⟨_, rfl, State.control_follows _ fun u taken => by cases taken⟩
  case istatWrite v => exact ⟨_, rfl, State.portWrite_follows _ State.Follows.rfl⟩
  case ienWrite v => exact ⟨_, rfl, State.portWrite_follows _ State.Follows.rfl⟩
  case pointerWrite reg v => exact ⟨_, rfl, State.portWrite_follows _ State.Follows.rfl⟩
  case stagingWrite w v => exact ⟨_, rfl, State.portWrite_follows _ (s.staged_follows w v)⟩
  case windowDataRead w => exact ⟨_, rfl, s.portRead_follows _⟩
  case snapdataRead => exact ⟨_, rfl, s.portRead_follows _⟩
  case groupCapture g =>
    simp only [exec, execGroupCapture]
    split_ifs
    · split
      · exact ⟨_, rfl, State.takeAt_follows _ _⟩
      · split_ifs
        · exact ⟨_, rfl, s.readOn_follows _⟩
        · exact ⟨_, rfl, State.Follows.rfl⟩
    · exact ⟨_, rfl, State.Follows.rfl⟩
  case registerWriteIgnored a =>
    simp only [exec, execRegisterWriteIgnored]
    split_ifs
    · exact ⟨_, rfl, State.Follows.rfl⟩
    · exact ⟨_, rfl, State.portWrite_follows _ State.Follows.rfl⟩
  case lowStretchBegin =>
    simp only [exec, execLowStretchBegin]
    split_ifs <;> exact ⟨_, rfl, State.Follows.rfl⟩
  case shortStretchEnd =>
    simp only [exec, execShortStretchEnd]
    split_ifs <;> exact ⟨_, rfl, State.Follows.rfl⟩
  case lineReleased =>
    simp only [exec, execLineReleased]
    split_ifs <;> exact ⟨_, rfl, State.Follows.rfl⟩
  case markerEnd =>
    simp only [exec, execMarkerEnd]
    split_ifs <;> exact ⟨_, rfl, State.Follows.rfl⟩
  case commandByteReceived b =>
    simp only [exec, execCommandByteReceived]
    split_ifs
    · exact ⟨_, rfl, State.Follows.rfl⟩
    · split
      · unfold State.beginFrame
        dsimp only
        split_ifs
        · exact ⟨_, rfl, State.Follows.rfl⟩
        · exact ⟨_, rfl, State.takeAt_follows _ _⟩
      · split_ifs
        · exact ⟨_, rfl, s.writeAt_follows _ b⟩
        · exact ⟨_, rfl, s.readOn_follows _⟩
    · exact ⟨_, rfl, State.Follows.rfl⟩
  case transactionEnd => exact ⟨_, rfl, State.Follows.rfl⟩

/-- Settles O2: each arm of `exec` answers a next state that follows the one before. -/
theorem everyCommandAnswersANextState : Obligations.EveryCommandAnswersANextState := by
  intro c s
  obtain ⟨t, answers, pending, now⟩ := exec_follows s c
  exact ⟨t, answers, pending, now⟩

end

/-! ## Full reset (R42) -/

/-- An emptied outgoing record calls for no dominant cell where a permission of the cell's field is needed. -/
theorem State.writesDominant_emptied {s : State} (emptied : s.vbi.outgoing = Outgoing.emptied) (k : Nat) : s.writesDominant k = false := by
  have status : s.mayWriteStatus = false := by simp [State.mayWriteStatus, emptied, Outgoing.emptied, Participation.inGroup]
  have group : s.mayWriteGroup = false := by simp [State.mayWriteGroup, emptied, Outgoing.emptied]
  unfold State.writesDominant
  rw [status, group, ite_self, Bool.false_and]

/-- Settles O3: the reset values block by block. -/
theorem resetStateHoldsTheResetValues : Obligations.ResetStateHoldsTheResetValues := by
  have vbi := fun (s : State) (k : Nat) (emptied : s.vbi.outgoing = State.reset.vbi.outgoing) => State.writesDominant_emptied emptied k
  have entries : ∀ n : Pos, State.reset.gtu.entry n = Entry.cleared .empty := fun n => Gtu.entry_cleared _ n
  have filters : ∀ n : Fin 4, State.reset.filter n = ⟨.clear, none⟩ := by decide
  refine ⟨⟨rfl, rfl, rfl, rfl, rfl, rfl, rfl, rfl, vbi⟩, ⟨rfl, rfl, rfl, rfl, rfl, rfl, rfl⟩, ⟨entries, rfl, rfl, rfl⟩,
    ⟨filters, rfl, rfl, rfl, rfl⟩, ⟨rfl, rfl, rfl, rfl, rfl⟩, ?_, ⟨rfl, rfl, rfl, rfl, rfl, rfl, rfl⟩, ?_, rfl⟩
  all_goals and_intros <;> rfl

/-- At the release each line is judged with the holdoffs that stand before the freeze. -/
theorem State.judgedFilter_unconfigured {s : State} (unconfigured : s.sl.config = none) (n : Fin 4) (held : s.filter n = ⟨.clear, none⟩) :
    s.judgedFilter n =
      if s.raw n = .clear then ⟨.clear, none⟩ else ⟨.clear, some (s.raw n, s.now + ms 100)⟩ := by
  have hold : ∀ f c : Condition, s.holdoff f c = ms 100 := fun f c => by
    simp [State.holdoff, State.setHoldoff, State.clearHoldoff, State.frozen, unconfigured]
  have positive : ms 100 ≠ 0 := by decide
  unfold State.judgedFilter
  simp only [held, hold, if_neg positive]

/-- Settles O4: the state after a full reset, and the release with its four lines judged. -/
theorem fullResetAndItsRelease : Obligations.FullResetAndItsRelease := by
  refine ⟨fun s => rfl, fun pos s reset cm unconfigured => ?_, fun pos s released => ?_⟩
  · have held : ∀ n : Fin 4, s.filter n = ⟨.clear, none⟩ := by
      unfold State.filter
      rw [cm]
      decide
    dsimp only
    simp only [exec, execFullResetRelease, if_pos reset, State.sampleLines, State.judgeLines_eq]
    have line := fun n => State.judgedFilter_unconfigured (s := ((s.setSl (s.sl.released pos.straps s.now)).setMp (s.mp.released pos.scsLow)).enterLoading)
      unconfigured n (held n)
    rw [line 0, line 1, line 2, line 3]
    rfl
  · simp only [exec, execFullResetRelease, if_neg released]

/-! ## The laws after reset -/

/-- Settles O53: each law of `Lawful` at the reset values. -/
theorem resetIsLawful : Obligations.ResetIsLawful := by
  have configured : ConfigurationValid State.reset := fun f frozen => by cases frozen
  exact ⟨by decide, by decide +kernel, by decide +kernel, by decide +kernel, by decide +kernel, by decide +kernel, configured, by decide,
    by decide, by decide, by decide, by decide, by decide, by decide, by decide⟩

end Sys2Proof.Machine
end

section
/-! SUPPORT. The start-up loader: the address phase and what SL does on its lines (R157), image bytes (R158 to R160), the checks of a configuration (R16,
R160), the two check sums (R17, R159), and the freeze with START (R162, R165). -/

namespace Sys2Proof.Machine

open Sys2Proof.Safety

/-! ## The address phase (R157) -/

section
variable {p : AddressPhase}

theorem attemptSucceeds_iff : attemptSucceeds p = true ↔
    p.sdaHighAfter ≤ 9 ∧ p.ackWrite = true ∧ p.ackOffsetHigh = true ∧ p.ackOffsetLow = true ∧ p.ackRead = true := by
  simp only [attemptSucceeds, Bool.and_eq_true, decide_eq_true_eq, and_assoc]

theorem attemptSucceeds_eq_false_iff : attemptSucceeds p = false ↔
    9 < p.sdaHighAfter ∨ p.ackWrite = false ∨ p.ackOffsetHigh = false ∨ p.ackOffsetLow = false ∨ p.ackRead = false := by
  rw [← Bool.not_eq_true, attemptSucceeds_iff]
  simp only [not_and_or, not_le, Bool.not_eq_true]

/-- With SDA free within nine pulses the bus check pulses as often as SDA needs. -/
theorem busCheck_of_free (free : p.sdaHighAfter ≤ 9) :
    busCheck p = if p.sdaHighAfter = 0 then [] else List.replicate p.sdaHighAfter .pulse ++ [.stop] := by
  rw [busCheck, min_eq_left free]

theorem addressActions_of_free (free : p.sdaHighAfter ≤ 9) : addressActions p = busCheck p ++ addressBytes p := by
  rw [addressActions, if_pos free]

/-- With SDA still low after nine pulses the attempt ends with the bus check. -/
theorem addressActions_of_stuck (stuck : 9 < p.sdaHighAfter) : addressActions p = List.replicate 9 .pulse ++ [.stop] := by
  rw [addressActions, if_neg (by omega), List.append_nil, busCheck, if_neg (by omega), min_eq_right (by omega)]

end

section
variable {s : State}

theorem State.attemptFails_early {n : Nat} (early : n < 3) :
    s.attemptFails n = { s with sl := { s.sl with phase := .pausing n (s.now + ms 5) } } := by
  rw [State.attemptFails, if_pos (show n < attemptLimit from early)]
  rfl

theorem State.attemptFails_last {n : Nat} (last : 3 ≤ n) : s.attemptFails n = s.loadFails .noDevice := by
  rw [State.attemptFails, if_neg (show ¬n < attemptLimit from Nat.not_lt.mpr last)]

end

/-- Settles O6: each event of the address phase by the phase it finds, and the actions of an attempt by where it ends. -/
theorem addressPhaseOfTheRead : Obligations.AddressPhaseOfTheRead := by
  refine ⟨fun s due settling => ?_, fun s n due pausing => ?_, fun s n p addressing succeeds => ?_, fun s n c wire addressing fails => ?_,
    fun p => ⟨addressActions_of_stuck, fun free => ?_⟩, fun s receiving => ?_, fun l => ?_, fun s other => ?_, fun s other => ?_,
    fun s p other => ?_, fun s other image => ?_, fun s b other => ?_⟩
  · simp only [exec, execLoadReadStart, settling]
    rfl
  · simp only [exec, execAddressAttemptRetry, pausing]
    rfl
  · have actions : addressActions p = (if p.sdaHighAfter = 0 then [] else List.replicate p.sdaHighAfter .pulse ++ [.stop]) ++
        [.start, .send 0xAC#8, .send 0x00#8, .send 0x00#8, .start, .send 0xAD#8] := by
      rw [addressActions_of_free succeeds.1, busCheck_of_free succeeds.1]
      simp [addressBytes, succeeds, deviceWrite, deviceRead]
    simp only [exec, execAddressPhaseAttempt, addressing, if_pos (attemptSucceeds_iff.mpr succeeds), actions]
    rfl
  · have failed : exec c s = .next ((s.setSl (s.sl.acts wire)).attemptFails n) := by
      rcases fails with ⟨rfl, rfl⟩ | ⟨p, rfl, rfl, unsuccessful⟩
      · simp only [exec, execClockStretchTimeout, addressing]
      · simp only [exec, execAddressPhaseAttempt, addressing, attemptSucceeds_eq_false_iff.mpr unsuccessful, Bool.false_eq_true, if_false]
    refine ⟨fun early => ?_, fun last => ?_⟩
    · rw [failed, State.attemptFails_early early]
      rfl
    · rw [failed, State.attemptFails_last last]
      rfl
  · rw [addressActions_of_free free, busCheck_of_free free]
    refine ⟨fun write => ?_, fun write high => ?_, fun write high low => ?_, fun write high low read => ?_⟩
    · simp [addressBytes, write, deviceWrite]
    · simp [addressBytes, write, high, deviceWrite]
    · simp [addressBytes, write, high, low, deviceWrite]
    · simp [addressBytes, write, high, low, read, deviceWrite, deviceRead]
  · simp only [exec, execClockStretchTimeout, receiving]
    rfl
  · cases phase : l.phase <;> simp [Sl.drivesBus, phase]
  · simp only [exec, execLoadReadStart]
    split
    · exact absurd ‹_› (other _)
    all_goals rfl
  · simp only [exec, execAddressAttemptRetry]
    split
    · exact absurd ‹_› (other _ _)
    all_goals rfl
  · simp only [exec, execAddressPhaseAttempt]
    split
    · exact absurd ‹_› (other _)
    all_goals rfl
  · simp only [exec, execClockStretchTimeout]
    split
    · exact absurd ‹_› (other _)
    · exact absurd ‹_› image
    all_goals rfl
  · simp only [exec, execImageByteReceived]
    split
    · exact absurd ‹_› other
    all_goals rfl

/-! ## Image bytes (R158 to R160) -/

section
variable {l : List Byte}

theorem imageStatus_of_noFormat (short : byteAt l 0 ≠ 0x3C#8) (full : byteAt l 0 ≠ 0xC3#8) : imageStatus l = .stop .noImage := by
  rw [imageStatus, if_neg (show ¬byteAt l 0 = formatShort from short), if_neg (show ¬byteAt l 0 = formatFull from full)]

theorem imageStatus_of_short (short : byteAt l 0 = 0x3C#8) : imageStatus l = if l.length < 31 then .more else .whole := by
  rw [imageStatus, if_pos (show byteAt l 0 = formatShort from short)]

theorem imageStatus_of_full (full : byteAt l 0 = 0xC3#8) :
    imageStatus l =
      if l.length < 67 then .more
      else if 256 < imageStepCount l then .stop .invalid
      else if l.length < 69 + 8 * imageStepCount l then .more
      else .whole := by
  have short : ¬byteAt l 0 = formatShort := by rw [full]; decide
  rw [imageStatus, if_neg short, if_pos (show byteAt l 0 = formatFull from full)]
  rfl

/-- The image is whole: its last byte needed has come. -/
def imageWhole (l : List Byte) : Prop :=
  (byteAt l 0 = 0x3C#8 ∧ l.length = 31) ∨
    (byteAt l 0 = 0xC3#8 ∧ 67 ≤ l.length ∧ imageStepCount l ≤ 256 ∧ l.length = 69 + 8 * imageStepCount l)

theorem imageStatus_of_whole (whole : imageWhole l) : imageStatus l = .whole := by
  rcases whole with ⟨short, length⟩ | ⟨full, long, count, length⟩
  · rw [imageStatus_of_short short, if_neg (by omega)]
  · rw [imageStatus_of_full full, if_neg (by omega), if_neg (by omega), if_neg (by omega)]

end

section
variable {s : State} {b : Byte}

theorem execImageByteReceived_more (receiving : s.sl.phase = .receiving) (more : imageStatus (s.sl.image ++ [b]) = .more) :
    execImageByteReceived b s = .next (s.setSl ((s.sl.received b).acts [.ack])) := by
  have status : imageStatus (s.sl.received b).image = .more := more
  simp only [execImageByteReceived, receiving, status]
  rfl

theorem execImageByteReceived_stop {c : LoadCause} (receiving : s.sl.phase = .receiving) (stop : imageStatus (s.sl.image ++ [b]) = .stop c) :
    execImageByteReceived b s = .next ((s.setSl ((s.sl.received b).acts [.nack, .stop])).loadFails c) := by
  have status : imageStatus (s.sl.received b).image = .stop c := stop
  simp only [execImageByteReceived, receiving, status]
  rfl

theorem execImageByteReceived_whole (receiving : s.sl.phase = .receiving) (whole : imageWhole (s.sl.image ++ [b])) :
    execImageByteReceived b s = .next (s.setSl ((s.sl.received b).acts [.nack, .stop])).checkImage := by
  have status : imageStatus (s.sl.received b).image = .whole := imageStatus_of_whole whole
  simp only [execImageByteReceived, receiving, status]
  rfl

/-- SL after a byte, with the step count found written as R167 has it. -/
theorem Sl.received_eq (l : Sl) (b : Byte) : l.received b =
    { l with
        image := l.image ++ [b], byteCount := l.byteCount + 1,
        formatFound := if (l.image ++ [b]).length = 1 then some b else l.formatFound,
        stepCountFound :=
          if (l.image ++ [b]).length = 67 ∧ byteAt (l.image ++ [b]) 0 = 0xC3#8 then some (imageStepCount (l.image ++ [b]))
          else l.stepCountFound } := by
  have last : ∀ (n : Nat) (w : Byte), (decide (n = 67) && decide (w = formatFull)) = true ↔ n = 67 ∧ w = 0xC3#8 := by
    intro n w
    rw [Bool.and_eq_true, decide_eq_true_eq, decide_eq_true_eq]
    rfl
  simp only [Sl.received, last]

/-- The check of a whole image with a CRC that differs. -/
theorem State.checkImage_crc (differs : (imageCrcs s.sl.image).1 ≠ (imageCrcs s.sl.image).2) :
    s.checkImage = (s.setSl { s.sl with crcs := some (imageCrcs s.sl.image) }).loadFails .crc := by
  simp only [State.checkImage, if_neg differs]

theorem State.checkImage_judges (agrees : (imageCrcs s.sl.image).1 = (imageCrcs s.sl.image).2) :
    s.checkImage = (s.setSl { s.sl with crcs := some (imageCrcs s.sl.image) }).judgeImage := by
  simp only [State.checkImage, if_pos agrees]

theorem State.judgeImage_invalid
    (invalid : blockValid s.sl.ownPos (imageArea s.sl.image) = false ∨
      (byteAt s.sl.image 0 = 0xC3#8 ∧
        stepsValid (imageDirectory s.sl.image) (imageStepCount s.sl.image) (imageSteps s.sl.image) = false)) :
    s.judgeImage = s.loadFails .invalid := by
  unfold State.judgeImage
  rcases invalid with block | ⟨full, steps⟩
  · simp [block]
  · have short : ¬byteAt s.sl.image 0 = formatShort := by rw [full]; decide
    simp [short, steps]

theorem State.judgeImage_short (block : blockValid s.sl.ownPos (imageArea s.sl.image) = true) (short : byteAt s.sl.image 0 = 0x3C#8) :
    s.judgeImage = s.freeze .eepromShort (frozenOf (imageArea s.sl.image) defaultDirectory defaultSteps) := by
  have short : byteAt s.sl.image 0 = formatShort := short
  simp [State.judgeImage, block, short]

theorem State.judgeImage_full (block : blockValid s.sl.ownPos (imageArea s.sl.image) = true) (full : byteAt s.sl.image 0 = 0xC3#8)
    (steps : stepsValid (imageDirectory s.sl.image) (imageStepCount s.sl.image) (imageSteps s.sl.image) = true) :
    s.judgeImage = s.freeze .eepromFull (frozenOf (imageArea s.sl.image) (imageDirectory s.sl.image) (imageSteps s.sl.image)) := by
  have short : ¬byteAt s.sl.image 0 = formatShort := by rw [full]; decide
  simp [State.judgeImage, block, short, steps]

end

/-- Settles O7: an image byte by the status of the bytes so far, and the checks of a whole image. -/
theorem imageBytesUntilTheReadEnds : Obligations.ImageBytesUntilTheReadEnds := by
  refine ⟨?_, ?_⟩
  · intro s b receiving l count unsettled
    have more : imageStatus l = .more := by
      rcases unsettled with ⟨short, length⟩ | ⟨full, length⟩ | ⟨full, long, small, length⟩
      · rw [imageStatus_of_short short, if_pos length]
      · rw [imageStatus_of_full full, if_pos length]
      · rw [imageStatus_of_full full, if_neg (Nat.not_lt.mpr long), if_neg (show ¬256 < imageStepCount l from Nat.not_lt.mpr small),
          if_pos (show l.length < 69 + 8 * imageStepCount l from length)]
    refine (execImageByteReceived_more receiving more).trans ?_
    rw [Sl.received_eq]
    rfl
  · intro s b receiving l count got n crcs fails area whole directory steps
    have received : (s.sl.received b).acts [.nack, .stop] = got := by
      rw [Sl.received_eq]
      rfl
    have stopped : ∀ c, imageStatus l = .stop c → exec (.imageByteReceived b) s = .next (fails got c) := fun c stop => by
      refine (execImageByteReceived_stop receiving stop).trans ?_
      rw [received]
      rfl
    have checked : whole → exec (.imageByteReceived b) s = .next (s.setSl got).checkImage := fun whole => by
      rw [← received]
      exact execImageByteReceived_whole receiving whole
    refine ⟨fun ⟨short, full⟩ => stopped _ (imageStatus_of_noFormat short full), fun ⟨full, long, large⟩ => stopped _ ?_,
      fun complete differs => ?_, fun complete agrees invalid => ?_, fun complete agrees block short => ?_,
      fun complete agrees block full valid => ?_⟩
    · rw [imageStatus_of_full full, if_neg (Nat.not_lt.mpr long), if_pos (show 256 < imageStepCount l from large)]
    · rw [checked complete, State.checkImage_crc (s := s.setSl got) differs]
      rfl
    · have judged : (s.setSl got).checkImage = ((s.setSl got).setSl { got with crcs := some (imageCrcs l) }).judgeImage :=
        State.checkImage_judges agrees
      rw [checked complete, judged,
        State.judgeImage_invalid (s := (s.setSl got).setSl { got with crcs := some (imageCrcs l) }) invalid]
      rfl
    · have judged : (s.setSl got).checkImage = ((s.setSl got).setSl { got with crcs := some (imageCrcs l) }).judgeImage :=
        State.checkImage_judges agrees
      rw [checked complete, judged,
        State.judgeImage_short (s := (s.setSl got).setSl { got with crcs := some (imageCrcs l) }) block short]
      rfl
    · have judged : (s.setSl got).checkImage = ((s.setSl got).setSl { got with crcs := some (imageCrcs l) }).judgeImage :=
        State.checkImage_judges agrees
      rw [checked complete, judged,
        State.judgeImage_full (s := (s.setSl got).setSl { got with crcs := some (imageCrcs l) }) block full valid]
      rfl

/-! ## The checks of a configuration (R16, R160) -/

section
variable (a : List Byte) (n : Pos)

theorem blockRoleCode_lt : blockRoleCode a n < 4 := Nat.mod_lt _ (by decide)

theorem blockRole_eq_primary_iff : blockRole a n = .primary ↔ blockRoleCode a n = 1 := by
  unfold blockRole
  split <;> simp_all

theorem blockRole_eq_backup_iff : blockRole a n = .backup ↔ blockRoleCode a n = 2 := by
  unfold blockRole
  split <;> simp_all

theorem blockRole_eq_empty_iff (role : blockRoleCode a n ≠ 3) : blockRole a n = .empty ↔ blockRoleCode a n = 0 := by
  have := blockRoleCode_lt a n
  unfold blockRole
  split <;> simp_all
  omega

theorem all_allPos_iff (f : Pos → Bool) : allPos.all f = true ↔ ∀ n : Pos, f n = true := by
  simp [List.all_eq_true, mem_allPos]

theorem any_allPos_iff (f : Pos → Bool) : allPos.any f = true ↔ ∃ n : Pos, f n = true := by
  simp [List.any_eq_true, mem_allPos]

/-- The PAIRED partner check of one position, by its role code. -/
theorem pairedOk_iff (role : blockRoleCode a n ≠ 3) : pairedOk a n = true ↔
    (blockRoleCode a n = 2 → ∃ q : Pos, blockPartner a n = some q ∧ blockRoleCode a q = 1 ∧ blockPartner a q = some n) ∧
    (∀ q : Pos, blockRoleCode a n = 1 → blockPartner a n = some q → blockRoleCode a q = 2 ∧ blockPartner a q = some n) ∧
    (blockRoleCode a n = 0 → blockPartner a n = none) := by
  have primary := blockRole_eq_primary_iff a
  have backup := blockRole_eq_backup_iff a
  have empty := blockRole_eq_empty_iff a n role
  unfold pairedOk
  cases hr : blockRole a n <;> cases hp : blockPartner a n
  · simp [empty.mp hr]
  · simp [empty.mp hr]
  · simp [(primary n).mp hr]
  · simp [(primary n).mp hr, backup]
  · simp [(backup n).mp hr]
  · simp [(backup n).mp hr, primary]

end

/-- The record checks, kind by kind. -/
theorem StepRecord.valid_iff (count : Nat) (r : StepRecord) : r.valid count = true ↔
    r.nextIndex.toNat < count ∧ r.fallbackIndex.toNat < count ∧
      (((r.kind = some .drive ∨ r.kind = some .release) ∧ r.first16 < 4096) ∨ (r.kind = some .dwell ∧ 1 ≤ r.duration) ∨
        (r.kind = some .await ∧ 1 ≤ r.timeout ∧ r.retryTarget.toNat < count)) := by
  unfold StepRecord.valid
  cases kind : r.kind with
  | none => simp
  | some k => cases k <;> simp [and_assoc]

/-- Settles O8: the block's checks conjunct by conjunct, and the checks of the directory and the records. -/
theorem configurationChecksAreTheTables : Obligations.ConfigurationChecksAreTheTables := by
  refine ⟨fun own a => ?_, fun d count l => ?_⟩
  · have paired (roles : ∀ n : Pos, blockRoleCode a n ≠ 3) := forall_congr' fun n => pairedOk_iff a n (roles n)
    simp only [blockValid, Bool.and_eq_true, Bool.or_eq_true, decide_eq_true_eq, all_allPos_iff, any_allPos_iff, and_assoc]
    refine and_congr_right fun _ => and_congr_right fun roles => and_congr_right fun _ => and_congr_right fun _ => and_congr ?_ Iff.rfl
    refine or_congr Iff.rfl ?_
    rw [paired roles]
    simp only [forall_and]
  · simp only [stepsValid, Bool.and_eq_true, decide_eq_true_eq, List.all_eq_true, and_assoc, StepRecord.valid_iff, directoryByteOk,
      Bool.or_eq_true]
    rfl

/-! ## The check sums (R17, R159) -/

/-- One shift, with the bit pushed out named by its place. -/
theorem crcShift_eq {w : Nat} (g : BitVec w) :
    crcShift g = fun r => if r.getLsbD (w - 1) then (r <<< 1) ^^^ g else r <<< 1 := by
  funext r
  rw [crcShift, BitVec.msb_eq_getLsbD_last]

theorem crcShift8_eq {w : Nat} (g r : BitVec w) : crcShift8 g r = (crcShift g)^[8] r := rfl

/-- Settles O9: the fold over the bytes, one byte at the end at a time. -/
theorem checksumsFollowTheirGenerators : Obligations.ChecksumsFollowTheirGenerators := by
  refine ⟨rfl, rfl, fun l b => ?_, fun l b => ?_⟩
  · rw [crc8, List.foldl_append, List.foldl_cons, List.foldl_nil, crcShift8_eq, crcShift_eq]
    rfl
  · rw [crc16, List.foldl_append, List.foldl_cons, List.foldl_nil, crcShift8_eq, crcShift_eq]
    rfl

end Sys2Proof.Machine
end

section
/-! SUPPORT. The freeze and START (R162, R165): what the freeze hands on to the engine, and the engine's answer to START. -/

namespace Sys2Proof.Machine

open Sys2Proof.Safety

/-! ## The monitor's part of the freeze (R109) -/

section
variable (s : State)

@[simp] theorem State.filters_deriveOwn : s.deriveOwn.cm.filters = s.cm.filters := by
  rw [State.deriveOwn_cm]

@[simp] theorem State.filters_judgeMonitor : s.judgeMonitor.cm.filters = s.cm.filters := by
  unfold State.judgeMonitor
  split
  · rfl
  · split
    · rfl
    · simp

/-- A derivation touches the interrupt status of the port alone. -/
@[simp] theorem State.mp_deriveOwn : s.deriveOwn.mp = { s.mp with istat := s.deriveOwn.mp.istat } := by
  unfold State.deriveOwn
  split <;> rfl

theorem State.judgeMonitor_mp : s.judgeMonitor.mp = { s.mp with istat := s.judgeMonitor.mp.istat } := by
  unfold State.judgeMonitor
  split
  · rfl
  · split
    · rfl
    · exact State.mp_deriveOwn _

theorem State.takeParameters_mp : s.takeParameters.mp = { s.mp with istat := s.takeParameters.mp.istat } := by
  unfold State.takeParameters
  rw [State.mp_deriveOwn, State.judgeMonitor_mp]
  rfl

/-- Taking the parameters over judges each line as it stands. -/
theorem State.filter_takeParameters (n : Fin 4) : s.takeParameters.filter n = s.judgedFilter n := by
  rw [State.takeParameters, State.filter_deriveOwn, State.filter_judgeMonitor, State.filter_judgeLines]

end

/-! ## What an offer touches of the port and of the monitor -/

section
variable (s : State)

/-- What an offer can do, by the engine state it finds and by its queue (R136, R137). -/
theorem State.offer_cases (d : Directive) :
    (s.ae.engine = .idle ∧ s.offer d = ({ s with ae := { s.ae with debt := s.ae.debt + 1 } }).runQueue [d]) ∨
    (s.ae.engine.queues = true ∧ s.ae.coalesces d = true ∧
      s.offer d = { s with ae := { s.ae with queue := s.ae.queue.dropLast, debt := s.ae.debt - 1 } }) ∨
    (s.ae.engine.queues = true ∧ s.ae.queue.length < queueDepth ∧
      s.offer d = { s with ae := { s.ae with queue := s.ae.queue ++ [d], debt := s.ae.debt + 1 } }) ∨
    (s.ae.engine.queues = true ∧
      s.offer d = s.engineFault ⟨.overflow, some d, if s.ae.engine.moving then s.ae.stepIndex else none⟩) ∨
    (s.ae.engine.out = true ∧ s.offer d = s) := by
  have disposed : s.ae.engine = .idle ∨ s.ae.engine.queues = true ∨ s.ae.engine.out = true := by
    cases s.ae.engine <;> decide
  rcases disposed with idle | queues | out
  · exact .inl ⟨idle, s.offer_idle d idle⟩
  · refine .inr ?_
    cases c : s.ae.coalesces d with
    | true => exact .inl ⟨queues, rfl, s.offer_coalesces d queues c⟩
    | false =>
      by_cases room : s.ae.queue.length < queueDepth
      · exact .inr (.inl ⟨queues, room, s.offer_appends d queues c room⟩)
      · exact .inr (.inr (.inl ⟨queues, s.offer_overflows d queues c room⟩))
  · exact .inr (.inr (.inr (.inr ⟨out, s.offer_out d out⟩)))

theorem State.engineFault_mp (f : FaultRecord) : (s.engineFault f).mp = { s.mp with istat := (s.engineFault f).mp.istat } := by
  unfold State.engineFault
  rw [State.judgeMonitor_mp]
  rfl

theorem State.completed_mp (d : Directive) : (s.completed d).mp = { s.mp with istat := (s.completed d).mp.istat } := by
  unfold State.completed State.raiseIf
  split <;> rfl

theorem State.engineRests_mp : s.engineRests.mp = { s.mp with istat := s.engineRests.mp.istat } := by
  unfold State.engineRests
  rw [State.judgeMonitor_mp]

theorem State.sequenceBegins_mp (d : Directive) (rest : List Directive) :
    (s.sequenceBegins d rest).mp = { s.mp with istat := (s.sequenceBegins d rest).mp.istat } := by
  unfold State.sequenceBegins
  rw [State.judgeMonitor_mp]

/-- `m` is `m'` but for the interrupt status. -/
def Mp.SameButStatus (m m' : Mp) : Prop := m = { m' with istat := m.istat }

theorem Mp.SameButStatus.rfl {m : Mp} : m.SameButStatus m := Eq.refl m

theorem Mp.SameButStatus.trans {a b c : Mp} (ab : a.SameButStatus b) (bc : b.SameButStatus c) : a.SameButStatus c := by
  unfold Mp.SameButStatus at *
  rw [ab, bc]

theorem State.runQueue_mp (l : List Directive) : (s.runQueue l).mp.SameButStatus s.mp := by
  induction l generalizing s with
  | nil => exact s.engineRests_mp
  | cons d rest ih =>
    unfold State.runQueue
    split
    · exact (ih _).trans (State.completed_mp _ d)
    · dsimp only
      have begins : (s.sequenceBegins d rest).mp.SameButStatus s.mp := s.sequenceBegins_mp d rest
      split
      · exact begins
      · exact Mp.SameButStatus.trans (State.engineFault_mp _ _) begins
      · exact (ih _).trans (Mp.SameButStatus.trans (State.completed_mp _ d) begins)

theorem State.offer_mp (d : Directive) : (s.offer d).mp.SameButStatus s.mp := by
  rcases s.offer_cases d with ⟨-, runs⟩ | ⟨-, -, coalesces⟩ | ⟨-, -, appends⟩ | ⟨-, overflows⟩ | ⟨-, discards⟩
  · rw [runs]; exact State.runQueue_mp _ _
  · rw [coalesces]; exact Mp.SameButStatus.rfl
  · rw [appends]; exact Mp.SameButStatus.rfl
  · rw [overflows]; exact s.engineFault_mp _
  · rw [discards]; exact Mp.SameButStatus.rfl

@[simp] theorem State.filters_engineFault (f : FaultRecord) : (s.engineFault f).cm.filters = s.cm.filters := by
  simp [State.engineFault]

@[simp] theorem State.filters_engineRests : s.engineRests.cm.filters = s.cm.filters := by
  simp [State.engineRests]

@[simp] theorem State.filters_sequenceBegins (d : Directive) (rest : List Directive) :
    (s.sequenceBegins d rest).cm.filters = s.cm.filters := by
  simp [State.sequenceBegins]

@[simp] theorem State.filters_runQueue (l : List Directive) : (s.runQueue l).cm.filters = s.cm.filters := by
  induction l generalizing s with
  | nil => simp
  | cons d rest ih =>
    unfold State.runQueue
    split
    · simp [ih]
    · dsimp only
      split <;> simp [ih]

@[simp] theorem State.filters_offer (d : Directive) : (s.offer d).cm.filters = s.cm.filters := by
  rcases s.offer_cases d with ⟨-, runs⟩ | ⟨-, -, coalesces⟩ | ⟨-, -, appends⟩ | ⟨-, overflows⟩ | ⟨-, discards⟩
  · rw [runs, State.filters_runQueue]
  · rw [coalesces]
  · rw [appends]
  · rw [overflows, State.filters_engineFault]
  · rw [discards]

/-- Once raised a flag stands through an offer. -/
theorem Mp.raised_raise {m : Mp} {i j : Irq} (raised : m.raised i = true) : (m.raise j).raised i = true := by
  unfold Mp.raised Mp.raise at *
  simp [raised]

theorem Mp.raised_raise_self (m : Mp) (i : Irq) : (m.raise i).raised i = true := by
  unfold Mp.raised Mp.raise
  cases i <;> simp [Irq.mask, Irq.index]

theorem State.deriveOwn_raised {i : Irq} (raised : s.mp.raised i = true) : s.deriveOwn.mp.raised i = true := by
  unfold State.deriveOwn
  split
  · exact raised
  · exact Mp.raised_raise raised

theorem State.judgeMonitor_raised {i : Irq} (raised : s.mp.raised i = true) : s.judgeMonitor.mp.raised i = true := by
  unfold State.judgeMonitor
  split
  · exact raised
  · split
    · exact raised
    · exact State.deriveOwn_raised _ raised

theorem State.engineFault_raised (f : FaultRecord) {i : Irq} (raised : s.mp.raised i = true) : (s.engineFault f).mp.raised i = true :=
  State.judgeMonitor_raised _ (Mp.raised_raise raised)

theorem State.completed_raised (d : Directive) {i : Irq} (raised : s.mp.raised i = true) : (s.completed d).mp.raised i = true := by
  unfold State.completed State.raiseIf
  split
  · exact Mp.raised_raise raised
  · exact raised

theorem State.runQueue_raised (l : List Directive) {i : Irq} (raised : s.mp.raised i = true) : (s.runQueue l).mp.raised i = true := by
  induction l generalizing s with
  | nil => exact State.judgeMonitor_raised _ raised
  | cons d rest ih =>
    unfold State.runQueue
    split
    · exact ih _ (State.completed_raised _ d raised)
    · dsimp only
      have begins : (s.sequenceBegins d rest).mp.raised i = true := State.judgeMonitor_raised _ raised
      split
      · exact begins
      · exact State.engineFault_raised _ _ begins
      · exact ih _ (State.completed_raised _ d begins)

theorem State.offer_raised (d : Directive) {i : Irq} (raised : s.mp.raised i = true) : (s.offer d).mp.raised i = true := by
  rcases s.offer_cases d with ⟨-, runs⟩ | ⟨-, -, coalesces⟩ | ⟨-, -, appends⟩ | ⟨-, overflows⟩ | ⟨-, discards⟩
  · rw [runs]; exact State.runQueue_raised _ _ raised
  · rw [coalesces]; exact raised
  · rw [appends]; exact raised
  · rw [overflows]; exact s.engineFault_raised _ raised
  · rw [discards]; exact raised

end

/-! ## The freeze (R162) -/

section
variable (src : LoadSource) (f : Frozen) (s : State)

/-- The state that offers START at the freeze. -/
def State.frozenBeforeStart : State :=
  ((({ s with sl := s.sl.freeze src f }).takeRoles f.area).takeParameters.enterListening).raise .part

theorem State.freeze_eq : s.freeze src f = (s.frozenBeforeStart src f).offer .start := rfl

theorem State.enterListening_raise_mp (i : Irq) : (s.enterListening.raise i).mp.SameButStatus s.mp := Eq.refl _

theorem State.frozenBeforeStart_mp : (s.frozenBeforeStart src f).mp.SameButStatus s.mp := by
  unfold State.frozenBeforeStart
  exact (State.enterListening_raise_mp _ _).trans (State.takeParameters_mp _)

theorem State.filter_enterListening_raise (i : Irq) (n : Fin 4) : (s.enterListening.raise i).filter n = s.filter n := rfl

/-- The lines stand judged when START is offered. -/
theorem State.filter_frozenBeforeStart (n : Fin 4) :
    (s.frozenBeforeStart src f).filter n = (({ s with sl := s.sl.freeze src f }).takeRoles f.area).judgedFilter n := by
  unfold State.frozenBeforeStart
  rw [State.filter_enterListening_raise, State.filter_takeParameters]

/-- A line is judged at the freeze with the holdoffs of the frozen local parameters. -/
theorem State.judgedFilter_frozen (n : Fin 4) :
    let worse := (s.filter n).filtered.code < (s.raw n).code
    let hold := if worse then (byteAt f.area 25).toNat else (byteAt f.area 26).toNat
    (({ s with sl := s.sl.freeze src f }).takeRoles f.area).judgedFilter n =
      if s.raw n = (s.filter n).filtered then ⟨(s.filter n).filtered, none⟩
      else if hold = 0 then ⟨s.raw n, none⟩
      else ⟨(s.filter n).filtered, some (s.raw n, s.now + ms 10 * hold)⟩ := by
  intro worse hold
  let u := ({ s with sl := s.sl.freeze src f }).takeRoles f.area
  have holdoff : u.holdoff (s.filter n).filtered (s.raw n) = ms 10 * hold := by
    have set : u.setHoldoff = ms 10 * (byteAt f.area 25).toNat := rfl
    have clear : u.clearHoldoff = ms 10 * (byteAt f.area 26).toNat := rfl
    rw [State.holdoff, set, clear, ← mul_ite]
  have judged : u.judgedFilter n =
      if s.raw n = (s.filter n).filtered then ⟨(s.filter n).filtered, none⟩
      else if u.holdoff (s.filter n).filtered (s.raw n) = 0 then ⟨s.raw n, none⟩
      else ⟨(s.filter n).filtered, some (s.raw n, s.now + u.holdoff (s.filter n).filtered (s.raw n))⟩ := rfl
  have immediate : ms 10 * hold = 0 ↔ hold = 0 := by simp [ms]
  rw [judged, holdoff]
  simp only [immediate]

/-- The receiver leaves OFF by the level of the line at the first entry to LISTENING. -/
theorem Vbi.leaveOff_off {v : Vbi} (off : v.receiver = .off) :
    v.leaveOff = { v with receiver := if v.lineLow then .blocked else .seeking } := by
  rw [Vbi.leaveOff, if_pos off]

theorem Vbi.leaveOff_on {v : Vbi} (on : v.receiver ≠ .off) : v.leaveOff = v := by
  rw [Vbi.leaveOff, if_neg on]

theorem State.enterListening_vbi_first (off : s.vbi.receiver = .off) (untimed : s.participation.timed = false) :
    s.enterListening.vbi =
      { s.vbi with receiver := if s.vbi.lineLow then .blocked else .seeking, epochTimer := some (s.now + ms 2) } := by
  simp only [State.enterListening, Vbi.leaveOff_off off, untimed]
  rfl

/-- With the built-in steps START releases all outputs within the event. -/
theorem State.runQueue_start_default {t : State} (directory : ∃ c, t.sl.config = some c ∧ c.directory = defaultDirectory ∧ c.steps = defaultSteps) :
    (t.runQueue [.start]).ae.engine = .idle ∧ (t.runQueue [.start]).ae.outputs = 0#12 ∧ (t.runQueue [.start]).ae.actuated = .released ∧
      (t.runQueue [.start]).ae.debt = t.ae.debt - 1 := by
  obtain ⟨c, config, directory, steps⟩ := directory
  have entry : t.dirEntry .start = some 2 := by
    simp only [State.dirEntry, config, directory]
    decide
  have records : (t.sequenceBegins .start []).steps = defaultSteps := by
    simp only [State.steps, State.sequenceBegins_sl, config, steps]
  have releases (a : Ae) : (a.enterUpTo defaultSteps t.pins.fb t.now 1024 2) =
      (({ a with stepCount := a.stepCount + 1, stepIndex := some 2 }).drives (a.outputs &&& ~~~0xFFF#12), .completes) := rfl
  have enters : (t.sequenceBegins .start []).ae.enter (t.sequenceBegins .start []).steps (t.sequenceBegins .start []).pins.fb
      (t.sequenceBegins .start []).now 2 =
      (({ (t.sequenceBegins .start []).ae with stepCount := 1, stepIndex := some 2 }).drives (t.ae.outputs &&& ~~~0xFFF#12), .completes) := by
    rw [records, Ae.enter, State.sequenceBegins_ae, State.sequenceBegins_pins, State.sequenceBegins_now]
    exact releases _
  have clear (o : BitVec 12) : o &&& ~~~0xFFF#12 = 0#12 := by
    rw [show ~~~0xFFF#12 = 0#12 from rfl, BitVec.and_zero]
  unfold State.runQueue
  simp only [entry, enters, clear]
  simp [Ae.drives, Directive.target]

end

/-- Settles O10: the freeze block by block, START being offered to the engine as it stands. -/
theorem freezePutsTheConfigurationInForce : Obligations.FreezePutsTheConfigurationInForce := by
  intro src f s off untimed t
  let u := s.frozenBeforeStart src f
  have offered : t = u.offer .start := s.freeze_eq src f
  have sl : u.sl = s.sl.freeze src f := by simp [u, State.frozenBeforeStart]
  have gtu : u.gtu = Gtu.cleared (blockRole f.area) := by simp [u, State.frozenBeforeStart]
  have pc : u.pc =
      { s.pc with participation := .listening, cleanCount := 0, verifyCount := 0, noNarratorCount := 0, syncHistory := [] } := by
    simp [u, State.frozenBeforeStart, State.enterListening]
  have vbi : u.vbi = { s.vbi with receiver := if s.vbi.lineLow then .blocked else .seeking, epochTimer := some (s.now + ms 2) } := by
    have first := State.enterListening_vbi_first (({ s with sl := s.sl.freeze src f }).takeRoles f.area).takeParameters
      (by simpa using off) (by simpa [State.participation] using untimed)
    simpa [u, State.frozenBeforeStart] using first
  have ae : u.ae = s.ae := by simp [u, State.frozenBeforeStart]
  have mp : u.mp.SameButStatus s.mp := s.frozenBeforeStart_mp src f
  have cu : u.cu = s.cu := by simp [u, State.frozenBeforeStart]
  have pins : u.pins = s.pins := by simp [u, State.frozenBeforeStart]
  have now : u.now = s.now := by simp [u, State.frozenBeforeStart]
  have filter := s.filter_frozenBeforeStart src f
  have part : u.mp.raised .part = true := Mp.raised_raise_self _ .part
  have cu' : t.cu = s.cu := s.freeze_cu src f
  have pins' : t.pins = s.pins := s.freeze_pins src f
  have now' : t.now = s.now := s.freeze_now src f
  have choices' : t.choices = s.choices := s.freeze_choices src f
  have pending' : t.pending = s.pending := s.freeze_pending src f
  replace filter : ∀ n, u.filter n = _ := filter
  clear_value u t
  refine ⟨?_, fun n => ?_, ?_, ?_, ?_, ?_, ?_, fun n => ?_, ?_, ⟨u, offered, ae, ?_, ?_, ?_, ?_, ?_, ?_, ?_, ?_, ?_, fun idle => ?_⟩,
    fun out => ?_, fun held room => ?_, fun idle directory steps => ?_, ?_, ?_, ?_, ?_, ?_, ?_⟩
  · rw [offered, State.offer_sl, sl]
    rfl
  · rw [offered, State.offer_gtu, gtu, Gtu.entry_cleared]
    rfl
  · rw [offered, State.offer_gtu, gtu]
    rfl
  · rw [offered, State.offer_gtu, gtu]
    rfl
  · rw [offered, State.offer_gtu, gtu]
    rfl
  · rw [offered, State.offer_pc, pc]
  · rw [offered, State.offer_vbi, vbi]
  · have judged : t.filter n = u.filter n := by
      rw [offered]
      simp only [State.filter, State.filters_offer]
    dsimp only
    rw [judged, filter n]
    exact s.judgedFilter_frozen src f n
  · rw [offered]
    exact State.offer_raised u .start (i := .part) part
  · rw [offered, State.offer_sl]
  · rw [offered, State.offer_gtu]
  · rw [offered, State.offer_pc]
  · rw [offered, State.offer_vbi]
  · exact cu
  · exact pins
  · exact now
  · rw [offered, State.filters_offer]
  · exact mp
  · rw [offered, u.offer_idle .start (ae ▸ idle), ae]
  · rw [offered, u.offer_out .start (ae ▸ s.ae.engine.out_iff.mpr out), ae]
  · have queues : u.ae.engine.queues = true := by rw [ae, held]; rfl
    have apart : u.ae.coalesces .start = false := (Ae.coalesces_eq_false_iff _ _).mpr fun v inverse => by cases inverse
    rw [offered, u.offer_appends .start queues apart (by rw [ae]; exact room), ← ae]
  · rw [offered, u.offer_idle .start (ae ▸ idle)]
    have config : ∃ c, u.sl.config = some c ∧ c.directory = defaultDirectory ∧ c.steps = defaultSteps :=
      ⟨f, by rw [sl]; rfl, directory, steps⟩
    obtain ⟨engine, outputs, actuated, debt⟩ := State.runQueue_start_default (t := { u with ae := { u.ae with debt := u.ae.debt + 1 } }) config
    exact ⟨engine, outputs, actuated, debt.trans (by rw [← ae]; rfl)⟩
  · exact Mp.SameButStatus.trans (offered ▸ State.offer_mp u .start) mp
  · exact cu'
  · exact pins'
  · exact now'
  · exact choices'
  · exact pending'

/-! ## START (R165) -/

section
variable {s : State}

theorem State.startTaken_stages {c : LoadSource × Frozen} (unconfigured : s.participation = .unconfigured) (staged : s.stagedConfig = some c) :
    s.startTaken = some (s.freeze c.1 c.2) := by
  rw [State.startTaken, if_pos unconfigured, staged]

theorem State.startTaken_invalid (unconfigured : s.participation = .unconfigured) (staged : s.stagedConfig = none) :
    s.startTaken = some (s.setSl { s.sl with loadCause := .invalid }) := by
  rw [State.startTaken, if_pos unconfigured, staged]

end

/-- Settles O11: START by what the checks make of the staging. -/
theorem startChecksTheStaging : Obligations.StartChecksTheStaging := by
  intro s takes unconfigured area directory count steps
  have answers {u : State} (taken : s.startTaken = some u) : exec .start s = .next ((u.ctrlReads 1#4 .accepted).wrote 0x01#7) := by
    simp only [exec, execStart]
    rw [taken, s.control_taken u takes]
  refine ⟨fun block unstaged => ?_, fun block staged valid => ?_, fun invalid => ?_⟩
  · have config : s.stagedConfig = some (.hostShort, frozenOf area defaultDirectory defaultSteps) := by
      have block : blockValid s.sl.ownPos s.mp.stagedArea = true := block
      simp only [State.stagedConfig, block, unstaged]
      rfl
    exact answers (State.startTaken_stages (c := (.hostShort, frozenOf area defaultDirectory defaultSteps)) unconfigured config)
  · have config : s.stagedConfig = some (.hostFull, frozenOf area directory steps) := by
      have block : blockValid s.sl.ownPos s.mp.stagedArea = true := block
      have valid : stepsValid s.mp.stagedDirectory s.mp.stagedCount s.mp.stagedSteps = true := valid
      simp only [State.stagedConfig, block, staged, valid]
      rfl
    exact answers (State.startTaken_stages (c := (.hostFull, frozenOf area directory steps)) unconfigured config)
  · have config : s.stagedConfig = none := by
      unfold State.stagedConfig
      rcases invalid with block | ⟨staged, steps⟩
      · have block : blockValid s.sl.ownPos s.mp.stagedArea = false := block
        simp [block]
      · have steps : stepsValid s.mp.stagedDirectory s.mp.stagedCount s.mp.stagedSteps = false := steps
        simp [staged, steps]
    rw [answers (State.startTaken_invalid unconfigured config)]
    rfl

end Sys2Proof.Machine
end

section
/-! SUPPORT. The control commands of PC and AE (R57, R149 to R152, R175), reconciliation (R148), and the condition monitor's events (R106 to R115). -/

namespace Sys2Proof.Machine

open Sys2Proof.Safety

/-! ## Controls taken and refused (R175) -/

section
variable {s : State}

/-- CTRL's read-back and the frame after a control command with result `r`. -/
def Mp.controlled (code : BitVec 4) (r : CtrlResult) (m : Mp) : Mp :=
  { m with ctrlCode := code, ctrlResult := r, frame := m.frame.map (Frame.wrote 0x01#7) }

theorem State.control_eq_refused (takes : s.takesWrite 0x01#7 = true) {code : BitVec 4} {taken : Option State} (refused : taken = none) :
    s.control code taken = { s with mp := s.mp.controlled code .refused } := by
  rw [refused, s.control_refused takes]
  rfl

theorem State.control_eq_taken (takes : s.takesWrite 0x01#7 = true) {code : BitVec 4} {taken : Option State} {t : State} (accepted : taken = some t) :
    s.control code taken = { t with mp := t.mp.controlled code .accepted } := by
  rw [accepted, s.control_taken t takes]
  rfl

theorem exec_control_taken {c : Instr} {code : BitVec 4} {taken : Option State} {t : State} (arm : exec c s = .next (s.control code taken))
    (takes : s.takesWrite 0x01#7 = true) (accepted : taken = some t) :
    exec c s = .next { t with mp := t.mp.controlled code .accepted } := by
  rw [arm, State.control_eq_taken takes accepted]

/-- A taken control command, in the words of its write. -/
theorem exec_control_answers {c : Instr} {code : BitVec 4} {taken : Option State} {t : State} (arm : exec c s = .next (s.control code taken))
    (takes : s.takesWrite 0x01#7 = true) (accepted : taken = some t) : exec c s = .next ((t.ctrlReads code .accepted).wrote 0x01#7) := by
  rw [arm, accepted, s.control_taken t takes]

theorem exec_control_refused {c : Instr} {code : BitVec 4} {taken : Option State} (arm : exec c s = .next (s.control code taken))
    (takes : s.takesWrite 0x01#7 = true) (refused : taken = none) :
    exec c s = .next { s with mp := s.mp.controlled code .refused } := by
  rw [arm, State.control_eq_refused takes refused]

theorem State.rejoinTaken_apart (apart : s.participation = .isolated ∨ s.participation = .conflict) :
    s.rejoinTaken = some (s.enterListening.raise .part) := by
  rcases apart with apart | apart <;> simp [State.rejoinTaken, apart]

/-- A receiver that is not OFF is left as it is at an entry to LISTENING, and the epoch timer is set where it does not run (R22). -/
theorem State.enterListening_vbi_untimed (on : s.vbi.receiver ≠ .off) (untimed : s.participation.timed = false) :
    s.enterListening.vbi = { s.vbi with epochTimer := some (s.now + ms 2) } := by
  simp only [State.enterListening, Vbi.leaveOff_on on, untimed]
  rfl

theorem State.enterListening_vbi_timed (on : s.vbi.receiver ≠ .off) (timed : s.participation.timed = true) : s.enterListening.vbi = s.vbi := by
  simp only [State.enterListening, Vbi.leaveOff_on on, timed]
  rfl

end

/-- Settles O12: REJOIN where it is taken, and each refusal by the state it finds. -/
theorem rejoinAndRefusedControls : Obligations.RejoinAndRefusedControls := by
  refine ⟨fun s takes apart on => ?_, fun s takes => ?_⟩
  · have untimed : s.participation.timed = false := by rcases apart with apart | apart <;> rw [apart] <;> rfl
    have vbi := State.enterListening_vbi_untimed on untimed
    simp only [exec, execRejoin, State.control_eq_taken takes (State.rejoinTaken_apart apart), State.raise_vbi, vbi]
    rfl
  · intro refused
    have refuses {code : BitVec 4} {taken : Option State} (none : taken = .none) : Host.Outcome.next (s.control code taken) =
        (.next (refused code) : Host.Outcome State Fault Refusal) := by
      rw [State.control_eq_refused takes none]
      rfl
    refine ⟨fun other => refuses ?_, fun isolated conflict => refuses ?_, fun loading => refuses ?_, fun idle running => refuses ?_,
      fun engine => refuses ?_, fun faulted => refuses ?_, fun faulted => refuses ?_, fun idle => refuses ?_, fun code unknown => ?_⟩
    · rw [State.startTaken, if_neg other]
    · simp [State.rejoinTaken, isolated, conflict]
    · rw [State.softResetTaken, if_pos loading]
    · cases engine : s.ae.engine <;> simp_all [State.holdTaken]
    · rcases engine with engine | engine | engine <;> simp [State.resumeTaken, engine]
    · rw [State.stopTaken, if_pos faulted]
    · rw [State.clearFaultTaken, if_neg faulted]
    · rw [State.snapReleaseTaken, if_pos idle]
    · have unnamed : knownControlCode code = false := by
        rcases unknown with rfl | large
        · rfl
        · have : 9 < code.toNat := large
          simp only [knownControlCode, Bool.and_eq_false_iff, decide_eq_false_iff_not]
          omega
      simp only [exec, execCtrlUnknownCode, unnamed, Bool.false_eq_true, if_false]
      exact refuses rfl

/-! ## HOLD (R149) -/

section
variable {s : State}

theorem State.sequenceCompletes_holding (holding : s.ae.engine = .holding) (d : Directive) :
    s.sequenceCompletes d =
      (({ s.completed d with ae := { (s.completed d).ae with engine := .held } }).raise .engine).judgeMonitor := by
  have engine : (s.completed d).ae.engine = .holding := by rw [State.completed_ae]; exact holding
  simp only [State.sequenceCompletes, engine, if_true]

theorem State.sequenceCompletes_not_holding (other : s.ae.engine ≠ .holding) (d : Directive) :
    s.sequenceCompletes d = (s.completed d).runQueue s.ae.queue := by
  have engine : ¬(s.completed d).ae.engine = .holding := by rw [State.completed_ae]; exact other
  have queue : (s.completed d).ae.queue = s.ae.queue := by rw [State.completed_ae]
  rw [State.sequenceCompletes, if_neg engine, queue]

/-- In HELD with room in the queue an offer changes the queue and the debt alone. -/
theorem State.offer_held (held : s.ae.engine = .held) (room : s.ae.queue.length < 4) (d : Directive) :
    ∃ (queue : List Directive) (debt : Nat), s.offer d = { s with ae := { s.ae with queue := queue, debt := debt } } := by
  have queues : s.ae.engine.queues = true := by rw [held]; rfl
  cases c : s.ae.coalesces d with
  | true => exact ⟨_, _, s.offer_coalesces d queues c⟩
  | false => exact ⟨_, _, s.offer_appends d queues c room⟩

/-- Without a sequence in progress the debt counts the queue (R138). -/
theorem debt_eq_of_still (accounts : EngineAccounts s) (still : s.ae.engine.moving = false) : s.ae.debt = s.ae.queue.length := by
  obtain ⟨debt, -, running, -⟩ := accounts
  rw [debt, running, still]
  rfl

end

/-- Settles O14: HOLD by engine state, what completes into HELD, and what HELD makes of offers. -/
theorem holdByEngineState : Obligations.HoldByEngineState := by
  intro s takes
  refine ⟨fun idle => ?_, fun running => ?_, fun others => ?_, fun holding d => ?_, fun held room d => ?_, fun held accounts => ?_⟩
  · have taken : s.holdTaken = some ((s.setEngine .held).raise .engine) := by simp only [State.holdTaken, idle]
    exact exec_control_taken rfl takes taken
  · have taken : s.holdTaken = some (s.setEngine .holding) := by simp only [State.holdTaken, running]
    exact exec_control_taken rfl takes taken
  · have refused : s.holdTaken = none := by rcases others with e | e | e | e <;> simp only [State.holdTaken, e]
    exact exec_control_refused rfl takes refused
  · rw [State.sequenceCompletes_holding holding, State.judgeMonitor_ae]
    rfl
  · obtain ⟨queue, debt, offered⟩ := State.offer_held held room d
    rw [offered]
    exact ⟨held, rfl, rfl⟩
  · have still : s.ae.engine.moving = false := by rw [held]; rfl
    simp only [State.outgoingNow, decide_eq_true_eq, debt_eq_of_still accounts still, List.length_pos_iff]

/-! ## RESUME (R150) -/

section
variable {s : State}

theorem State.runQueue_some {d : Directive} {rest : List Directive} {i : Nat} (entry : s.dirEntry d = some i) :
    s.runQueue (d :: rest) =
      match (s.sequenceBegins d rest).ae.enter (s.sequenceBegins d rest).steps (s.sequenceBegins d rest).pins.fb (s.sequenceBegins d rest).now i with
      | (a, .waits) => { s.sequenceBegins d rest with ae := a }
      | (a, .loops j) => ({ s.sequenceBegins d rest with ae := a }).engineFault ⟨.loop, some d, some j⟩
      | (a, .completes) => (({ s.sequenceBegins d rest with ae := a }).completed d).runQueue rest := by
  rw [State.runQueue, entry] <;> rfl

/-- A DWELL that is entered waits for its duration. -/
theorem Ae.enterUpTo_dwell {steps : List StepRecord} {i : Nat} {r : StepRecord} (record : steps[i]? = some r) (kind : r.kind = some .dwell)
    (fb : BitVec 8) (now : Ticks) (n : Nat) (a : Ae) :
    a.enterUpTo steps fb now (n + 1) i =
      ({ a with stepCount := a.stepCount + 1, stepIndex := some i, waiting := .dwell (now + us 100 * r.duration) }, .waits) := by
  rw [Ae.enterUpTo]
  simp only [record, Ae.act, kind]
  rfl

@[simp] theorem State.steps_sequenceBegins (d : Directive) (rest : List Directive) : (s.sequenceBegins d rest).steps = s.steps := by
  unfold State.steps
  rw [State.sequenceBegins_sl]

/-- A sequence that begins with a DWELL waits there. -/
theorem State.runQueue_dwell {d : Directive} {rest : List Directive} {i : Nat} {r : StepRecord} (entry : s.dirEntry d = some i)
    (record : s.steps[i]? = some r) (kind : r.kind = some .dwell) :
    (s.runQueue (d :: rest)).ae =
      { s.ae with
        engine := .running, queue := rest, running := some d, fallbackTaken := false, retryCount := 0, retryOwner := none,
        stepCount := 1, stepIndex := some i, waiting := .dwell (s.now + us 100 * r.duration) } := by
  have enters := Ae.enterUpTo_dwell record kind (s.sequenceBegins d rest).pins.fb (s.sequenceBegins d rest).now 1023
    (s.sequenceBegins d rest).ae
  have limit : entryLimit - (s.sequenceBegins d rest).ae.stepCount = 1023 + 1 := by rw [State.sequenceBegins_ae]; rfl
  rw [State.runQueue_some entry]
  unfold Ae.enter
  rw [limit, State.steps_sequenceBegins, enters, State.sequenceBegins_ae, State.sequenceBegins_now]

/-- An engine that comes to rest from HELD is judged as before. -/
theorem State.engineRests_held (held : s.ae.engine = .held) (queue : s.ae.queue = []) (judged : s.cm.monitorActive = s.monitorCalled) :
    s.engineRests = { s with ae := { s.ae with engine := .idle } } := by
  have called : ({ s with ae := { s.ae with engine := .idle, queue := [] } } : State).monitorCalled = s.monitorCalled := by
    unfold State.monitorCalled
    rw [held]
    rfl
  have rests : s.engineRests = { s with ae := { s.ae with engine := .idle, queue := [] } } :=
    State.judgeMonitor_eq _ (judged.trans called.symm)
  rw [rests, ← queue]

end

/-- Settles O15: RESUME by engine state; from HELD the queue is run. -/
theorem resumeByEngineState : Obligations.ResumeByEngineState := by
  intro s takes
  have heldTaken (held : s.ae.engine = .held) : s.resumeTaken = some (s.runQueue s.ae.queue) := by simp only [State.resumeTaken, held]
  refine ⟨fun holding => ?_, fun held => ?_, fun held queue judged => ?_, fun d rest i held queue entry => ?_, fun d rest held queue entry => ?_,
    fun stopped => ?_, fun others => ?_⟩
  · have taken : s.resumeTaken = some (s.setEngine .running) := by simp only [State.resumeTaken, holding]
    exact exec_control_taken rfl takes taken
  · exact exec_control_answers rfl takes (heldTaken held)
  · have rests : s.resumeTaken = some { s with ae := { s.ae with engine := .idle } } := by
      rw [heldTaken held, queue, s.runQueue_nil, State.engineRests_held held queue judged]
    exact exec_control_taken rfl takes rests
  · refine ⟨_, exec_control_taken rfl takes (heldTaken held), fun r record kind => ?_, rfl, rfl, s.runQueue_vbi _, s.runQueue_pc _,
      s.runQueue_gtu _, s.runQueue_cu _, s.runQueue_sl _, s.runQueue_pins _, s.runQueue_now _, s.runQueue_choices _, s.runQueue_pending _⟩
    rw [queue]
    exact State.runQueue_dwell entry record kind
  · refine ⟨?_, s.runQueue_none d rest entry⟩
    rw [← queue]
    exact exec_control_answers rfl takes (heldTaken held)
  · have taken : s.resumeTaken = some (s.setEngine .idle).reconcile := by simp only [State.resumeTaken, stopped]
    exact exec_control_answers rfl takes taken
  · have refused : s.resumeTaken = none := by rcases others with e | e | e <;> simp only [State.resumeTaken, e]
    exact exec_control_refused rfl takes refused

/-! ## STOP and CLEAR FAULT (R151, R152) -/

section
variable {s : State}

/-- An actuated state that is UNKNOWN calls for no monitoring. -/
theorem State.monitorCalled_unknown (unknown : s.ae.actuated = .unknown) : s.monitorCalled = false := by
  simp [State.monitorCalled, unknown, ActState.carries]

theorem State.clearFaultTaken_faulted (faulted : s.ae.engine = .faulted) : s.clearFaultTaken = some (s.setEngine .idle).reconcile := by
  rw [State.clearFaultTaken, if_pos faulted]

/-- Before the freeze reconciliation asks for RELEASED alone. -/
theorem State.reconcile_unstarted (unstarted : s.participation = .reset ∨ s.participation = .loading ∨ s.participation = .unconfigured) :
    s.reconcile = s.setRequested .released := by
  rcases unstarted with p | p | p <;> simp only [State.reconcile, p]

end

/-- Settles O16: STOP, and STOP with the monitor inactive. -/
theorem stopTakesTheEngineOut : Obligations.StopTakesTheEngineOut := by
  intro s takes running
  have taken : s.stopTaken = some s.engineStop := by rw [State.stopTaken, if_neg running]
  refine ⟨exec_control_answers rfl takes taken, fun inactive => ?_⟩
  have stopped : s.engineStop = { s with ae := { s.ae.abandoned with engine := .stopped, actuated := .unknown } } :=
    State.judgeMonitor_eq _ (inactive.trans (State.monitorCalled_unknown rfl).symm)
  exact exec_control_taken rfl takes (taken.trans (congrArg some stopped))

/-- Settles O17: CLEAR_FAULT in FAULTED, before the freeze in full, and its refusal elsewhere. -/
theorem clearFaultByEngineState : Obligations.ClearFaultByEngineState := by
  intro s takes
  refine ⟨fun faulted => ?_, fun faulted unstarted => ?_, fun other => ?_⟩
  · exact exec_control_answers rfl takes (State.clearFaultTaken_faulted faulted)
  · have reconciled : (s.setEngine .idle).reconcile = (s.setEngine .idle).setRequested .released := State.reconcile_unstarted (.inr unstarted)
    exact exec_control_taken rfl takes ((State.clearFaultTaken_faulted faulted).trans (congrArg some reconciled))
  · have refused : s.clearFaultTaken = none := by rw [State.clearFaultTaken, if_neg other]
    exact exec_control_refused rfl takes refused

/-! ## Reconciliation (R148) -/

section
variable {s : State}

/-- An engine that owes work owes the newest queued directive last. -/
theorem Ae.outcomeState_queued {a : Ae} {l : List Directive} {d : Directive}
    (owes : a.engine = .running ∨ a.engine = .holding ∨ a.engine = .held) (queue : a.queue = l ++ [d]) : a.outcomeState = d.target := by
  have last : a.lastOwed = some d := by
    rcases owes with e | e | e <;> simp [Ae.lastOwed, e, Engine.moving, queue]
  rw [Ae.outcomeState, last]

/-- With an empty queue it owes the running one last. -/
theorem Ae.outcomeState_running {a : Ae} {d : Directive} (owes : a.engine = .running ∨ a.engine = .holding) (queue : a.queue = [])
    (running : a.running = some d) : a.outcomeState = d.target := by
  have last : a.lastOwed = some d := by
    rcases owes with e | e <;> simp [Ae.lastOwed, e, Engine.moving, queue, running]
  rw [Ae.outcomeState, last]

theorem Ae.outcomeState_still {a : Ae} (still : ¬(a.engine = .running ∨ a.engine = .holding ∨ (a.engine = .held ∧ a.queue ≠ []))) :
    a.outcomeState = a.actuated := by
  have last : a.lastOwed = none := by
    rw [not_or, not_or, not_and] at still
    obtain ⟨running, holding, held⟩ := still
    rw [Ae.lastOwed, if_neg]
    simpa [Engine.moving, running, holding] using held
  rw [Ae.outcomeState, last]

/-- The outcome state in the words of R148. -/
theorem outcomeState_eq (accounts : EngineAccounts s) {o : ActState}
    (owed : (s.ae.engine = .running ∨ s.ae.engine = .holding ∨ (s.ae.engine = .held ∧ s.ae.queue ≠ [])) →
      (∀ (l : List Directive) (d : Directive), s.ae.queue = l ++ [d] → o = d.target) ∧
      (s.ae.queue = [] → ∀ d : Directive, s.ae.running = some d → o = d.target))
    (still : ¬(s.ae.engine = .running ∨ s.ae.engine = .holding ∨ (s.ae.engine = .held ∧ s.ae.queue ≠ [])) → o = s.ae.actuated) :
    s.ae.outcomeState = o := by
  by_cases owes : s.ae.engine = .running ∨ s.ae.engine = .holding ∨ (s.ae.engine = .held ∧ s.ae.queue ≠ [])
  · obtain ⟨newest, running⟩ := owed owes
    rcases s.ae.queue.eq_nil_or_concat with queue | ⟨l, d, queue⟩
    · have moving : s.ae.engine = .running ∨ s.ae.engine = .holding := by
        rcases owes with e | e | ⟨-, some_queued⟩
        · exact .inl e
        · exact .inr e
        · exact absurd queue some_queued
      obtain ⟨-, -, in_progress, -⟩ := accounts
      have some_running : s.ae.running.isSome = true := by
        rw [in_progress]
        rcases moving with e | e <;> rw [e] <;> rfl
      obtain ⟨d, directive⟩ := Option.isSome_iff_exists.mp some_running
      rw [Ae.outcomeState_running moving queue directive, running queue d directive]
    · rw [List.concat_eq_append] at queue
      have queueing : s.ae.engine = .running ∨ s.ae.engine = .holding ∨ s.ae.engine = .held :=
        owes.imp_right (Or.imp_right And.left)
      rw [Ae.outcomeState_queued queueing queue, newest l d queue]
  · rw [Ae.outcomeState_still owes, still owes]

theorem State.realign_known (known : s.ae.outcomeState ≠ .unknown) : s.realign = s.setRequested s.ae.outcomeState := by
  rw [State.realign, if_neg known]

theorem State.realign_unknown (unknown : s.ae.outcomeState = .unknown) : s.realign = (s.setRequested .released).offer .releaseAll := by
  rw [State.realign, if_pos unknown]

theorem State.reconcile_inStep (p : s.participation = .inStep) : s.reconcile = s.realign.directiveStage := by
  simp only [State.reconcile, p]

theorem State.reconcile_learning (p : s.participation = .learning) : s.reconcile = s.realign := by
  simp only [State.reconcile, p]

theorem State.reconcile_apart (p : s.participation = .listening ∨ s.participation = .isolated ∨ s.participation = .conflict) :
    s.reconcile = if s.ae.outcomeState = s.withdrawDirective.target then s else s.offer s.withdrawDirective := by
  rcases p with p | p | p <;> simp only [State.reconcile, p] <;> rfl

/-! ### What reconciliation leaves -/

theorem State.offerAll_mp (l : List Directive) : (s.offerAll l).mp.SameButStatus s.mp := by
  unfold State.offerAll
  induction l generalizing s with
  | nil => exact Mp.SameButStatus.rfl
  | cons d l ih => exact (ih (s := s.offer d)).trans (s.offer_mp d)

theorem State.filters_offerAll (l : List Directive) : (s.offerAll l).cm.filters = s.cm.filters := by
  unfold State.offerAll
  induction l generalizing s with
  | nil => rfl
  | cons d l ih => exact (ih (s := s.offer d)).trans (s.filters_offer d)

/-- Of the table, the port and the monitor a change of requests touches the requested state, the status and the activity alone. -/
def State.RequestsOf (t s : State) : Prop :=
  t.gtu = { s.gtu with requested := t.gtu.requested } ∧ t.cm.filters = s.cm.filters ∧ t.mp.SameButStatus s.mp

theorem State.RequestsOf.rfl : s.RequestsOf s := ⟨Eq.refl _, Eq.refl _, Mp.SameButStatus.rfl⟩

theorem State.RequestsOf.trans {a b c : State} (ab : a.RequestsOf b) (bc : b.RequestsOf c) : a.RequestsOf c := by
  obtain ⟨gtu, filters, mp⟩ := ab
  obtain ⟨gtu', filters', mp'⟩ := bc
  exact ⟨by rw [gtu, gtu'], filters.trans filters', mp.trans mp'⟩

theorem State.setRequested_requestsOf (a : ActState) : (s.setRequested a).RequestsOf s := ⟨Eq.refl _, Eq.refl _, Mp.SameButStatus.rfl⟩

theorem State.offer_requestsOf (d : Directive) : (s.offer d).RequestsOf s := ⟨by rw [State.offer_gtu], s.filters_offer d, s.offer_mp d⟩

theorem State.directiveStage_requestsOf : s.directiveStage.RequestsOf s := by
  unfold State.directiveStage
  split
  · exact State.RequestsOf.rfl
  · exact State.RequestsOf.trans ⟨by rw [State.offerAll_gtu], State.filters_offerAll _, State.offerAll_mp _⟩ (State.setRequested_requestsOf _)

theorem State.realign_requestsOf : s.realign.RequestsOf s := by
  unfold State.realign
  split
  · exact (State.offer_requestsOf _).trans (State.setRequested_requestsOf _)
  · exact State.setRequested_requestsOf _

theorem State.reconcile_requestsOf : s.reconcile.RequestsOf s := by
  unfold State.reconcile
  split
  · exact State.directiveStage_requestsOf.trans State.realign_requestsOf
  · exact State.realign_requestsOf
  case h_3 | h_4 | h_5 =>
    split
    · exact State.RequestsOf.rfl
    · exact State.offer_requestsOf _
  all_goals exact State.setRequested_requestsOf _

/-- With START in progress and nothing queued, a comparison that does not wait queues the RECLAIM of a primary in NONE behind it. -/
theorem State.reconcile_starting (p : s.participation = .inStep) (engine : s.ae.engine = .running) (running : s.ae.running = some .start)
    (queue : s.ae.queue = []) (follows : Config.comparisonWaitsForStart = false) (role : s.ownEntry.role = .primary)
    (uncovered : s.ownEntry.assignment = .none) :
    s.reconcile = { s with gtu := { s.gtu with requested := .carrying }, ae := { s.ae with queue := [.reclaim], debt := s.ae.debt + 1 } } := by
  have outcome : s.ae.outcomeState = .released := Ae.outcomeState_running (.inl engine) queue running
  have realigned : s.realign = s.setRequested .released := by
    rw [State.realign_known (by rw [outcome]; decide), outcome]
  have unhindered : (s.setRequested .released).waitsForStart = false := by simp [State.waitsForStart, follows]
  have desired : (s.setRequested .released).desired = .carrying := State.desired_of_uncovered (s := s.setRequested .released) role uncovered
  rw [State.reconcile_inStep p, realigned, State.directiveStage_of_directives unhindered rfl desired (show _ = [.reclaim] from rfl)]
  have queues : ((s.setRequested .released).setRequested .carrying).ae.engine.queues = true := by
    show s.ae.engine.queues = true
    rw [engine]; rfl
  have apart : ((s.setRequested .released).setRequested .carrying).ae.coalesces .reclaim = false := by
    show s.ae.coalesces .reclaim = false
    simp [Ae.coalesces, queue]
  have room : ((s.setRequested .released).setRequested .carrying).ae.queue.length < queueDepth := by
    show s.ae.queue.length < queueDepth
    rw [queue]; decide
  have offered := State.offer_appends _ .reclaim queues apart room
  refine offered.trans ?_
  show ({ s with gtu := _, ae := { s.ae with queue := s.ae.queue ++ [.reclaim], debt := s.ae.debt + 1 } } : State) = _
  rw [queue]
  rfl

end

/-- Settles O18: reconciliation by participation with the outcome state named, its cases by engine state, and what it leaves as it was. -/
theorem reconciliationByParticipation : Obligations.ReconciliationByParticipation := by
  refine ⟨?_, fun s => ⟨fun idle unknown => ?_, fun p idle known => ?_, fun d l p running queue => ?_, fun d p running queue directive => ?_,
    fun p engine running queue => ⟨fun waits => ?_, fun follows role uncovered => State.reconcile_starting p engine running queue follows role uncovered⟩,
    ?_⟩⟩
  · intro s o accounts owes owed still asked withdraw
    have outcome : s.ae.outcomeState = o := outcomeState_eq accounts owed still
    have realigned : (o ≠ .unknown → s.realign = asked o) ∧ (o = .unknown → s.realign = (asked .released).offer .releaseAll) := by
      rw [← outcome]
      exact ⟨State.realign_known, State.realign_unknown⟩
    refine ⟨fun p => ?_, fun p => ?_, fun p => ?_, State.reconcile_unstarted⟩
    · rw [State.reconcile_inStep p]
      exact realigned.imp (fun known h => congrArg _ (known h)) (fun unknown h => congrArg _ (unknown h))
    · rw [State.reconcile_learning p]
      exact realigned
    · rw [State.reconcile_apart p, outcome]
      exact ⟨fun same => if_pos same, fun other => if_neg other⟩
  · have still : ¬(s.ae.engine = .running ∨ s.ae.engine = .holding ∨ (s.ae.engine = .held ∧ s.ae.queue ≠ [])) := by simp [idle]
    have outcome : s.ae.outcomeState = .unknown := (Ae.outcomeState_still still).trans unknown
    have realigned := State.realign_unknown outcome
    refine ⟨fun p => ?_, fun p => ?_, fun p => ?_, State.reconcile_unstarted⟩
    · rw [State.reconcile_learning p, realigned]
      rfl
    · rw [State.reconcile_inStep p, realigned]
      rfl
    · have other : ¬ActState.unknown = s.withdrawDirective.target := by
        unfold State.withdrawDirective
        split <;> decide
      rw [State.reconcile_apart p, outcome, if_neg other]
      rfl
  · have still : ¬(s.ae.engine = .running ∨ s.ae.engine = .holding ∨ (s.ae.engine = .held ∧ s.ae.queue ≠ [])) := by simp [idle]
    have outcome := Ae.outcomeState_still still
    rw [State.reconcile_learning p, State.realign_known (by rwa [outcome]), outcome]
    rfl
  · have outcome := Ae.outcomeState_queued (.inl running) queue
    rw [State.reconcile_learning p, State.realign_known (by rw [outcome]; cases d <;> simp [Directive.target]), outcome]
    rfl
  · have outcome := Ae.outcomeState_running (.inl running) queue directive
    rw [State.reconcile_learning p, State.realign_known (by rw [outcome]; cases d <;> simp [Directive.target]), outcome]
    rfl
  · have outcome : s.ae.outcomeState = .released := Ae.outcomeState_running (.inl engine) queue running
    have hindered : (s.setRequested .released).waitsForStart = true := State.waitsForStart_iff.mpr ⟨waits, .inl running⟩
    rw [State.reconcile_inStep p, State.realign_known (by rw [outcome]; decide), outcome, State.directiveStage_of_waits _ hindered]
    rfl
  · obtain ⟨gtu, filters, mp⟩ := State.reconcile_requestsOf (s := s)
    exact ⟨s.reconcile_vbi, s.reconcile_pc, gtu, s.reconcile_cu, s.reconcile_sl, filters, mp, s.reconcile_pins, s.reconcile_now,
      s.reconcile_choices, s.reconcile_pending⟩

/-! ## Lines and their filters (R106 to R108) -/

section
variable {s : State}

/-- The own condition depends on the filtered levels of the enabled lines and on TX-SILENT alone (R114). -/
theorem State.ownConditionNow_congr {t : State} (enabled : ∀ n, t.lineEnabled n = s.lineEnabled n)
    (filtered : ∀ n, (t.filter n).filtered = (s.filter n).filtered) (silent : t.cm.txSilent = s.cm.txSilent) :
    t.ownConditionNow = s.ownConditionNow := by
  simp only [State.ownConditionNow, enabled, filtered, silent]

/-- A filter that keeps its filtered level leaves the own condition as it was. -/
theorem State.deriveOwn_setFilter {n : Fin 4} {f : LineFilter} (judged : s.cm.own = s.ownConditionNow)
    (same : f.filtered = (s.filter n).filtered) : (s.setFilter n f).deriveOwn = s.setFilter n f := by
  have derived : (s.setFilter n f).ownConditionNow = s.ownConditionNow := State.ownConditionNow_congr (fun _ => rfl) (fun m => ?_) rfl
  · exact State.deriveOwn_eq _ (judged.trans derived.symm)
  rw [State.filter_setFilter]
  split
  · next h => rw [same, h]
  · rfl

/-- The holdoff of a change, in the words of R107 and R109. -/
theorem State.holdoff_eq (f c : Condition) : s.holdoff f c =
    if f.code < c.code then (if s.sl.config.isSome then ms 10 * (byteAt s.area 25).toNat else ms 100)
    else (if s.sl.config.isSome then ms 10 * (byteAt s.area 26).toNat else ms 100) := rfl

end

/-- Settles O41: the raw level read from the changed pins, and the filter judged against it. -/
theorem lineInputChangeJudgesTheFilter : Obligations.LineInputChangeJudgesTheFilter := by
  intro n sf sd s judged pins level filtered hold filters
  let t : State := { s with pins := pins }
  have raw : t.raw n = level := by
    show rawLevel (s.pins.sf.set n sf)[n] (s.pins.sd.set n sd)[n] = _
    simp only [Fin.getElem_fin, Vector.getElem_set_self]
    rfl
  have answers : exec (.lineInputChange n sf sd) s =
      if t.raw n = s.raw n || s.participation = .reset then .next t else .next (t.judgeLine n).deriveOwn := rfl
  rw [answers, raw]
  refine ⟨fun same => if_pos (by simpa using same), fun changes p => ?_⟩
  rw [if_neg (by simp [changes, p])]
  have judgedFilter : t.judgedFilter n =
      if level = filtered then ⟨filtered, none⟩ else if hold = 0 then ⟨level, none⟩ else ⟨filtered, some (level, s.now + hold)⟩ := by
    have against : t.judgedFilter n =
        if t.raw n = filtered then ⟨filtered, none⟩
        else if t.holdoff filtered (t.raw n) = 0 then ⟨t.raw n, none⟩
        else ⟨filtered, some (t.raw n, s.now + t.holdoff filtered (t.raw n))⟩ := rfl
    rw [against, raw]
    rfl
  have kept {f : LineFilter} (same : f.filtered = filtered) : (t.setFilter n f).deriveOwn = filters f :=
    State.deriveOwn_setFilter (s := t) judged same
  unfold State.judgeLine
  rw [judgedFilter]
  refine ⟨fun agrees => ?_, fun differs held => ?_, fun differs immediate => ?_⟩
  · rw [if_pos agrees, kept (f := ⟨filtered, none⟩) rfl]
  · rw [if_neg differs, if_neg held, kept (f := ⟨filtered, some (level, s.now + hold)⟩) rfl]
  · rw [if_neg differs, if_pos immediate]
    rfl

/-- Settles O42: the three events by whether their timer runs. -/
theorem holdoffAndSilenceEvents : Obligations.HoldoffAndSilenceEvents := by
  refine ⟨fun s n c due pending => ?_, fun s n pending => ?_, fun s active => ?_, fun s inactive => ?_, fun s due timer => ?_, fun s timer => ?_⟩
  · simp only [exec, execHoldoffExpiry, pending]
    rfl
  · simp only [exec, execHoldoffExpiry, pending]
  · simp only [exec, execTxactTransition, active, if_true]
    rfl
  · simp only [exec, execTxactTransition, inactive, Bool.false_eq_true, if_false]
  · simp only [exec, execSilenceTimerExpiry, timer]
    rfl
  · simp only [exec, execSilenceTimerExpiry, timer]

/-! ## The own condition and the monitor (R111 to R114) -/

section
variable (s : State)

theorem any_allLines_iff (f : Fin 4 → Bool) : allLines.any f = true ↔ ∃ n : Fin 4, f n = true := by
  have listed : ∀ n : Fin 4, n ∈ allLines := by decide
  simp [List.any_eq_true, listed]

/-- The own condition its sources give, in the words of R114. -/
theorem State.ownConditionNow_eq : s.ownConditionNow =
    if (∃ n : Fin 4, s.lineEnabled n = true ∧ (s.filter n).filtered = .failed) ∨ s.cm.txSilent = true then .failed
    else if ∃ n : Fin 4, s.lineEnabled n = true ∧ (s.filter n).filtered = .degraded then .degraded else .clear := by
  simp only [State.ownConditionNow, Bool.or_eq_true, any_allLines_iff, Bool.and_eq_true, decide_eq_true_eq]

theorem State.deriveOwn_to {c : Condition} (now : s.ownConditionNow = c) :
    s.deriveOwn = if s.cm.own = c then s else ({ s with cm := { s.cm with own := c } }).raise .cond := by
  unfold State.deriveOwn
  rw [now]
  simp only [eq_comm]

theorem State.monitorCalled_iff : s.monitorCalled = true ↔
    1 ≤ s.silenceThreshold ∧ ((s.ownRole = .primary ∧ s.ae.actuated = .carrying) ∨ (s.ownRole = .backup ∧ ∃ p : Pos, s.ae.actuated = .taken p)) ∧
      s.ae.engine ≠ .running ∧ s.ae.engine ≠ .holding := by
  have carries : s.ae.actuated.carries s.ownRole = true ↔
      (s.ownRole = .primary ∧ s.ae.actuated = .carrying) ∨ (s.ownRole = .backup ∧ ∃ p : Pos, s.ae.actuated = .taken p) := by
    cases s.ae.actuated <;> simp [ActState.carries]
  simp only [State.monitorCalled, Bool.and_eq_true, decide_eq_true_eq, carries, Engine.moving, Bool.not_eq_true', Bool.or_eq_false_iff,
    decide_eq_false_iff_not, and_assoc]

end

/-- Settles O43: the own condition by its sources, and the monitor by what R111 calls for. -/
theorem ownConditionAndMonitorAreDerived : Obligations.OwnConditionAndMonitorAreDerived := by
  refine ⟨fun s => ?_, State.monitorCalled_iff, State.judgeMonitor_eq, fun s inactive called => ?_, fun s active uncalled => ?_⟩
  · intro failed degraded own
    refine ⟨fun f => s.deriveOwn_to ?_, fun nf d => s.deriveOwn_to ?_, fun nf nd => s.deriveOwn_to ?_⟩
    · rw [s.ownConditionNow_eq, if_pos f]
    · rw [s.ownConditionNow_eq, if_neg nf, if_pos d]
    · rw [s.ownConditionNow_eq, if_neg nf, if_neg nd]
  · unfold State.judgeMonitor
    rw [called, inactive]
    rfl
  · unfold State.judgeMonitor
    rw [uncalled, active]
    rfl

end Sys2Proof.Machine
end

section
/-! SUPPORT. The management port (Chapter 10): which accesses are served, the frame byte by byte, the windows and their pointers, the snapshot unit, and the
layouts of the registers and groups. -/

namespace Sys2Proof.Machine

open Sys2Proof.Safety

/-! ## Accesses that are not served (R171) -/

section
variable {s : State}

theorem State.takesWrite_not_served (a : BitVec 7) (unserved : s.portServed = false) : s.takesWrite a = false := by
  rw [State.takesWrite, unserved, Bool.false_and]

theorem State.takesWrite_elsewhere {a : BitVec 7} {f : Frame} (frame : s.mp.frame = some f) (other : f.write ≠ true ∨ f.address ≠ a) :
    s.takesWrite a = false := by
  rw [← Bool.not_eq_true, s.takesWrite_iff]
  rintro ⟨-, -, stands⟩
  obtain ⟨write, address⟩ := stands f frame
  exact other.elim (· write) (· address)

/-- The commands that write a data byte are writes of their address, or the ignored terms of the two rows with a condition. -/
theorem exec_of_write_access {c : Instr} {a : BitVec 7} (writes : access c = some (true, a)) (s : State) :
    exec c s = .next s ∨ ∃ f : State → State, exec c s = .next (s.portWrite a f) := by
  cases c <;> cases writes
  case ctrlUnknownCode code =>
    simp only [exec, execCtrlUnknownCode]
    split
    · exact .inl rfl
    · exact .inr ⟨_, rfl⟩
  case registerWriteIgnored =>
    simp only [exec, execRegisterWriteIgnored]
    split
    · exact .inl rfl
    · exact .inr ⟨_, rfl⟩
  all_goals exact .inr ⟨_, rfl⟩

theorem exec_of_read_access {c : Instr} {a : BitVec 7} (reads : access c = some (false, a)) (s : State) :
    exec c s = .next (s.portRead a) := by
  cases c <;> cases reads <;> rfl

/-- A command of the port that is no command byte and no group capture is a data byte. -/
theorem access_of_portCommand {c : Instr} (port : portCommand c = true) :
    (∃ (w : Bool) (a : BitVec 7), access c = some (w, a)) ∨ (∃ g, c = .groupCapture g) ∨ ∃ b, c = .commandByteReceived b := by
  cases c <;> simp [portCommand] at port
  case groupCapture g => exact .inr (.inl ⟨g, rfl⟩)
  case commandByteReceived b => exact .inr (.inr ⟨b, rfl⟩)
  all_goals exact .inl ⟨_, _, rfl⟩

/-- A data byte that is not taken changes nothing. -/
theorem exec_access_not_taken {c : Instr} {write : Bool} {a : BitVec 7} (accesses : access c = some (write, a))
    (untaken : write = true → s.takesWrite a = false) (unread : write = false → s.portRead a = s) : exec c s = .next s := by
  cases write with
  | true =>
    rcases exec_of_write_access accesses s with ignored | ⟨f, writes⟩
    · exact ignored
    · rw [writes, s.portWrite_not_taken a (untaken rfl)]
  | false => rw [exec_of_read_access accesses s, unread rfl]

theorem execGroupCapture_not_served (g : Group) (unserved : s.portServed = false) : execGroupCapture g s = .next s := by
  rw [execGroupCapture, unserved]
  rfl

theorem exec_not_served {c : Instr} (port : portCommand c = true) (unserved : s.portServed = false)
    (data : ∀ b, c ≠ .commandByteReceived b) : exec c s = .next s := by
  rcases access_of_portCommand port with ⟨w, a, accesses⟩ | ⟨g, rfl⟩ | ⟨b, rfl⟩
  · exact exec_access_not_taken accesses (fun _ => State.takesWrite_not_served a unserved) (fun _ => s.portRead_not_served a unserved)
  · exact execGroupCapture_not_served g unserved
  · exact absurd rfl (data b)

theorem execCommandByteReceived_deaf (b : Byte) (p : s.participation ≠ .reset) (deaf : s.mp.deaf = true) :
    execCommandByteReceived b s = .next s := by
  rw [execCommandByteReceived, if_neg p, s.portServed_deaf deaf]
  rfl

end

/-- Settles O5: a port that is not served takes nothing, and a frame takes a data byte at its address and in its direction alone. -/
theorem portIsDeafInReset : Obligations.PortIsDeafInReset := by
  refine ⟨fun c s port reset => ⟨exec_not_served port (s.portServed_reset reset), ?_⟩, fun c s port p deaf => ?_,
    fun c write a s f accesses frame other => ?_, fun g s f frame other => ?_⟩
  · rintro b rfl
    simp only [exec, execCommandByteReceived, if_pos reset]
    rfl
  · by_cases data : ∀ b, c ≠ .commandByteReceived b
    · exact exec_not_served port (s.portServed_deaf deaf) data
    · obtain ⟨b, rfl⟩ : ∃ b, c = .commandByteReceived b := by simpa using data
      exact execCommandByteReceived_deaf b p deaf
  · refine exec_access_not_taken accesses (fun w => State.takesWrite_elsewhere frame (w ▸ other)) fun w => s.portRead_elsewhere a f frame ?_
    exact other.imp_left fun h => by rw [w] at h; simpa using h
  · simp only [exec, execGroupCapture, frame]
    have elsewhere : (!f.write && decide (addressAfter f.address = groupAddress g)) = false := by
      rcases other with other | other <;> simp [other]
    rw [elsewhere]
    split <;> rfl

/-! ## Interrupts (R177, R178) -/

section
variable {s : State}

/-- A write that is taken, with its effect on the port alone. -/
theorem State.portWrite_mp {a : BitVec 7} (takes : s.takesWrite a = true) (m : Mp) :
    s.portWrite a (State.setMp m) = { s with mp := { m with frame := m.frame.map (Frame.wrote a) } } := by
  rw [s.portWrite_taken a takes]
  rfl

theorem Mp.intLow_iff (m : Mp) : m.intLow = true ↔ ∃ k < 6, m.istat.getLsbD k = true ∧ m.ien.getLsbD k = true := by
  have zero : m.istat &&& m.ien = 0#6 ↔ ∀ k < 6, ¬(m.istat.getLsbD k = true ∧ m.ien.getLsbD k = true) := by
    constructor
    · intro h k hk
      have bit : (m.istat &&& m.ien).getLsbD k = false := by rw [h]; simp
      simpa using bit
    · intro h
      apply BitVec.eq_of_getLsbD_eq
      intro k hk
      have := h k hk
      simpa using this
  rw [Mp.intLow, bne_iff_ne, Ne, zero]
  simp only [not_forall, not_not, exists_prop]

end

/-- Settles O48: the two writes where they are taken, and INT bit by bit. -/
theorem interruptStatusAndEnables : Obligations.InterruptStatusAndEnables := by
  intro value s
  refine ⟨fun takes => ?_, fun takes => ?_, s.mp.intLow_iff⟩
  · simp only [exec, execIstatWrite]
    rw [show istatAddress = 0x04#7 from rfl, s.portWrite_taken _ takes]
    rfl
  · simp only [exec, execIenWrite]
    rw [show ienAddress = 0x05#7 from rfl, s.portWrite_taken _ takes]
    rfl

/-! ## Pointers and staging (R164, R172) -/

theorem pointerOf_eq (last v : Nat) : pointerOf last v = if v ≤ last then v else 0 := by
  unfold pointerOf
  split <;> split <;> omega

section
variable {s : State}

theorem State.staged_unconfigured (unconfigured : s.participation = .unconfigured) (w : StagingWindow) (v : Byte) :
    s.staged w v = s.setMp ((s.mp.stage w v).advance w) := by
  rw [State.staged, if_pos unconfigured]

theorem State.staged_refused (other : s.participation ≠ .unconfigured) (w : StagingWindow) (v : Byte) : s.staged w v = s := by
  rw [State.staged, if_neg other]

theorem exec_stagingWrite_taken {w : StagingWindow} (takes : s.takesWrite (stagingAddress w) = true) (v : Byte) :
    exec (.stagingWrite w v) s = .next ((s.staged w v).wrote (stagingAddress w)) := by
  simp only [exec, execStagingWrite]
  rw [s.portWrite_taken _ takes]

theorem exec_pointerWrite_taken {r : PointerReg} (takes : s.takesWrite (pointerAddress r) = true) (v : Byte) :
    exec (.pointerWrite r v) s = .next ((s.pointed r v).wrote (pointerAddress r)) := by
  simp only [exec, execPointerWrite]
  rw [s.portWrite_taken _ takes]

end

/-- Settles O49: each pointer register, and each staging area by participation state. -/
theorem pointerAndStagingWrites : Obligations.PointerAndStagingWrites := by
  refine ⟨fun v s => ?_, fun v s => ⟨fun takes p canonical => ?_, fun takes p canonical => ?_, fun p => ⟨fun takes => ?_, fun takes => ?_⟩⟩⟩
  · intro step
    refine ⟨fun takes => ?_, fun takes => ?_, fun takes => ?_, fun takes => ?_⟩
    · rw [exec_pointerWrite_taken (r := .snapPtr) takes, State.pointed, Mp.writePointer, pointerOf_eq]
      rfl
    · rw [exec_pointerWrite_taken (r := .cfgPtr) takes, State.pointed, Mp.writePointer, pointerOf_eq]
      rfl
    · rw [exec_pointerWrite_taken (r := .stepPtrHigh) takes]
      rfl
    · rw [exec_pointerWrite_taken (r := .stepPtrLow) takes, State.pointed, Mp.writePointer, pointerOf_eq]
      rfl
  · refine ⟨s.mp.cfgStaging.write s.mp.cfgPtr v, ?_, Laws.wf_write _ v canonical, Laws.read_write_self _ v canonical,
      fun a other => Laws.read_write_other v canonical other⟩
    rw [exec_stagingWrite_taken (w := .config) takes, State.staged_unconfigured p]
    rfl
  · refine ⟨s.mp.stepStaging.write s.mp.stepPtr v, ?_, Laws.wf_write _ v canonical, Laws.read_write_self _ v canonical,
      fun a other => Laws.read_write_other v canonical other⟩
    rw [exec_stagingWrite_taken (w := .step) takes, State.staged_unconfigured p]
    rfl
  · rw [exec_stagingWrite_taken (w := .config) takes, State.staged_refused p]
    rfl
  · rw [exec_stagingWrite_taken (w := .step) takes, State.staged_refused p]
    rfl

/-! ## Windows (R168, R172) -/

section
variable {l m : List Byte} {i : Nat}

theorem byteAt_append_left (within : i < l.length) : byteAt (l ++ m) i = byteAt l i := by
  simp only [byteAt, List.getD_eq_getElem?_getD, List.getElem?_append_left within]

theorem byteAt_append_right (beyond : l.length ≤ i) : byteAt (l ++ m) i = byteAt m (i - l.length) := by
  simp only [byteAt, List.getD_eq_getElem?_getD, List.getElem?_append_right beyond]

theorem byteAt_beyond (beyond : l.length ≤ i) : byteAt l i = 0x00#8 := by
  simp only [byteAt, List.getD_eq_getElem?_getD, List.getElem?_eq_none beyond, Option.getD_none]

end

theorem StepRecord.length_bytes (r : StepRecord) : r.bytes.length = 8 := rfl

theorem length_flatMap_bytes (l : List StepRecord) : (l.flatMap StepRecord.bytes).length = 8 * l.length := by
  simp [List.length_flatMap, StepRecord.length_bytes, Nat.mul_comm]

/-- Byte `j` of record `i` among the records laid end to end. -/
theorem byteAt_flatMap_bytes {l : List StepRecord} {i j : Nat} {r : StepRecord} (record : l[i]? = some r) (byte : j < 8) :
    byteAt (l.flatMap StepRecord.bytes) (8 * i + j) = byteAt r.bytes j := by
  induction l generalizing i with
  | nil => simp at record
  | cons q l ih =>
    rw [List.flatMap_cons]
    cases i with
    | zero =>
      obtain rfl : q = r := by simpa using record
      rw [byteAt_append_left (by rw [StepRecord.length_bytes]; omega)]
      congr 1
      omega
    | succ i =>
      rw [byteAt_append_right (by rw [StepRecord.length_bytes]; omega), StepRecord.length_bytes,
        show 8 * (i + 1) + j - 8 = 8 * i + j by omega]
      exact ih (by simpa using record)

section
variable {s : State}

theorem State.readsAs_register {a : BitVec 7} (outside : groupOf a = none) : s.readsAs a = s.registerByte a := by
  rw [State.readsAs, outside]

theorem groupOf_staging (w : StagingWindow) : groupOf (stagingAddress w) = none := by cases w <;> decide

theorem State.registerByte_staging (w : StagingWindow) : s.registerByte (stagingAddress w) = s.windowByte w := by
  cases w <;> rfl

theorem Mp.shifted_staging (w : StagingWindow) (m : Mp) : m.shifted (stagingAddress w) = m.advance w := by
  cases w <;> rfl

theorem addressAfter_staging (w : StagingWindow) : addressAfter (stagingAddress w) = stagingAddress w := by
  cases w <;> decide

theorem snapdata_ne_staging (w : StagingWindow) : ¬stagingAddress w = snapdataAddress := by
  cases w <;> decide

theorem State.portRead_alone (a : BitVec 7) (served : s.portServed = true) (frame : s.mp.frame = none) :
    s.portRead a = (s.takeByte a).setMp { (s.takeByte a).mp.shifted a with snapTaken := false } := by
  simp only [State.portRead, served, frame, if_true]

/-- A window read alone takes the byte at the pointer, and the pointer goes on. -/
theorem State.portRead_staging_alone (w : StagingWindow) (served : s.portServed = true) (frame : s.mp.frame = none) :
    s.portRead (stagingAddress w) =
      { s with mp := { s.mp.advance w with readout := some (s.windowByte w), snapTaken := false } } := by
  rw [s.portRead_alone _ served frame, Mp.shifted_staging]
  unfold State.takeByte
  rw [State.readsAs_register (groupOf_staging w), State.registerByte_staging]
  cases w <;> rfl

/-- In a read frame that stands at the window the pointer goes on, and the next byte is taken. -/
theorem State.portRead_staging_framed (w : StagingWindow) (served : s.portServed = true) (frame : s.mp.frame = some ⟨false, stagingAddress w⟩) :
    s.portRead (stagingAddress w) =
      { s with mp := { s.mp.advance w with
          readout := some (({ s with mp := s.mp.advance w }).windowByte w), capture := none, snapTaken := false } } := by
  rw [s.portRead_in_frame _ served frame, State.readOn, addressAfter_staging, Mp.shifted_staging,
    State.takeAt_register _ _ (groupOf_staging w), State.registerByte_staging]
  cases w <;> simp only [State.setMp, Mp.advance, ← frame] <;> rfl

end

/-- Settles O50: the byte at a window's pointer before and after the freeze, and the read alone and in a frame. -/
theorem windowReadsReturnTheByteAtThePointer : Obligations.WindowReadsReturnTheByteAtThePointer := by
  refine ⟨fun s => ⟨fun unconfigured => ?_, fun f frozen => ?_⟩, fun w s p hears => ?_⟩
  · simp only [State.windowByte, State.configWindowByte, State.stepWindowByte, unconfigured, and_self]
  · have step : s.windowByte .step = byteAt (f.directory ++ (bytes16 f.steps.length ++ f.steps.flatMap StepRecord.bytes)) s.mp.stepPtr := by
      simp only [State.windowByte, State.stepWindowByte, frozen, Frozen.stepBytes, List.append_assoc]
    have records (within : 36 ≤ s.mp.stepPtr) (directory : f.directory.length = 36) :
        s.windowByte .step = byteAt (bytes16 f.steps.length ++ f.steps.flatMap StepRecord.bytes) (s.mp.stepPtr - 36) := by
      rw [step, byteAt_append_right (by omega), directory]
    refine ⟨by simp only [State.windowByte, State.configWindowByte, frozen], fun directory => ⟨fun within => ?_, fun high => ?_, fun low => ?_,
      fun i j r byte pointer record => ?_, fun past => ?_⟩⟩
    · rw [step, byteAt_append_left (by omega)]
    · rw [records (by omega) directory, high]
      rfl
    · rw [records (by omega) directory, low]
      rfl
    · rw [records (by omega) directory, byteAt_append_right (show 2 ≤ _ by omega), ← byteAt_flatMap_bytes record byte]
      congr 1
      show s.mp.stepPtr - 36 - 2 = 8 * i + j
      omega
    · refine (records (by omega) directory).trans (byteAt_beyond ?_)
      rw [List.length_append, length_flatMap_bytes]
      show 2 + _ ≤ _
      omega
  · have served : s.portServed = true := s.portServed_iff.mpr ⟨p, hears⟩
    intro a moved
    have address : a = stagingAddress w := by cases w <;> rfl
    have advanced : moved = s.mp.advance w := by cases w <;> rfl
    rw [advanced]
    refine ⟨fun frame => ?_, fun frame => ?_⟩
    · exact congrArg _ (State.portRead_staging_alone w served frame)
    · exact congrArg _ (State.portRead_staging_framed w served (address ▸ frame))

end Sys2Proof.Machine
end

section
/-! SUPPORT. The vote bus (R18 to R36): each event of the line, the driver and the cells by the case it stands in, and the obligations about them. -/

namespace Sys2Proof.Machine

open Sys2Proof.Safety

variable {s : State}

/-! ## The line and the driver -/

/-- Settles O19: each event's guard decides it, and its answer is read off the arm. -/
theorem lineStretchesAndReleases : Obligations.LineStretchesAndReleases := by
  intro s
  refine ⟨?_, ?_, ?_, ?_, ?_, ?_, ?_, ?_, ?_, ?_, ?_, ?_, ?_⟩
  · intro high
    simp [exec, execLowStretchBegin, high, State.setVbi]
  · intro low
    simp [exec, execLowStretchBegin, low]
  · intro low unmarked
    simp [exec, execShortStretchEnd, low, unmarked, State.setVbi, Vbi.rises]
  · intro quiet
    rcases quiet with high | marked
    · simp [exec, execShortStretchEnd, high]
    · simp [exec, execShortStretchEnd, marked]
  · intro low blocked
    simp [exec, execLineReleased, low, blocked, State.setVbi, Vbi.rises]
  · intro low off
    simp [exec, execLineReleased, low, off, State.setVbi, Vbi.rises]
  · intro quiet
    rcases quiet with high | ⟨unblocked, on⟩
    · simp [exec, execLineReleased, high]
    · simp [exec, execLineReleased, unblocked, on]
  · intro marked
    simp [exec, execMarkerEnd, marked, State.setVbi]
  · intro unmarked
    simp [exec, execMarkerEnd, unmarked]
  · intro since heard drives
    simp [exec, execMarkerDriveRelease, drives, State.setVbi, State.advanceTo, markerDrive]
  · intro idle
    cases drives : s.vbi.driver with
    | marker since heard => exact absurd drives (idle since heard)
    | released => simp [exec, execMarkerDriveRelease, drives]
    | cell since => simp [exec, execMarkerDriveRelease, drives]
  · intro since drives
    simp [exec, execDominantCellRelease, drives, State.setVbi, State.advanceTo, dominantTime]
  · intro idle
    cases drives : s.vbi.driver with
    | cell since => exact absurd drives (idle since)
    | released => simp [exec, execDominantCellRelease, drives]
    | marker since heard => simp [exec, execDominantCellRelease, drives]

/-! ## Markers -/

/-- STOPPED and FAULTED are the engine states that are out. -/
theorem Engine.out_eq_decide (e : Engine) : e.out = decide (e = .stopped ∨ e = .faulted) := by cases e <;> decide

theorem Receiver.takesMarker_iff (r : Receiver) : r.takesMarker = true ↔ r = .seeking ∨ r = .inCells ∨ r = .resting := by
  cases r <;> decide

/-- The latch and the epoch that begins with it, as one state. -/
theorem State.latch_epochBegins (u : State) : u.latch.epochBegins =
    { u with
        vbi := { u.vbi with
          receiver := .inMarker,
          driver := match u.vbi.driver with | .marker since _ => .marker since true | .released => .released | .cell since => .cell since,
          epochTimer := if u.participation.timed = true then some (u.vbi.lowSince + ms 1) else u.vbi.epochTimer,
          outgoing :=
            { participation := u.participation, condition := u.cm.own, owesWork := decide (0 < u.ae.debt),
              engineOut := decide (u.ae.engine = .stopped ∨ u.ae.engine = .faulted), request := u.contention.1,
              digest := match u.sl.config with | some f => f.digest | none => 0#8,
              mirror := BitVec.ofNat 4 u.gtu.sliceIndex.val ++ (u.gtu.entry u.gtu.sliceIndex).slice },
          epoch :=
            { cells := [], wrote := [], driveFault := false, faults := {},
              contention := if u.participation = .inStep ∧ u.contention.1.isSome = true then .contending else .none } }
        cu := { u.cu with offered := u.contention.2 } } := by
  have digest : u.ownDigest = match u.sl.config with | some f => f.digest | none => 0#8 := by
    unfold State.ownDigest
    cases u.sl.config <;> rfl
  have heard : u.vbi.driver.heard =
      match u.vbi.driver with | .marker since _ => .marker since true | .released => .released | .cell since => .cell since := by
    cases u.vbi.driver <;> rfl
  have contends : u.outgoingNow.contention =
      if u.participation = .inStep ∧ u.contention.1.isSome = true then Contention.contending else .none := by
    simp only [Outgoing.contention, Bool.and_eq_true, decide_eq_true_eq]
    rfl
  simp only [State.latch, State.epochBegins, State.setVbi, contends, heard, State.participation, Epoch.fresh]
  simp only [State.outgoingNow, digest, Engine.out_eq_decide] <;> rfl

theorem execMarkerStart_not_taken (untaken : s.vbi.lineLow = false ∨ s.vbi.receiver.takesMarker = false) : exec .markerStart s = .next s := by
  rcases untaken with high | blind
  · simp [exec, execMarkerStart, high]
  · simp [exec, execMarkerStart, blind]

/-- Settles O20, by the receiver: the latch and the epoch's beginning are `State.latch_epochBegins`. -/
theorem markerStartLatchesTheRecord : Obligations.MarkerStartLatchesTheRecord := by
  intro s outgoing begun t r
  have begins : ∀ u : State, u.latch.epochBegins = begun u := State.latch_epochBegins
  refine ⟨?_, ?_, ?_⟩
  · intro low takes
    rw [← begins]
    rcases takes with seeking | resting
    · simp [exec, execMarkerStart, low, seeking, Receiver.takesMarker, t, State.advanceTo, markerRecognition]
    · simp [exec, execMarkerStart, low, resting, Receiver.takesMarker, t, State.advanceTo, markerRecognition]
  · intro low inCells
    refine ⟨Config.earlyMarkerLatchesFirst s.choices, ?_⟩
    simp only [← begins]
    simp only [exec, execMarkerStart, low, inCells, Receiver.takesMarker, Bool.and_self, if_true, State.earlyMarker, State.chosen]
    rfl
  · intro quiet
    refine execMarkerStart_not_taken ?_
    rcases quiet with high | off | marker | blocked
    · exact .inl high
    · exact .inr (by rw [off]; rfl)
    · exact .inr (by rw [marker]; rfl)
    · exact .inr (by rw [blocked]; rfl)

/-! ## The epoch timer and lost markers -/

/-- The record of which nothing was read, field by field. -/
theorem Vbi.emptyRecord_eq (v : Vbi) (f : FramingFaults) (d : Bool) :
    v.emptyRecord f d =
      { faults := f, driveFault := d, cells := [], wrote := [], grant := none, ownWin := false, digestVerdict := .noNarrator,
        digestValue := none, digestTrue := 0xFF#8, mirrorVerdict := .noNarrator, mirrorValue := none, mirrorTrue := 0x1FFFFFFF#29,
        own := v.outgoing } := by
  have grant : decodeGrant [] = none := by decide
  have digest : digestVerdict [] = .noNarrator := by decide
  have mirror : mirrorVerdict [] = .noNarrator := by decide
  have digestBits : BitVec.ofNat 8 (cellField [] digestField 8) = 0xFF#8 := by decide
  have mirrorBits : BitVec.ofNat 29 (cellField [] mirrorField 29) = 0x1FFFFFFF#29 := by decide
  simp only [Vbi.emptyRecord, recordOf, grant, digest, mirror, digestBits, mirrorBits]
  simp

/-- Settles O21, each event by the case it stands in. -/
theorem epochTimerAndLostMarkers : Obligations.EpochTimerAndLostMarkers := by
  refine ⟨?_, ?_, ?_, ?_, ?_, ?_, Vbi.emptyRecord_eq⟩
  · intro s due set now
    refine ⟨?_, ?_, ?_⟩
    · rintro (seeking | resting)
      · simp [exec, execEpochTimerExpiry, set, seeking, State.setVbi, State.advanceTo, now]
      · simp [exec, execEpochTimerExpiry, set, resting, State.setVbi, State.advanceTo, now]
    · intro blocked
      simp [exec, execEpochTimerExpiry, set, blocked, State.setVbi, State.advanceTo, now, epochPeriod]
    · rintro (off | marker | cells)
      · simp [exec, execEpochTimerExpiry, set, off]
      · simp [exec, execEpochTimerExpiry, set, marker]
      · simp [exec, execEpochTimerExpiry, set, cells]
  · intro s stopped
    simp [exec, execEpochTimerExpiry, stopped]
  · intro s since drives timer
    simp [exec, execUnheardMarker, drives, State.setVbi, State.advanceTo, timer, markerRecognition, epochPeriod]
  · intro s idle
    match drives : s.vbi.driver with
    | .marker since false => exact absurd drives (idle since)
    | .marker since true => simp [exec, execUnheardMarker, drives]
    | .released => simp [exec, execUnheardMarker, drives]
    | .cell since => simp [exec, execUnheardMarker, drives]
  · intro s marker epoch
    simp [exec, execLongMarker, marker, State.setVbi, State.advanceTo, longMarkerTime, epoch, Epoch.fresh]
  · intro s unmarked
    simp [exec, execLongMarker, unmarked]

/-! ## Cells -/

theorem State.mayWriteStatus_iff : s.mayWriteStatus = true ↔
    (s.vbi.outgoing.participation = .learning ∨ s.vbi.outgoing.participation = .inStep) ∧
      (s.participation = .learning ∨ s.participation = .inStep) := by
  simp [State.mayWriteStatus, Participation.inGroup]

theorem State.mayWriteGroup_iff : s.mayWriteGroup = true ↔ s.vbi.outgoing.participation = .inStep ∧ s.participation = .inStep := by
  simp [State.mayWriteGroup]

/-- Which of the five status cells the latched record calls for (R25). -/
theorem Outgoing.statusCell_iff (o : Outgoing) (f : Nat) : o.statusCell f = true ↔
    f = 0 ∨ (f = 1 ∧ o.condition = .failed) ∨ (f = 2 ∧ o.condition = .degraded) ∨
      (f = 3 ∧ (o.participation = .learning ∨ o.owesWork = true)) ∨ (f = 4 ∧ o.engineOut = true) := by
  unfold Outgoing.statusCell
  split <;> simp_all

/-- What the latched record calls for in the request field (R29). -/
theorem Outgoing.dominantAt_request (o : Outgoing) (n : Pos) (c : Contention) {k : Nat} (from80 : 80 ≤ k) (below87 : k < 87) :
    o.dominantAt n c k = true ↔ c = .contending ∧ ∃ w : BitVec 7, o.request = some w ∧ w.getMsbD (k - 80) = false := by
  have past : ¬ k < 80 := by omega
  simp only [Outgoing.dominantAt, requestField, digestField, past, below87, if_true, if_false]
  cases o.request <;> simp

/-- Cell `k` is called for dominant field by field (R25, R26, R29, R184). -/
theorem Outgoing.dominantAt_iff (o : Outgoing) (n : Pos) (c : Contention) (k : Nat) : o.dominantAt n c k = true ↔
    (k < 80 ∧ k % 16 = n.val ∧ o.statusCell (k / 16) = true) ∨
    (80 ≤ k ∧ k < 87 ∧ c = .contending ∧ ∃ w : BitVec 7, o.request = some w ∧ w.getMsbD (k - 80) = false) ∨
    (87 ≤ k ∧ k < 95 ∧ o.digest.getMsbD (k - 87) = false) ∨
    (95 ≤ k ∧ k < 103 ∧ o.digest.getMsbD (k - 95) = true) ∨
    (103 ≤ k ∧ k < 132 ∧ o.mirror.getMsbD (k - 103) = false) ∨
    (132 ≤ k ∧ k < 161 ∧ o.mirror.getMsbD (k - 132) = true) := by
  by_cases status : k < 80
  · simp [Outgoing.dominantAt, requestField, status, show ¬ 80 ≤ k by omega, show ¬ 87 ≤ k by omega, show ¬ 95 ≤ k by omega,
      show ¬ 103 ≤ k by omega, show ¬ 132 ≤ k by omega]
  by_cases request : k < 87
  · rw [o.dominantAt_request n c (by omega) request]
    simp [status, request, show 80 ≤ k by omega, show ¬ 87 ≤ k by omega, show ¬ 95 ≤ k by omega, show ¬ 103 ≤ k by omega,
      show ¬ 132 ≤ k by omega]
  · simp only [Outgoing.dominantAt, requestField, digestField, digestComplement, mirrorField, mirrorComplement, quietField, status, request,
      if_false, false_and, and_false, false_or]
    by_cases digest : k < 95
    · simp [digest, show 87 ≤ k by omega, show ¬ 95 ≤ k by omega, show ¬ 103 ≤ k by omega, show ¬ 132 ≤ k by omega]
    by_cases complement : k < 103
    · simp [digest, complement, show 95 ≤ k by omega, show ¬ 103 ≤ k by omega, show ¬ 132 ≤ k by omega]
    by_cases mirror : k < 132
    · simp [digest, complement, mirror, show 103 ≤ k by omega, show ¬ 132 ≤ k by omega]
    by_cases mirrorAgain : k < 161
    · simp [digest, complement, mirror, mirrorAgain, show 132 ≤ k by omega]
    · simp [digest, complement, mirror, mirrorAgain]

/-- Cell `k` is written dominant where the latched record calls for it and its field is permitted (R28). -/
theorem State.writesDominant_iff (k : Nat) : s.writesDominant k = true ↔
    (k < 80 → s.mayWriteStatus = true) ∧ (¬ k < 80 → s.mayWriteGroup = true) ∧
      s.vbi.outgoing.dominantAt s.sl.ownPos s.vbi.epoch.contention k = true := by
  unfold State.writesDominant requestField
  split <;> simp [*]

theorem State.contentionAt_eq (k : Nat) : s.contentionAt k =
    if 80 ≤ k ∧ k < 87 ∧ ¬(s.vbi.outgoing.participation = .inStep ∧ s.participation = .inStep) then .none else s.vbi.epoch.contention := by
  by_cases permitted : s.mayWriteGroup = true
  · have both := State.mayWriteGroup_iff.mp permitted
    simp [State.contentionAt, permitted, both]
  · have not_both : ¬(s.vbi.outgoing.participation = .inStep ∧ s.participation = .inStep) :=
      fun both => permitted (State.mayWriteGroup_iff.mpr both)
    simp only [State.contentionAt, inRequestField, permitted, not_both, Bool.not_false, Bool.and_true, Bool.and_eq_true, decide_eq_true_eq,
      not_false_eq_true, and_true]
    rfl

theorem Vbi.cellDue_iff (v : Vbi) : v.cellDue = true ↔
    v.receiver = .inCells ∧ v.epoch.wrote.length = v.epoch.cells.length ∧ v.epoch.cells.length < 168 := by
  simp only [Vbi.cellDue, Bool.and_eq_true, decide_eq_true_eq, and_assoc]
  rfl

/-- Settles O22: the cells called for are `Outgoing.dominantAt_iff`, and the permission is `State.writesDominant_iff`. -/
theorem cellsAreWrittenFromTheLatchedRecord : Obligations.CellsAreWrittenFromTheLatchedRecord := by
  refine ⟨?_, ?_⟩
  · intro s k dominant inCells read begun inRange o group status calls dominantIff now
    have written : s.writesDominant k = dominant := by
      rw [Bool.eq_iff_iff, dominantIff, State.writesDominant_iff, Outgoing.dominantAt_iff, State.mayWriteStatus_iff, State.mayWriteGroup_iff,
        Outgoing.statusCell_iff]
      by_cases low : k < 80
      · simp [calls, status, o, low, show ¬ 80 ≤ k by omega, show ¬ 87 ≤ k by omega, show ¬ 95 ≤ k by omega, show ¬ 103 ≤ k by omega,
          show ¬ 132 ≤ k by omega]
      · by_cases permitted : o.participation = .inStep ∧ s.participation = .inStep
        · simp only [calls, group, o, low, permitted, false_and, false_or, and_true, not_false_eq_true, true_implies, false_implies, true_and]
        · simp only [calls, group, low, permitted, false_and, and_false, or_false, not_false_eq_true, true_implies]
          exact ⟨fun ⟨_, both, _⟩ => permitted both, False.elim⟩
    have due : s.vbi.cellDue = true := s.vbi.cellDue_iff.mpr ⟨inCells, by rw [begun, read], by omega⟩
    have contention := s.contentionAt_eq k
    simp only [exec, execCellBegin, due, if_true, begun, written, contention, State.setVbi, State.advanceTo, cellTime]
    rfl
  · intro s idle
    have notDue : ¬ s.vbi.cellDue = true := by
      rw [Vbi.cellDue_iff]
      rintro ⟨inCells, begun, read⟩
      rcases idle with outside | uneven | past
      · exact outside inCells
      · exact uneven begun
      · omega
    simp [exec, execCellBegin, notDue]

/-- Settles O23. -/
theorem cellsAreReadAndTheRecordCloses : Obligations.CellsAreReadAndTheRecordCloses := by
  refine ⟨⟨?_, ?_⟩, ?_, ?_⟩
  · intro s k wrote inCells read begun mark
    have due : s.vbi.sampleDue = true := by simp [Vbi.sampleDue, inCells, begun, read]
    have markAt : cellAt s.vbi.epoch.wrote k = wrote := by simp [cellAt, mark]
    refine ⟨s.vbi.epoch.sampled k wrote s.vbi.lineLow, ?_, rfl, rfl, ?_, ?_, ?_, ?_, ?_, ?_, rfl, rfl, rfl, rfl⟩
    · simp only [exec, execCellSample, due, if_true, read, markAt, State.setVbi, State.advanceTo, cellTime, sampleOffset]
    · simp [Epoch.sampled]
    · simp only [Epoch.sampled, inRequestField, Bool.and_eq_true, decide_eq_true_eq, Bool.not_eq_true', and_assoc]
      rfl
    · simp [Epoch.sampled, faultsAt, digestField]
    · simp [Epoch.sampled, faultsAt, mirrorField]
    · simp [Epoch.sampled, faultsAt, quietField]
    · have last : cellAt (s.vbi.epoch.cells ++ [s.vbi.lineLow]) k = s.vbi.lineLow := by simp [cellAt, ← read]
      simp only [Epoch.sampled, faultsAt, last, Bool.or_eq_true, Bool.and_eq_true, decide_eq_true_eq]
      rfl
  · intro s idle
    have notDue : ¬ s.vbi.sampleDue = true := by
      simp only [Vbi.sampleDue, Bool.and_eq_true, decide_eq_true_eq, not_and]
      intro inCells
      exact idle.resolve_left (fun outside => outside inCells)
    simp [exec, execCellSample, notDue]
  · intro s inCells read epoch faults
    have closes : s.vbi.closes = true := by simp [Vbi.closes, inCells, read, cellCount]
    simp only [exec, execRecordDelivery, closes, if_true]
    rfl
  · intro s open'
    have notClosing : ¬ s.vbi.closes = true := by
      simp only [Vbi.closes, Bool.and_eq_true, decide_eq_true_eq, not_and]
      intro inCells
      exact open'.resolve_left (fun outside => outside inCells)
    simp [exec, execRecordDelivery, notClosing]

/-! ## The request field -/

/-- A request value is granted by its code. -/
theorem Request.ofCode_eq_some_iff (n : Nat) (v : Request) : Request.ofCode n = some v ↔ v.code = n := by
  constructor
  · intro decoded
    unfold Request.ofCode at decoded
    split at decoded <;> cases decoded <;> rfl
  · rintro rfl
    cases v <;> rfl

theorem Request.code_lt (v : Request) : v.code < 6 := by cases v <;> decide

theorem Request.ofCode_eq_none_iff (n : Nat) : Request.ofCode n = none ↔ 6 ≤ n := by
  unfold Request.ofCode
  split <;> simp_all
  omega

/-- Settles O24: the field's value and position are the two numbers its cells read. -/
theorem grantIsReadFromTheRequestCells : Obligations.GrantIsReadFromTheRequestCells := by
  intro cells bit value position
  have valueIs : cellField cells 80 3 = value := by
    simp only [cellField, List.range_succ, List.range_zero, List.nil_append, List.foldl_append, List.foldl_cons, List.foldl_nil, Nat.add_zero,
      Nat.reduceAdd, value, bit]
    omega
  have positionIs : cellField cells 83 4 = position := by
    simp only [cellField, List.range_succ, List.range_zero, List.nil_append, List.foldl_append, List.foldl_cons, List.foldl_nil, Nat.add_zero,
      Nat.reduceAdd, position, bit]
    omega
  have valueBound : value < 8 := valueIs ▸ cellField_lt _ 80 3
  have positionBound : position < 16 := positionIs ▸ cellField_lt _ 83 4
  have grant : decodeGrant cells = (Request.ofCode value).map fun v => (v, Fin.ofNat 16 position) := by
    simp only [decodeGrant, requestField, valueIs, positionIs]
  refine ⟨?_, ?_, ?_, ?_⟩
  · intro v p
    have same : Fin.ofNat 16 position = p ↔ p.val = position := by
      rw [Fin.ext_iff, Fin.val_ofNat, Nat.mod_eq_of_lt positionBound]
      exact eq_comm
    rw [grant, Option.map_eq_some_iff]
    simp only [Request.ofCode_eq_some_iff, Prod.mk.injEq, same]
    constructor
    · rintro ⟨w, code, rfl, pos⟩
      exact ⟨code, pos⟩
    · rintro ⟨code, pos⟩
      exact ⟨v, code, rfl, pos⟩
  · rw [grant, Option.map_eq_none_iff, Request.ofCode_eq_none_iff]
    omega
  · simp [requestInvalid, requestField, valueIs, positionIs]
  · intro wrote f d c o
    refine ⟨?_, ?_⟩
    · intro faulted
      simp [recordOf, faulted]
    · intro clean
      simp [recordOf, clean]

end Sys2Proof.Machine
end

section
/-! SUPPORT. The narration (R31, R73 to R77, R184): the cells of a narrator read back, the slice's layout, the slice checks, the place on the wait list, and
the repair after an overwrite. -/

namespace Sys2Proof.Machine

open Sys2Proof.Safety

/-! ## The cells of one narrator -/

section
variable {cells : List Bool} {o : Outgoing} {n : Pos} {c : Contention}

/-- A field whose true cells are the 0 bits of a word and whose complement cells are its 1 bits reads CONSISTENT. -/
theorem verdictOf_pairs_consistent {w t k : Nat} (x : BitVec w) (wide : 0 < w) (trueHalf : ∀ i < w, cellAt cells (t + i) = !x.getMsbD i)
    (complement : ∀ i < w, cellAt cells (k + i) = x.getMsbD i) : verdictOf (pairsOf cells t k w) = .consistent := by
  have some_pair : pairsOf cells t k w ≠ [] := by
    simp [pairsOf]
    omega
  rw [verdictOf_eq_consistent_iff some_pair]
  intro p mem
  simp only [pairsOf, List.mem_map, List.mem_range] at mem
  obtain ⟨i, inRange, rfl⟩ := mem
  rw [trueHalf i inRange, complement i inRange]
  cases x.getMsbD i
  · exact .inl rfl
  · exact .inr rfl

/-- A field whose true cells are the 0 bits of a word reads that word. -/
theorem ofNat_cellField {w t : Nat} (x : BitVec w) (trueHalf : ∀ i < w, cellAt cells (t + i) = !x.getMsbD i) :
    BitVec.ofNat w (cellField cells t w) = x := by
  refine BitVec.eq_of_getMsbD_eq fun i inRange => ?_
  rw [Bool.eq_iff_iff, getMsbD_cellField cells t inRange, trueHalf i inRange]
  simp

variable (written : ∀ k, 87 ≤ k → k < 161 → cellAt cells k = o.dominantAt n c k)

include written in
theorem digestCells (i : Nat) (inRange : i < 8) :
    cellAt cells (digestField + i) = !o.digest.getMsbD i ∧ cellAt cells (digestComplement + i) = o.digest.getMsbD i := by
  have first := written (87 + i) (by omega) (by omega)
  have second := written (95 + i) (by omega) (by omega)
  rw [Outgoing.dominantAt, if_neg (by simp [requestField]; omega), if_neg (by simp [digestField]), if_pos (by simp [digestComplement]; omega),
    digestField, Nat.add_sub_cancel_left] at first
  rw [Outgoing.dominantAt, if_neg (by simp [requestField]; omega), if_neg (by simp [digestField]; omega), if_neg (by simp [digestComplement]),
    if_pos (by simp [mirrorField]; omega), digestComplement, Nat.add_sub_cancel_left] at second
  exact ⟨first, second⟩

include written in
theorem mirrorCells (i : Nat) (inRange : i < 29) :
    cellAt cells (mirrorField + i) = !o.mirror.getMsbD i ∧ cellAt cells (mirrorComplement + i) = o.mirror.getMsbD i := by
  have first := written (103 + i) (by omega) (by omega)
  have second := written (132 + i) (by omega) (by omega)
  rw [Outgoing.dominantAt, if_neg (by simp [requestField]; omega), if_neg (by simp [digestField]; omega),
    if_neg (by simp [digestComplement]; omega), if_neg (by simp [mirrorField]), if_pos (by simp [mirrorComplement]; omega), mirrorField,
    Nat.add_sub_cancel_left] at first
  rw [Outgoing.dominantAt, if_neg (by simp [requestField]; omega), if_neg (by simp [digestField]; omega),
    if_neg (by simp [digestComplement]; omega), if_neg (by simp [mirrorField]; omega), if_neg (by simp [mirrorComplement]),
    if_pos (by simp [quietField]; omega), mirrorComplement, Nat.add_sub_cancel_left] at second
  exact ⟨first, second⟩

include written in
/-- The cells one narrator writes read back its digest and its mirror field. -/
theorem recordOf_of_narrator (wrote : List Bool) {f : FramingFaults} (clean : f.any = false) (d : Bool) (x : Contention) (own : Outgoing) :
    (recordOf cells wrote f d x own).digestVerdict = .consistent ∧ (recordOf cells wrote f d x own).digestValue = some o.digest ∧
    (recordOf cells wrote f d x own).mirrorVerdict = .consistent ∧
    ∀ (k : Fin 16) (w : BitVec 25), o.mirror = mirrorBits k w → (recordOf cells wrote f d x own).mirrorValue = some (k, w) := by
  have digest : digestVerdict cells = .consistent :=
    verdictOf_pairs_consistent o.digest (by omega) (fun i hi => (digestCells written i hi).1) (fun i hi => (digestCells written i hi).2)
  have mirror : mirrorVerdict cells = .consistent :=
    verdictOf_pairs_consistent o.mirror (by omega) (fun i hi => (mirrorCells written i hi).1) (fun i hi => (mirrorCells written i hi).2)
  refine ⟨digest, ?_, mirror, ?_⟩
  · rw [recordOf_digestValue_of_consistent wrote d x own clean digest, recordOf_digestTrue,
      ofNat_cellField o.digest fun i hi => (digestCells written i hi).1]
  · intro k w bits
    rw [recordOf_mirrorValue_of_consistent wrote d x own clean mirror]
    have whole : BitVec.ofNat 4 (mirrorValueOf cells).1.val ++ (mirrorValueOf cells).2 = BitVec.ofNat 4 k.val ++ w := by
      rw [mirrorValueOf_append, ofNat_cellField o.mirror fun i hi => (mirrorCells written i hi).1, bits, mirrorBits]
    have index := congrArg (BitVec.extractLsb' 25 4) whole
    have slice := congrArg (BitVec.extractLsb' 0 25) whole
    rw [BitVec.extractLsb'_append_eq_left, BitVec.extractLsb'_append_eq_left] at index
    rw [BitVec.extractLsb'_append_eq_right, BitVec.extractLsb'_append_eq_right] at slice
    have same : (mirrorValueOf cells).1 = k := by
      have numbers := congrArg BitVec.toNat index
      rw [BitVec.toNat_ofNat, BitVec.toNat_ofNat, Nat.mod_eq_of_lt (mirrorValueOf cells).1.isLt, Nat.mod_eq_of_lt k.isLt] at numbers
      exact Fin.ext numbers
    rw [← same, ← slice]

end

/-! ## The slice -/

/-- Each field of the slice at its bits (R184). -/
theorem Entry.slice_fields (e : Entry) :
    e.slice.extractLsb' 19 4 = BitVec.ofNat 4 e.runCount ∧ e.slice.extractLsb' 17 2 = BitVec.ofNat 2 e.condition.code ∧
    e.slice.extractLsb' 16 1 = BitVec.ofBool e.locked ∧ e.slice.extractLsb' 15 1 = BitVec.ofBool e.faulted ∧
    e.slice.extractLsb' 12 3 = BitVec.ofNat 3 e.assignment.code ∧ e.slice.extractLsb' 11 1 = BitVec.ofBool e.partner.isSome ∧
    e.slice.extractLsb' 7 4 = BitVec.ofNat 4 (match e.partner with | some p => p.val | none => 0) ∧
    e.slice.extractLsb' 4 3 = BitVec.ofNat 3 e.cls.code ∧ e.slice.extractLsb' 0 4 = BitVec.ofNat 4 e.waitRank ∧
    e.slice.extractLsb' 23 2 = BitVec.ofNat 2 e.presence.code := by
  unfold Entry.slice
  refine ⟨?_, ?_, ?_, ?_, ?_, ?_, ?_, ?_, ?_, ?_⟩
  all_goals repeat rw [BitVec.extractLsb'_append_eq_of_le (by omega)]
  case refine_10 => exact BitVec.extractLsb'_eq_self
  all_goals exact BitVec.extractLsb'_append_eq_right
/-- An entry whose counters fit their fields is read back from its slice. -/
theorem Entry.ofSlice_slice (e : Entry) (count : e.runCount < 16) (rank : e.waitRank < 16) : Entry.ofSlice e.role e.slice = some e := by
  obtain ⟨countBits, conditionBits, lockedBit, faultedBit, assignmentBits, partnerBit, positionBits, clsBits, rankBits, presenceBits⟩ :=
    e.slice_fields
  have conditionCode : Condition.ofCode (e.condition.code % 4) = some e.condition := by cases e.condition <;> rfl
  have assignmentCode : Assignment.ofCode (e.assignment.code % 8) = some e.assignment := by cases e.assignment <;> rfl
  have clsCode : Cls.ofCode (e.cls.code % 8) = some e.cls := by cases e.cls <;> rfl
  have presenceCode : Presence.ofCode (e.presence.code % 4) = e.presence := by cases e.presence <;> rfl
  have flag : ∀ b : Bool, ((BitVec.ofBool b).toNat = 1) = (b = true) := by decide
  have unflag : ∀ b : Bool, ((BitVec.ofBool b).toNat = 0) = (b = false) := by decide
  simp only [Entry.ofSlice, countBits, conditionBits, lockedBit, faultedBit, assignmentBits, partnerBit, positionBits, clsBits, rankBits,
    presenceBits, flag, unflag, BitVec.toNat_ofNat, Nat.reducePow, conditionCode, assignmentCode, clsCode, presenceCode,
    Nat.mod_eq_of_lt count, Nat.mod_eq_of_lt rank, Bool.decide_eq_true]
  cases held : e.partner with
  | none =>
    simp only [Option.isSome_none, Bool.false_eq_true, if_false, Nat.zero_mod, ne_eq, not_true_eq_false, decide_false, Bool.and_false]
    rw [← held]
  | some q =>
    have position : Fin.ofNat 16 (q.val % 16) = q := by
      ext
      simp
    simp only [position, Option.isSome_some, Bool.true_eq_false, decide_false, Bool.false_and, Bool.false_eq_true, if_false, if_true]
    rw [← held]

/-! ## The slice checks (R75) -/

theorem presenceSliceOk_iff (blk : List Byte) (d : Entry) : presenceSliceOk blk d = true ↔
    d.presence ≠ .absent ∧ (d.presence = .lost → d.runCount = 0 ∧ d.condition = .clear ∧ d.faulted = false) ∧
    (d.presence = .joining → d.runCount = 1 ∨ d.runCount = 2) ∧ (d.presence = .present → d.runCount < (byteAt blk 23).toNat) := by
  unfold presenceSliceOk blockLossThreshold
  cases d.presence <;> simp [and_assoc]

theorem Cls.mayWait_iff (c : Cls) : c.mayWait = true ↔ c = .force ∨ c = .fail ∨ c = .degrade := by cases c <;> decide

theorem backupSliceOk_iff (blk : List Byte) (k : Pos) (d : Entry) : backupSliceOk blk k d = true ↔
    d.cls = .none ∧ d.waitRank = 0 ∧ d.assignment ≠ .dropping ∧ (d.partner.isSome = true ↔ d.assignment ≠ .none) ∧
    ∀ q : Pos, d.partner = some q → blockRole blk q = .primary ∧ (blockPooled blk = true ∨ blockPartner blk k = some q) := by
  unfold backupSliceOk
  cases d.partner <;> simp [and_assoc]

theorem primarySliceOk_iff (blk : List Byte) (np : Nat) (k : Pos) (d : Entry) : primarySliceOk blk np k d = true ↔
    (d.partner.isSome = true ↔ d.assignment ≠ .none) ∧
    (∀ q : Pos, d.partner = some q → blockRole blk q = .backup ∧ (blockPooled blk = true ∨ blockPartner blk k = some q)) ∧
    (d.cls = .none ↔ d.assignment = .none ∧ d.waitRank = 0) ∧
    (d.waitRank ≠ 0 → d.presence = .present ∧ d.locked = false ∧ d.assignment = .none ∧
      (d.cls = .force ∨ d.cls = .fail ∨ d.cls = .degrade) ∧ d.waitRank ≤ np) ∧
    (d.locked = true → (d.assignment = .none ∨ d.assignment = .dropping) ∧ d.waitRank = 0) := by
  have classed : decide (d.cls = .none) = (decide (d.assignment = .none) && decide (d.waitRank = 0)) ↔
      (d.cls = .none ↔ d.assignment = .none ∧ d.waitRank = 0) := by
    rw [Bool.eq_iff_iff]
    simp
  unfold primarySliceOk
  cases d.partner <;> simp [and_assoc, classed, Cls.mayWait_iff, or_iff_not_imp_left]

theorem sliceOk_iff (blk : List Byte) (np : Nat) (k : Pos) (d : Entry) : sliceOk blk np k d = true ↔
    (d.role = .empty → d = Entry.cleared .empty) ∧
    (d.role ≠ .empty → d.presence ≠ .absent ∧
      (d.presence = .lost → d.runCount = 0 ∧ d.condition = .clear ∧ d.faulted = false) ∧
      (d.presence = .joining → d.runCount = 1 ∨ d.runCount = 2) ∧ (d.presence = .present → d.runCount < (byteAt blk 23).toNat) ∧
      (d.partner.isSome = true ↔ d.assignment ≠ .none)) ∧
    (d.role = .backup → d.cls = .none ∧ d.waitRank = 0 ∧ d.assignment ≠ .dropping ∧
      ∀ q : Pos, d.partner = some q → blockRole blk q = .primary ∧ (blockPooled blk = true ∨ blockPartner blk k = some q)) ∧
    (d.role = .primary →
      (∀ q : Pos, d.partner = some q → blockRole blk q = .backup ∧ (blockPooled blk = true ∨ blockPartner blk k = some q)) ∧
      (d.cls = .none ↔ d.assignment = .none ∧ d.waitRank = 0) ∧
      (d.waitRank ≠ 0 → d.presence = .present ∧ d.locked = false ∧ d.assignment = .none ∧
        (d.cls = .force ∨ d.cls = .fail ∨ d.cls = .degrade) ∧ d.waitRank ≤ np) ∧
      (d.locked = true → (d.assignment = .none ∨ d.assignment = .dropping) ∧ d.waitRank = 0)) := by
  unfold sliceOk
  cases role : d.role with
  | empty => simp
  | backup =>
    simp only [Bool.and_eq_true, presenceSliceOk_iff, backupSliceOk_iff, reduceCtorEq, ne_eq, not_false_eq_true, true_implies, false_implies,
      true_and, and_true]
    exact ⟨fun ⟨⟨absent, lost, joining, present⟩, cls, rank, dropping, engaged, partner⟩ =>
        ⟨⟨absent, lost, joining, present, engaged⟩, cls, rank, dropping, partner⟩,
      fun ⟨⟨absent, lost, joining, present, engaged⟩, cls, rank, dropping, partner⟩ =>
        ⟨⟨absent, lost, joining, present⟩, cls, rank, dropping, engaged, partner⟩⟩
  | primary =>
    simp only [Bool.and_eq_true, presenceSliceOk_iff, primarySliceOk_iff, reduceCtorEq, ne_eq, not_false_eq_true, true_implies, false_implies,
      true_and]
    exact ⟨fun ⟨⟨absent, lost, joining, present⟩, engaged, partner, rest⟩ => ⟨⟨absent, lost, joining, present, engaged⟩, partner, rest⟩,
      fun ⟨⟨absent, lost, joining, present, engaged⟩, partner, rest⟩ => ⟨⟨absent, lost, joining, present⟩, engaged, partner, rest⟩⟩

/-! ## The place on the wait list (R76) -/

section
variable {α : Type} {l : List α} {f : α → Nat}

/-- On a list ascending in `f`, the first entries up to the count of those below a bound are below it, and those after the count are not. -/
theorem below_take_count (ascending : l.Pairwise fun a b => f a ≤ f b) (bound : Nat) :
    (∀ i ≤ (l.filter fun a => decide (f a < bound)).length, ∀ q ∈ l.take i, f q < bound) ∧
    ∀ i ≥ (l.filter fun a => decide (f a < bound)).length, ∀ q ∈ l.drop i, bound ≤ f q := by
  induction l with
  | nil => simp
  | cons a l ih =>
    obtain ⟨least, rest⟩ := List.pairwise_cons.mp ascending
    obtain ⟨taken, dropped⟩ := ih rest
    by_cases low : f a < bound
    · rw [List.filter_cons_of_pos (by simpa using low), List.length_cons]
      refine ⟨fun i few q mem => ?_, fun i many q mem => ?_⟩
      · cases i with
        | zero => simp at mem
        | succ i =>
          rcases List.mem_cons.mp (List.take_succ_cons ▸ mem) with rfl | later
          · exact low
          · exact taken i (by omega) q later
      · cases i with
        | zero => omega
        | succ i => exact dropped i (by omega) q mem
    · have none_below : l.filter (fun a => decide (f a < bound)) = [] := by
        rw [List.filter_eq_nil_iff]
        intro b mem
        have := least b mem
        simp
        omega
      rw [List.filter_cons_of_neg (by simpa using low), none_below]
      refine ⟨fun i few q mem => ?_, fun i _ q mem => ?_⟩
      · rw [Nat.le_zero.mp few] at mem
        simp at mem
      · rcases List.mem_cons.mp (List.mem_of_mem_drop mem) with rfl | later
        · omega
        · have := least q later
          omega

end

section
variable (g : Gtu)

theorem Gtu.placeAtRank_zero (k : Pos) : (g.placeAtRank k 0).waitList = g.waitList.filter fun q => q ≠ k := rfl

@[simp] theorem Gtu.entries_placeAtRank (k : Pos) (r : Nat) : (g.placeAtRank k r).entries = g.entries := by
  unfold Gtu.placeAtRank
  split <;> rfl

/-- The position is inserted as near to the rank as the run of its class allows. -/
theorem Gtu.placeAtRank_splits (k : Pos) {r : Nat} (ranked : 0 < r)
    (ascending : (g.waitList.filter fun q => q ≠ k).Pairwise fun p q => g.rankClass p ≤ g.rankClass q) :
    ∃ before after : List Pos, (g.placeAtRank k r).waitList = before ++ k :: after ∧
      before ++ after = g.waitList.filter (fun q => q ≠ k) ∧
      (∀ q ∈ before, g.rankClass q ≤ g.rankClass k) ∧ (∀ q ∈ after, g.rankClass k ≤ g.rankClass q) ∧
      (before.length + 1 < r → ∀ q ∈ after, g.rankClass k < g.rankClass q) ∧
      (r < before.length + 1 → ∀ q ∈ before, g.rankClass q < g.rankClass k) := by
  set l := g.waitList.filter fun q => q ≠ k with rest
  set c := g.rankClass k
  set lo := (l.filter fun q => decide (g.rankClass q < c)).length with loIs
  set hi := (l.filter fun q => decide (g.rankClass q ≤ c)).length with hiIs
  have hiLt : hi = (l.filter fun q => decide (g.rankClass q < c + 1)).length := by simp only [hiIs, Nat.lt_succ_iff]
  obtain ⟨takenLo, droppedLo⟩ := below_take_count ascending c
  obtain ⟨takenHi, droppedHi⟩ := below_take_count ascending (c + 1)
  rw [← hiLt] at takenHi droppedHi
  rw [← loIs] at takenLo droppedLo
  have ordered : lo ≤ hi := by
    rw [hiLt]
    exact (List.monotone_filter_right l fun q low => by simp at low ⊢; omega).length_le
  have inList : hi ≤ l.length := List.length_filter_le _ _
  set i := max lo (min (r - 1) hi) with iIs
  have length : (l.take i).length = i := by
    rw [List.length_take]
    omega
  refine ⟨l.take i, l.drop i, ?_, List.take_append_drop i l, ?_, ?_, ?_, ?_⟩
  · rw [Gtu.placeAtRank, if_neg (by omega)]
    rfl
  · exact fun q mem => Nat.lt_succ_iff.mp (takenHi i (by omega) q mem)
  · exact fun q mem => droppedLo i (by omega) q mem
  · intro far q mem
    rw [length] at far
    exact droppedHi i (by omega) q mem
  · intro near q mem
    rw [length] at near
    exact takenLo i (by omega) q mem

end

/-! ## Clearing several primaries in one pass (R62, R77) -/

/-- From `g` to `h` position `p` has been cleared: assignment NONE, no partner, class 0, off the wait list. -/
def Gtu.ClearedAt (g h : Gtu) (p : Pos) : Prop :=
  h.entry p = { g.entry p with assignment := .none, partner := none, cls := .none } ∧ p ∉ h.waitList

/-- From `g` to `h` position `p` has kept its entry and its being on the wait list or off it. -/
def Gtu.KeptAt (g h : Gtu) (p : Pos) : Prop := h.entry p = g.entry p ∧ (p ∈ h.waitList ↔ p ∈ g.waitList)

theorem Gtu.KeptAt.trans {g h i : Gtu} {p : Pos} (first : g.KeptAt h p) (second : h.KeptAt i p) : g.KeptAt i p :=
  ⟨second.1.trans first.1, second.2.trans first.2⟩

theorem Gtu.ClearedAt.trans_kept {g h i : Gtu} {p : Pos} (first : g.ClearedAt h p) (second : h.KeptAt i p) : g.ClearedAt i p :=
  ⟨second.1.trans first.1, fun mem => first.2 (second.2.mp mem)⟩

theorem Gtu.KeptAt.trans_cleared {g h i : Gtu} {p : Pos} (first : g.KeptAt h p) (second : h.ClearedAt i p) : g.ClearedAt i p :=
  ⟨by rw [second.1, first.1], second.2⟩

theorem Gtu.entry_clearPrimary_other {g : Gtu} {x q : Pos} (other : x ≠ q) : (g.clearPrimary x).entry q = g.entry q := by
  simp [Gtu.clearPrimary, Gtu.entry_setCover, other.symm]

theorem Gtu.clearedAt_clearPrimary (g : Gtu) (p : Pos) : g.ClearedAt (g.clearPrimary p) p :=
  ⟨by simp [Gtu.clearPrimary, Gtu.setCover], by simp [Gtu.clearPrimary, Gtu.offList]⟩

theorem Gtu.keptAt_clearPrimary {g : Gtu} {x p : Pos} (other : x ≠ p) : g.KeptAt (g.clearPrimary x) p :=
  ⟨Gtu.entry_clearPrimary_other other, by simp [Gtu.clearPrimary, Gtu.offList, Gtu.setCover, Gtu.setEntry, other.symm]⟩

/-- A pass over positions that clears each one `c` picks, where clearing another position does not change what `c` says of one: a position is cleared if it
was picked at the beginning, and otherwise kept. -/
theorem Gtu.foldl_clear {f : Gtu → Pos → Gtu} {c : Gtu → Pos → Prop} (picks : ∀ g q, c g q → f g q = g.clearPrimary q)
    (skips : ∀ g q, ¬c g q → f g q = g) (own : ∀ (g : Gtu) (x q : Pos), x ≠ q → (c (g.clearPrimary x) q ↔ c g q)) (p : Pos) :
    ∀ (l : List Pos) (g : Gtu), l.Nodup →
      (p ∈ l → c g p → g.ClearedAt (l.foldl f g) p) ∧ (¬(p ∈ l ∧ c g p) → g.KeptAt (l.foldl f g) p)
  | [], g, _ => ⟨fun mem => absurd mem List.not_mem_nil, fun _ => ⟨rfl, Iff.rfl⟩⟩
  | q :: l, g, distinct => by
    obtain ⟨fresh, rest⟩ := List.nodup_cons.mp distinct
    rw [List.foldl_cons]
    obtain ⟨cleared, kept⟩ := Gtu.foldl_clear picks skips own p l (f g q) rest
    by_cases same : p = q
    · subst same
      have later := kept fun both => fresh both.1
      refine ⟨fun _ picked => ?_, fun unpicked => ?_⟩
      · refine Gtu.ClearedAt.trans_kept ?_ later
        rw [picks g p picked]
        exact g.clearedAt_clearPrimary p
      · rwa [skips g p fun picked => unpicked ⟨List.mem_cons_self, picked⟩] at later ⊢
    · have first : g.KeptAt (f g q) p ∧ (c (f g q) p ↔ c g p) := by
        by_cases picked : c g q
        · rw [picks g q picked]
          exact ⟨Gtu.keptAt_clearPrimary (Ne.symm same), own g q p (Ne.symm same)⟩
        · rw [skips g q picked]
          exact ⟨⟨rfl, Iff.rfl⟩, Iff.rfl⟩
      refine ⟨fun mem picked => ?_, fun unpicked => ?_⟩
      · exact first.1.trans_cleared (cleared ((List.mem_cons.mp mem).resolve_left same) (first.2.mpr picked))
      · exact first.1.trans (kept fun both => unpicked ⟨List.mem_cons_of_mem q both.1, first.2.mp both.2⟩)

theorem allPos_nodup : allPos.Nodup := by decide

/-! ## The repair (R77) -/

section
variable {g : Gtu}

theorem Gtu.holds_iff (p b : Pos) : g.holds p b = true ↔
    (g.entry p).role = .primary ∧ (g.entry p).assignment.engaged = true ∧ (g.entry p).partner = some b := by
  simp [Gtu.holds, and_assoc]

theorem Gtu.drops_iff (p b : Pos) : g.drops p b = true ↔
    (g.entry p).role = .primary ∧ (g.entry p).assignment = .dropping ∧ (g.entry p).partner = some b := by
  simp [Gtu.drops, and_assoc]

/-- A relation of a primary is read from its own entry. -/
theorem Gtu.holds_congr {h : Gtu} {p : Pos} (same : h.entry p = g.entry p) (b : Pos) : h.holds p b = g.holds p b := by
  unfold Gtu.holds
  rw [same]

theorem Gtu.drops_congr {h : Gtu} {p : Pos} (same : h.entry p = g.entry p) (b : Pos) : h.drops p b = g.drops p b := by
  unfold Gtu.drops
  rw [same]

/-- The primaries the first step of a repair clears. -/
def Gtu.rivals (g : Gtu) (k p : Pos) : Prop :=
  p ≠ k ∧ ∃ b : Pos, (g.holds k b = true ∧ g.holds p b = true) ∨ (g.drops k b = true ∧ g.drops p b = true)

/-- The primaries a later step of a repair clears: those that hold a backup that satisfies `bad`. -/
def Gtu.holdsBad (bad : Entry → Bool) (g : Gtu) (p : Pos) : Prop := ∃ b : Pos, g.holds p b = true ∧ bad (g.entry b) = true

theorem Gtu.repairRivals_spec (g : Gtu) (k p : Pos) :
    (g.rivals k p → g.ClearedAt (g.repairRivals k) p) ∧ (¬g.rivals k p → g.KeptAt (g.repairRivals k) p) := by
  unfold Gtu.repairRivals
  cases partner : (g.entry k).partner with
  | none =>
    refine ⟨?_, fun _ => ⟨rfl, Iff.rfl⟩⟩
    rintro ⟨-, b, ⟨held, -⟩ | ⟨dropped, -⟩⟩
    · simp [Gtu.holds_iff, partner] at held
    · simp [Gtu.drops_iff, partner] at dropped
  | some b =>
    have only : ∀ x, (g.holds k x = true → b = x) ∧ (g.drops k x = true → b = x) := fun x =>
      ⟨fun held => by simpa [partner] using ((Gtu.holds_iff k x).mp held).2.2,
        fun dropped => by simpa [partner] using ((Gtu.drops_iff k x).mp dropped).2.2⟩
    obtain ⟨cleared, kept⟩ := Gtu.foldl_clear
      (f := fun g' q => if q ≠ k && ((g.holds k b && g'.holds q b) || (g.drops k b && g'.drops q b)) then g'.clearPrimary q else g')
      (c := fun g' q => q ≠ k ∧ ((g.holds k b = true ∧ g'.holds q b = true) ∨ (g.drops k b = true ∧ g'.drops q b = true)))
      (fun g' q picked => if_pos (by simpa using picked)) (fun g' q unpicked => if_neg (by simpa using unpicked))
      (fun g' x q other => by
        simp only [Gtu.holds_congr (Gtu.entry_clearPrimary_other other), Gtu.drops_congr (Gtu.entry_clearPrimary_other other)])
      p allPos g allPos_nodup
    refine ⟨?_, fun unrivalled => kept fun both => unrivalled ⟨both.2.1, b, both.2.2⟩⟩
    rintro ⟨other, x, relation⟩
    obtain rfl : b = x := relation.elim (fun held => (only x).1 held.1) fun dropped => (only x).2 dropped.1
    exact cleared (mem_allPos p) ⟨other, relation⟩

/-- A test of an entry that asks only for facts no cover operation changes. -/
def Factual (bad : Entry → Bool) : Prop := ∀ e e' : Entry, e.facts = e'.facts → bad e = bad e'

theorem Gtu.holdsBad_congr {bad : Entry → Bool} (factual : Factual bad) {h : Gtu} {p : Pos} (same : h.entry p = g.entry p)
    (facts : ∀ b, (h.entry b).facts = (g.entry b).facts) : h.holdsBad bad p ↔ g.holdsBad bad p := by
  simp only [Gtu.holdsBad, Gtu.holds_congr same, factual _ _ (facts _)]

theorem Gtu.repairHolders_spec {bad : Entry → Bool} (factual : Factual bad) (g : Gtu) (p : Pos) :
    (g.holdsBad bad p → g.ClearedAt (g.repairHolders bad) p) ∧ (¬g.holdsBad bad p → g.KeptAt (g.repairHolders bad) p) := by
  unfold Gtu.repairHolders
  set f : Gtu → Pos → Gtu := fun g p =>
    match (g.entry p).partner with
    | none => g
    | some b => if g.holds p b && bad (g.entry b) then g.clearPrimary p else g with step
  have picks : ∀ h q, Gtu.holdsBad bad h q → f h q = h.clearPrimary q := by
    rintro h q ⟨b, held, isBad⟩
    simp only [step, ((Gtu.holds_iff q b).mp held).2.2, held, isBad, Bool.and_self, if_true]
  have skips : ∀ h q, ¬Gtu.holdsBad bad h q → f h q = h := by
    intro h q sound
    simp only [step]
    split
    · rfl
    · next b _ =>
      exact if_neg fun both => sound ⟨b, Bool.and_eq_true _ _ ▸ both⟩
  have own : ∀ (h : Gtu) (x q : Pos), x ≠ q → ((h.clearPrimary x).holdsBad bad q ↔ h.holdsBad bad q) := fun h x q other =>
    Gtu.holdsBad_congr factual (Gtu.entry_clearPrimary_other other) (h.facts_clearPrimary x)
  obtain ⟨cleared, kept⟩ := Gtu.foldl_clear picks skips own p allPos g allPos_nodup
  exact ⟨cleared (mem_allPos p), fun sound => kept fun both => sound both.2⟩

theorem Gtu.facts_repairRivals (g : Gtu) (k n : Pos) : ((g.repairRivals k).entry n).facts = (g.entry n).facts := by
  unfold Gtu.repairRivals
  split
  · rfl
  · refine Gtu.foldl_keeps (P := fun h => (h.entry n).facts = (g.entry n).facts) (fun h p kept => ?_) allPos g rfl
    split
    · rw [Gtu.facts_clearPrimary, kept]
    · exact kept

theorem Gtu.facts_repairHolders (bad : Entry → Bool) (g : Gtu) (n : Pos) : ((g.repairHolders bad).entry n).facts = (g.entry n).facts := by
  refine Gtu.foldl_keeps (P := fun h => (h.entry n).facts = (g.entry n).facts) (fun h p kept => ?_) allPos g rfl
  split
  · exact kept
  · split
    · rw [Gtu.facts_clearPrimary, kept]
    · exact kept

theorem factual_locked : Factual fun e => e.locked := fun e e' facts => by
  simp only [Entry.facts, Prod.mk.injEq] at facts
  exact facts.2.2.2.2.1

theorem factual_unfit : Factual fun e => decide (e.presence ≠ .present) || e.faulted := fun e e' facts => by
  simp only [Entry.facts, Prod.mk.injEq] at facts
  show (decide (e.presence ≠ .present) || e.faulted) = (decide (e'.presence ≠ .present) || e'.faulted)
  rw [facts.2.1, facts.2.2.2.2.2]

/-- The three steps of a repair together: a primary is cleared if it is a rival of the overwritten one or holds a backup that is not fit, and no other is. -/
theorem Gtu.repair_steps (g : Gtu) (k p : Pos) :
    let h := ((g.repairRivals k).repairHolders fun e => e.locked).repairHolders fun e => decide (e.presence ≠ .present) || e.faulted
    let stale := ∃ b : Pos, g.holds p b = true ∧
      ((g.entry b).locked = true ∨ (g.entry b).presence ≠ .present ∨ (g.entry b).faulted = true)
    (g.rivals k p ∨ stale → g.ClearedAt h p) ∧ (¬g.rivals k p → ¬stale → g.KeptAt h p) := by
  intro h stale
  set g₁ := g.repairRivals k with g₁Is
  set g₂ := g₁.repairHolders fun e => e.locked with g₂Is
  have facts₁ : ∀ b, (g₁.entry b).facts = (g.entry b).facts := g.facts_repairRivals k
  have facts₂ : ∀ b, (g₂.entry b).facts = (g.entry b).facts := fun b => (Gtu.facts_repairHolders _ g₁ b).trans (facts₁ b)
  obtain ⟨cleared₁, kept₁⟩ := g.repairRivals_spec k p
  obtain ⟨cleared₂, kept₂⟩ := Gtu.repairHolders_spec factual_locked g₁ p
  obtain ⟨cleared₃, kept₃⟩ := Gtu.repairHolders_spec factual_unfit g₂ p
  have idle : ∀ {bad : Entry → Bool} {i : Gtu}, g.ClearedAt i p → ¬i.holdsBad bad p := by
    rintro bad i cleared ⟨b, held, -⟩
    rw [Gtu.holds_iff, cleared.1] at held
    exact absurd held.2.2 (by simp)
  have staleIff : stale ↔ g.holdsBad (fun e => e.locked) p ∨ g.holdsBad (fun e => decide (e.presence ≠ .present) || e.faulted) p := by
    simp only [stale, Gtu.holdsBad, Bool.or_eq_true, decide_eq_true_eq, ← exists_or, ← and_or_left]
  by_cases rival : g.rivals k p
  · have second := (cleared₁ rival).trans_kept (kept₂ (idle (cleared₁ rival)))
    exact ⟨fun _ => second.trans_kept (kept₃ (idle second)), fun unrivalled => absurd rival unrivalled⟩
  have first := kept₁ rival
  by_cases locked : g.holdsBad (fun e => e.locked) p
  · have second := first.trans_cleared (cleared₂ ((Gtu.holdsBad_congr factual_locked first.1 facts₁).mpr locked))
    exact ⟨fun _ => second.trans_kept (kept₃ (idle second)), fun _ sound => absurd (staleIff.mpr (.inl locked)) sound⟩
  have second := first.trans (kept₂ fun bad => locked ((Gtu.holdsBad_congr factual_locked first.1 facts₁).mp bad))
  have unfitIff := Gtu.holdsBad_congr factual_unfit second.1 facts₂
  refine ⟨fun picked => ?_, fun _ sound => second.trans (kept₃ fun unfit => sound (staleIff.mpr (.inr (unfitIff.mp unfit))))⟩
  have unfit := (staleIff.mp (picked.resolve_left rival)).resolve_left locked
  exact second.trans_cleared (cleared₃ (unfitIff.mpr unfit))

theorem rankOf_eq_zero {p : Pos} : ∀ {l : List Pos}, p ∉ l → rankOf l p = 0
  | [], _ => rfl
  | q :: l, away => by
    have other : q ≠ p := fun same => away (by rw [same]; exact List.mem_cons_self)
    have later : rankOf l p = 0 := rankOf_eq_zero fun mem => away (List.mem_cons_of_mem q mem)
    simp [rankOf, other, later]

theorem Gtu.entry_settle_primary {p : Pos} (role : (g.entry p).role = .primary) :
    g.settle.entry p = { g.entry p with waitRank := rankOf g.waitList p } := by
  simp [Gtu.settle, role]

end

/-- Settles O26: the narrator's cells by their fields, the slice by its bits, the checks by `sliceOk_iff`, the place on the list by the count of the entries
below its class, and the repair by its three steps. -/
theorem narrationReadsBack : Obligations.NarrationReadsBack := by
  refine ⟨?_, Entry.ofSlice_slice, fun _ => rfl, ?_, ?_, ?_, ?_⟩
  · intro o n c cells wrote f d own written clean
    exact recordOf_of_narrator written wrote clean d .none own
  · intro blk np g k w at'
    refine ⟨rfl, ?_, ?_⟩
    · intro same
      by_cases index : k = g.sliceIndex
      · have unmoved : at' = g := by rw [show at' = { g with sliceIndex := k } from rfl, index]
        simp [Gtu.compareStage, Gtu.compare, same, index, unmoved]
      · simp [Gtu.compareStage, Gtu.compare, same, index, at']
    · intro differs
      have compared : g.compare k w = .differs := if_neg differs
      refine ⟨fun d decoded ok => ?_, fun refused => ?_⟩
      · simp only [Gtu.compareStage, compared]
        split
        · next none_decoded => cases none_decoded.symm.trans decoded
        · next d' decoded' =>
          obtain rfl : d' = d := Option.some.inj (decoded'.symm.trans decoded)
          rw [if_pos ok]
          rfl
      · simp only [Gtu.compareStage, compared]
        split
        · rfl
        · next d' decoded' =>
          rw [if_neg (Bool.eq_false_iff.mp (refused d' decoded'))]
  · intro blk np k d paired
    exact sliceOk_iff blk np k d
  · intro g k r rest class'
    refine ⟨g.entries_placeAtRank k r, ?_, fun ranked ascending => g.placeAtRank_splits k ranked ascending⟩
    rintro rfl
    rfl
  · intro g k p role e rival stale e'
    obtain ⟨cleared, kept⟩ := g.repair_steps k p
    set h := ((g.repairRivals k).repairHolders fun e => e.locked).repairHolders fun e => decide (e.presence ≠ .present) || e.faulted
    have settled : g.repair k = h.settle := rfl
    refine ⟨fun picked => ?_, fun unrivalled sound => ?_⟩
    · obtain ⟨entry, away⟩ := cleared picked
      have primary : (h.entry p).role = .primary := by rw [entry]; exact role
      have entry' : e' = { e with assignment := .none, partner := none, cls := .none, waitRank := 0 } := by
        simp only [e', settled]
        rw [Gtu.entry_settle_primary primary, entry, rankOf_eq_zero away]
      rw [settled, Gtu.waitList_settle]
      exact ⟨entry', away⟩
    · obtain ⟨entry, list⟩ := kept unrivalled sound
      have primary : (h.entry p).role = .primary := by rw [entry]; exact role
      have entry' : e' = { e with waitRank := e'.waitRank } := by
        simp only [e', settled]
        rw [Gtu.entry_settle_primary primary, entry]
      rw [settled, Gtu.waitList_settle]
      exact ⟨entry', list⟩

end Sys2Proof.Machine
end

section
/-! SUPPORT. The actuation engine (R138 to R147): a record entered by its kind, the completion of a sequence, and the events of its timers and of its
feedback inputs. -/

namespace Sys2Proof.Machine

open Sys2Proof.Safety

/-! ## A record entered (R139 to R144) -/

section
variable {steps : List StepRecord} {i : Nat} {r : StepRecord}

/-- A record whose action is done goes on to the next record, or completes the chain. -/
theorem Ae.enterUpTo_done (record : steps[i]? = some r) (fb : BitVec 8) (now : Ticks) (n : Nat) (a b : Ae)
    (acts : ({ a with stepCount := a.stepCount + 1, stepIndex := some i } : Ae).act fb now i r = (b, true)) :
    a.enterUpTo steps fb now (n + 1) i = if r.last then (b, .completes) else b.enterUpTo steps fb now n r.nextIndex.toNat := by
  simp only [Ae.enterUpTo, record, acts]

theorem Ae.enterUpTo_waits (record : steps[i]? = some r) (fb : BitVec 8) (now : Ticks) (n : Nat) (a b : Ae)
    (acts : ({ a with stepCount := a.stepCount + 1, stepIndex := some i } : Ae).act fb now i r = (b, false)) :
    a.enterUpTo steps fb now (n + 1) i = (b, .waits) := by
  simp only [Ae.enterUpTo, record, acts]

theorem Ae.act_await (kind : r.kind = some .await) (fb : BitVec 8) (now : Ticks) (a : Ae) :
    a.act fb now i r = if r.satisfied fb then ({ a.loadRetry i r with retryOwner := none }, true)
      else ({ a.loadRetry i r with waiting := .await (now + stepUnit * r.timeout) }, false) := by
  simp only [Ae.act, kind]

end

/-- Every masked input stands at its level exactly when no masked bit differs (R141). -/
theorem StepRecord.satisfied_iff (r : StepRecord) (fb : BitVec 8) :
    r.satisfied fb = true ↔ ∀ k < 8, r.op0.getLsbD k = true → fb.getLsbD k = r.op1.getLsbD k := by
  rw [StepRecord.satisfied, decide_eq_true_eq, BitVec.zero_iff_eq_false]
  refine forall_congr' fun k => ?_
  rw [BitVec.getLsbD_and, BitVec.getLsbD_xor]
  constructor
  · intro clear _ masked
    simpa [masked] using clear
  · intro level
    by_cases inRange : k < 8
    · cases masked : r.op0.getLsbD k with
      | false => simp
      | true => simp [level inRange masked]
    · simp [BitVec.getLsbD_of_ge r.op0 k (by omega)]

/-- Settles O38, a record's action by its kind. -/
theorem enteringARecordActsByKind : Obligations.EnteringARecordActsByKind := by
  refine ⟨fun steps fb now i a => ⟨rfl, rfl⟩, ?_, StepRecord.satisfied_iff⟩
  intro steps fb now n i r a record e done drives
  refine ⟨fun kind => ?_, fun kind => ?_, fun kind => ?_, ?_⟩
  · exact Ae.enterUpTo_done record fb now n a _ (by simp only [Ae.act, kind]; rfl)
  · exact Ae.enterUpTo_done record fb now n a _ (by simp only [Ae.act, kind]; rfl)
  · exact Ae.enterUpTo_waits record fb now n a _ (by simp only [Ae.act, kind]; rfl)
  · intro kind w
    refine ⟨fun satisfied => ?_, fun unsatisfied => ?_⟩
    · exact Ae.enterUpTo_done record fb now n a _ (by rw [Ae.act_await kind, if_pos satisfied]; rfl)
    · exact Ae.enterUpTo_waits record fb now n a _ (by rw [Ae.act_await kind, if_neg (by simp [unsatisfied])]; rfl)

/-! ## Completion (R145) -/

section
variable {s : State}

theorem State.completed_eq (d : Directive) : s.completed d = { s with
    ae := { s.ae with running := none, waiting := .none, actuated := d.target, debt := s.ae.debt - 1 }
    mp := { s.mp with istat := if s.ae.fallbackTaken = true then s.mp.istat ||| 0b001000#6 else s.mp.istat } } := by
  unfold State.completed State.raiseIf
  cases s.ae.fallbackTaken <;> rfl

theorem State.sequenceEnters_of_enter {d : Directive} {i : Nat} {a : Ae} :
    (s.ae.enter s.steps s.pins.fb s.now i = (a, .waits) → s.sequenceEnters d i = { s with ae := a }) ∧
    (∀ j : Nat, s.ae.enter s.steps s.pins.fb s.now i = (a, .loops j) →
      s.sequenceEnters d i = ({ s with ae := a }).engineFault ⟨.loop, some d, some j⟩) ∧
    (s.ae.enter s.steps s.pins.fb s.now i = (a, .completes) → s.sequenceEnters d i = ({ s with ae := a }).sequenceCompletes d) := by
  refine ⟨fun enters => ?_, fun j enters => ?_, fun enters => ?_⟩ <;> rw [State.sequenceEnters, enters]

theorem State.runQueue_of_enter {d : Directive} {rest : List Directive} {i : Nat} {a : Ae} (entry : s.dirEntry d = some i) :
    ((s.sequenceBegins d rest).ae.enter s.steps s.pins.fb s.now i = (a, .waits) → s.runQueue (d :: rest) = { s.sequenceBegins d rest with ae := a }) ∧
    (∀ j : Nat, (s.sequenceBegins d rest).ae.enter s.steps s.pins.fb s.now i = (a, .loops j) →
      s.runQueue (d :: rest) = ({ s.sequenceBegins d rest with ae := a }).engineFault ⟨.loop, some d, some j⟩) ∧
    ((s.sequenceBegins d rest).ae.enter s.steps s.pins.fb s.now i = (a, .completes) →
      s.runQueue (d :: rest) = (({ s.sequenceBegins d rest with ae := a }).completed d).runQueue rest) := by
  have same : (s.sequenceBegins d rest).ae.enter (s.sequenceBegins d rest).steps (s.sequenceBegins d rest).pins.fb (s.sequenceBegins d rest).now i =
      (s.sequenceBegins d rest).ae.enter s.steps s.pins.fb s.now i := by
    rw [State.steps_sequenceBegins, State.sequenceBegins_pins, State.sequenceBegins_now]
  refine ⟨fun enters => ?_, fun j enters => ?_, fun enters => ?_⟩ <;> rw [State.runQueue_some entry, same, enters]

end

/-- Settles O39, by the equations of the completion and of the queue. -/
theorem completionOfASequence : Obligations.CompletionOfASequence := by
  refine ⟨fun p => ⟨rfl, rfl⟩, ⟨rfl, rfl, rfl, rfl⟩, ?_, ?_, ?_, fun d s i a => State.sequenceEnters_of_enter, ?_, fun d rest s entry => s.runQueue_none d rest entry⟩
  · intro d s holding
    refine ⟨?_, ?_⟩
    · rw [State.sequenceCompletes_holding holding, State.judgeMonitor_ae, State.raise_ae]
      show { (s.completed d).ae with engine := .held } = _
      rw [State.completed_ae]
    · rw [State.sequenceCompletes_holding holding]
      exact State.judgeMonitor_raised (i := .engine) _ (Mp.raised_raise_self (s.completed d).mp .engine)
  · intro d s running empty
    have rests : s.sequenceCompletes d = (s.completed d).engineRests := by
      rw [State.sequenceCompletes_not_holding (by rw [running]; decide), empty, State.runQueue_nil]
    rw [rests]
    refine ⟨?_, fun fallback => ?_⟩
    · rw [State.engineRests_ae, State.completed_ae, ← empty]
    · refine State.judgeMonitor_raised (i := .engine) _ ?_
      show (s.completed d).mp.raised .engine = true
      rw [State.completed, fallback]
      exact Mp.raised_raise_self _ .engine
  · intro d s done
    have doneIs : done = s.completed d := rfl
    refine ⟨s.completed_eq d, fun other => State.sequenceCompletes_not_holding other d, fun holding => ?_, rfl⟩
    have status : (s.completed d).mp.raise .engine = { (s.completed d).mp with istat := s.mp.istat ||| 0b001000#6 } := by
      rw [State.completed_eq, Mp.raise]
      cases s.ae.fallbackTaken
      · rfl
      · simp only [if_true, BitVec.or_assoc]
        rfl
    rw [State.sequenceCompletes_holding holding, doneIs, ← status]
    rfl
  · intro d rest s i a entry t
    exact ⟨rfl, State.runQueue_of_enter entry⟩

/-! ## The events (R140 to R147) -/

section
variable {s : State}

/-- The record a sequence in progress stands at. -/
theorem State.atRecord_eq {d : Directive} {i : Nat} {r : StepRecord} (running : s.ae.running = some d) (index : s.ae.stepIndex = some i)
    (record : s.steps[i]? = some r) : s.atRecord = some (d, i, r) := by
  simp [State.atRecord, running, index, record]

theorem execDwellExpiry_not_waiting (idle : ∀ due, s.ae.waiting ≠ .dwell due) : exec .dwellExpiry s = .next s := by
  cases waiting : s.ae.waiting with
  | none => simp [exec, execDwellExpiry, waiting]
  | dwell due => exact absurd waiting (idle due)
  | await due => simp [exec, execDwellExpiry, waiting]

theorem execFeedbackChange_not_waiting (levels : BitVec 8) (idle : ∀ due, s.ae.waiting ≠ .await due) :
    exec (.feedbackChange levels) s = .next { s with pins := { s.pins with fb := levels } } := by
  cases waiting : s.ae.waiting with
  | none => simp [exec, execFeedbackChange, waiting]
  | dwell due => simp [exec, execFeedbackChange, waiting]
  | await due => exact absurd waiting (idle due)

theorem execAwaitTimeout_not_waiting (idle : ∀ due, s.ae.waiting ≠ .await due) : exec .awaitTimeout s = .next s := by
  cases waiting : s.ae.waiting with
  | none => simp [exec, execAwaitTimeout, waiting]
  | dwell due => simp [exec, execAwaitTimeout, waiting]
  | await due => exact absurd waiting (idle due)

/-- A state that differs from `s` in the engine, the monitor, the own condition and the interrupt status alone. -/
structure State.EngineOnly (t s : State) : Prop where
  vbi : t.vbi = s.vbi
  pc : t.pc = s.pc
  gtu : t.gtu = s.gtu
  cu : t.cu = s.cu
  sl : t.sl = s.sl
  filters : t.cm.filters = s.cm.filters
  mp : t.mp.SameButStatus s.mp
  pins : t.pins = s.pins
  choices : t.choices = s.choices
  pending : t.pending = s.pending

theorem State.EngineOnly.trans {t u : State} (second : u.EngineOnly t) (first : t.EngineOnly s) : u.EngineOnly s :=
  ⟨second.vbi.trans first.vbi, second.pc.trans first.pc, second.gtu.trans first.gtu, second.cu.trans first.cu, second.sl.trans first.sl,
    second.filters.trans first.filters, second.mp.trans first.mp, second.pins.trans first.pins, second.choices.trans first.choices,
    second.pending.trans first.pending⟩

theorem State.engineOnly_ae (s : State) (a : Ae) : ({ s with ae := a } : State).EngineOnly s :=
  ⟨rfl, rfl, rfl, rfl, rfl, rfl, rfl, rfl, rfl, rfl⟩

theorem State.engineOnly_advanceTo (s : State) (due : Ticks) : (s.advanceTo due).EngineOnly s :=
  ⟨rfl, rfl, rfl, rfl, rfl, rfl, rfl, rfl, rfl, rfl⟩

theorem State.engineOnly_engineFault (s : State) (f : FaultRecord) : (s.engineFault f).EngineOnly s :=
  ⟨s.engineFault_vbi f, s.engineFault_pc f, s.engineFault_gtu f, s.engineFault_cu f, s.engineFault_sl f, s.filters_engineFault f,
    s.engineFault_mp f, s.engineFault_pins f, s.engineFault_choices f, s.engineFault_pending f⟩

theorem State.engineOnly_runQueue (s : State) (l : List Directive) : (s.runQueue l).EngineOnly s :=
  ⟨s.runQueue_vbi l, s.runQueue_pc l, s.runQueue_gtu l, s.runQueue_cu l, s.runQueue_sl l, s.filters_runQueue l, s.runQueue_mp l,
    s.runQueue_pins l, s.runQueue_choices l, s.runQueue_pending l⟩

theorem State.engineOnly_completed (s : State) (d : Directive) : (s.completed d).EngineOnly s :=
  ⟨s.completed_vbi d, s.completed_pc d, s.completed_gtu d, s.completed_cu d, s.completed_sl d, by rw [State.completed_cm],
    s.completed_mp d, s.completed_pins d, s.completed_choices d, s.completed_pending d⟩

theorem State.engineOnly_raise (s : State) (i : Irq) : (s.raise i).EngineOnly s :=
  ⟨rfl, rfl, rfl, rfl, rfl, rfl, rfl, rfl, rfl, rfl⟩

theorem State.engineOnly_judgeMonitor (s : State) : s.judgeMonitor.EngineOnly s :=
  ⟨s.judgeMonitor_vbi, s.judgeMonitor_pc, s.judgeMonitor_gtu, s.judgeMonitor_cu, s.judgeMonitor_sl, s.filters_judgeMonitor,
    s.judgeMonitor_mp, s.judgeMonitor_pins, s.judgeMonitor_choices, s.judgeMonitor_pending⟩

theorem State.engineOnly_sequenceCompletes (s : State) (d : Directive) : (s.sequenceCompletes d).EngineOnly s := by
  by_cases holding : s.ae.engine = .holding
  · rw [State.sequenceCompletes_holding holding]
    exact (State.engineOnly_judgeMonitor _).trans
      ((State.engineOnly_raise _ _).trans ((State.engineOnly_ae _ _).trans (s.engineOnly_completed d)))
  · rw [State.sequenceCompletes_not_holding holding]
    exact (State.engineOnly_runQueue _ _).trans (s.engineOnly_completed d)

theorem State.engineOnly_sequenceEnters (s : State) (d : Directive) (i : Nat) : (s.sequenceEnters d i).EngineOnly s := by
  unfold State.sequenceEnters
  split
  · exact s.engineOnly_ae _
  · exact (State.engineOnly_engineFault _ _).trans (s.engineOnly_ae _)
  · exact (State.engineOnly_sequenceCompletes _ d).trans (s.engineOnly_ae _)

theorem State.engineOnly_recordDone (s : State) (d : Directive) (r : StepRecord) : (s.recordDone d r).EngineOnly s := by
  unfold State.recordDone
  split
  · exact (State.engineOnly_sequenceCompletes _ d).trans (s.engineOnly_ae _)
  · exact (State.engineOnly_sequenceEnters _ d _).trans (s.engineOnly_ae _)

theorem execDwellExpiry_engineOnly {t : State} (answers : exec .dwellExpiry s = .next t) : t.EngineOnly s := by
  simp only [exec, execDwellExpiry] at answers
  split at answers <;> cases answers
  · exact (State.engineOnly_recordDone _ _ _).trans (s.engineOnly_advanceTo _)
  · exact s.engineOnly_ae s.ae

theorem execAwaitTimeout_engineOnly {t : State} (answers : exec .awaitTimeout s = .next t) : t.EngineOnly s := by
  simp only [exec, execAwaitTimeout] at answers
  split at answers
  · split_ifs at answers <;> cases answers
    · exact (State.engineOnly_sequenceEnters _ _ _).trans ⟨rfl, rfl, rfl, rfl, rfl, rfl, rfl, rfl, rfl, rfl⟩
    · exact (State.engineOnly_sequenceEnters _ _ _).trans ⟨rfl, rfl, rfl, rfl, rfl, rfl, rfl, rfl, rfl, rfl⟩
    · exact (State.engineOnly_engineFault _ _).trans ⟨rfl, rfl, rfl, rfl, rfl, rfl, rfl, rfl, rfl, rfl⟩
  · cases answers
    exact s.engineOnly_ae s.ae

theorem execFeedbackChange_engineOnly {t : State} {levels : BitVec 8} (answers : exec (.feedbackChange levels) s = .next t) :
    t.EngineOnly { s with pins := { s.pins with fb := levels } } := by
  simp only [exec, execFeedbackChange] at answers
  split at answers
  · split_ifs at answers <;> cases answers
    · exact (State.engineOnly_recordDone _ _ _).trans ⟨rfl, rfl, rfl, rfl, rfl, rfl, rfl, rfl, rfl, rfl⟩
    · exact ⟨rfl, rfl, rfl, rfl, rfl, rfl, rfl, rfl, rfl, rfl⟩
  · cases answers
    exact ⟨rfl, rfl, rfl, rfl, rfl, rfl, rfl, rfl, rfl, rfl⟩

theorem State.monitorCalled_engineFault (f : FaultRecord) : (s.engineFault f).cm.monitorActive = false := by
  rw [State.engineFault, State.judgeMonitor_active]
  exact State.monitorCalled_unknown rfl

end

/-- Settles O40. -/
theorem waitingRecordEvents : Obligations.WaitingRecordEvents := by
  refine ⟨⟨?_, fun s => execDwellExpiry_not_waiting, ?_, fun s levels => execFeedbackChange_not_waiting levels⟩,
    ⟨?_, fun s => execAwaitTimeout_not_waiting⟩, ?_, ?_⟩
  · intro s due d i r waiting running index record t
    have stands := State.atRecord_eq running index record
    simp only [exec, execDwellExpiry, waiting, stands]
    rfl
  · intro s levels due d i r waiting running index record
    have stands : ({ s with pins := { s.pins with fb := levels } } : State).atRecord = some (d, i, r) := State.atRecord_eq running index record
    refine ⟨?_, fun unsatisfied => ?_⟩
    · intro satisfied t
      simp only [exec, execFeedbackChange, waiting, stands, satisfied, if_true]
      rfl
    · simp only [exec, execFeedbackChange, waiting, stands, unsatisfied, Bool.false_eq_true, if_false]
  · intro s due d i r waiting running index record t
    have stands := State.atRecord_eq running index record
    refine ⟨fun retries => ?_, fun exhausted fallback => ?_, fun exhausted none_left => ?_⟩
    · simp only [exec, execAwaitTimeout, waiting, stands, State.advanceTo_ae, retries, if_true]
      rfl
    · simp only [exec, execAwaitTimeout, waiting, stands, State.advanceTo_ae, exhausted, fallback, Nat.lt_irrefl, if_false, if_true]
      rfl
    · simp only [exec, execAwaitTimeout, waiting, stands, State.advanceTo_ae, exhausted, none_left, Nat.lt_irrefl, Bool.false_eq_true, if_false]
      rfl
  · intro f s
    have faulted : (s.engineFault f).ae.engine = .faulted := by rw [State.engineFault_ae]
    refine ⟨s.engineFault_ae f, ?_, State.monitorCalled_engineFault f, ?_, ?_, fun d => ?_⟩
    · exact State.judgeMonitor_raised (i := .engine) _ (Mp.raised_raise_self s.mp .engine)
    · simp only [State.outgoingNow, faulted]
      rfl
    · simp [State.outgoingNow]
    · exact State.offer_out _ d (by rw [faulted]; rfl)
  · intro c s t event answers
    rcases event with rfl | rfl | ⟨levels, rfl⟩
    · have only := execDwellExpiry_engineOnly answers
      exact ⟨only.vbi, only.pc, only.gtu, only.cu, only.sl, only.filters, only.mp, only.choices, only.pending, by rw [only.pins], fun _ => only.pins⟩
    · have only := execAwaitTimeout_engineOnly answers
      exact ⟨only.vbi, only.pc, only.gtu, only.cu, only.sl, only.filters, only.mp, only.choices, only.pending, by rw [only.pins], fun _ => only.pins⟩
    · have only := execFeedbackChange_engineOnly answers
      exact ⟨only.vbi, only.pc, only.gtu, only.cu, only.sl, only.filters, only.mp, only.choices, only.pending, by rw [only.pins],
        fun other => absurd rfl (other levels)⟩

end Sys2Proof.Machine
end

section
/-! SUPPORT. The command unit (R119 to R131): the table's shape under its operations, the tag a submission takes, acknowledgement, the word offered and the
reports of wins, and the restore slot. -/

namespace Sys2Proof.Machine

open Sys2Proof.Safety

/-! ## The head of the table (R119) -/

/-- The state of the head: CONTENDING while IN_STEP, QUEUED otherwise. -/
def headState (inStep : Bool) : CmdState := if inStep then .contending else .queued

/-- A record behind the head: QUEUED unless it is DONE. -/
def CmdRecord.behind (c : CmdRecord) : CmdRecord := if c.state = .done then c else { c with state := .queued }

section
variable {b : Bool} {c : CmdRecord} {l : List CmdRecord}

theorem settleHead_cons_done (done : c.state = .done) : settleHead b (c :: l) = c :: settleHead b l := by
  rw [settleHead, if_pos done]

theorem settleHead_cons_open (open' : c.state ≠ .done) :
    settleHead b (c :: l) = { c with state := headState b } :: l.map CmdRecord.behind := by
  rw [settleHead, if_neg open']
  rfl

theorem CmdRecord.behind_eq_self_iff : c.behind = c ↔ c.state = .done ∨ c.state = .queued := by
  unfold CmdRecord.behind
  split
  · simp [*]
  · next open' =>
    simp only [open', false_or]
    refine ⟨fun same => (congrArg CmdRecord.state same).symm, fun queued => ?_⟩
    rw [← queued]

theorem map_behind_eq_self_iff : l.map CmdRecord.behind = l ↔ ∀ d ∈ l, d.state = .done ∨ d.state = .queued := by
  have self := List.map_eq_map_iff (l := l) (f := CmdRecord.behind) (g := id)
  rw [List.map_id] at self
  simpa only [id, CmdRecord.behind_eq_self_iff] using self

/-- What it is for the head of a table to be made: a DONE record is passed over, and behind the head every record is DONE or QUEUED. -/
theorem settleHead_cons_eq_self_iff : settleHead b (c :: l) = c :: l ↔
    (c.state = .done ∧ settleHead b l = l) ∨ (c.state = headState b ∧ ∀ d ∈ l, d.state = .done ∨ d.state = .queued) := by
  have notDone : headState b ≠ .done := by cases b <;> decide
  by_cases done : c.state = .done
  · have other : c.state ≠ headState b := by rw [done]; exact notDone.symm
    simp [settleHead_cons_done done, done, notDone.symm]
  · rw [settleHead_cons_open done, List.cons.injEq, map_behind_eq_self_iff]
    simp only [done, false_and, false_or]
    refine and_congr_left fun _ => ⟨fun same => (congrArg CmdRecord.state same).symm, fun state => ?_⟩
    rw [← state]

theorem CmdRecord.behind_behind : c.behind.behind = c.behind := by
  unfold CmdRecord.behind
  split
  · rfl
  · simp

/-- Making the head again gives the head of the later call. -/
theorem settleHead_settleHead {b' : Bool} : ∀ l : List CmdRecord, settleHead b (settleHead b' l) = settleHead b l
  | [] => rfl
  | c :: l => by
    have notDone : headState b' ≠ .done := by cases b' <;> decide
    by_cases done : c.state = .done
    · rw [settleHead_cons_done done, settleHead_cons_done done, settleHead_cons_done done, settleHead_settleHead l]
    · rw [settleHead_cons_open done, settleHead_cons_open (c := { c with state := headState b' }) notDone, settleHead_cons_open done,
        List.map_map, show CmdRecord.behind ∘ CmdRecord.behind = CmdRecord.behind from funext fun _ => CmdRecord.behind_behind]

/-- A map that keeps DONE records DONE and looks past the states of the others keeps what making the head gives. -/
theorem map_settleHead {α : Type} {f : CmdRecord → α} (blind : ∀ (c : CmdRecord) (x : CmdState), f { c with state := x } = f c) :
    ∀ l : List CmdRecord, (settleHead b l).map f = l.map f
  | [] => rfl
  | c :: l => by
    by_cases done : c.state = .done
    · rw [settleHead_cons_done done, List.map_cons, List.map_cons, map_settleHead blind l]
    · have behind : ∀ d : CmdRecord, f d.behind = f d := fun d => by
        unfold CmdRecord.behind
        split
        · rfl
        · exact blind d _
      rw [settleHead_cons_open done, List.map_cons, List.map_cons, blind, List.map_map]
      simp only [Function.comp_def, behind]

theorem settleHead_of_done : ∀ {l : List CmdRecord}, (∀ d ∈ l, d.state = .done) → settleHead b l = l
  | [], _ => rfl
  | c :: l, done => by
    rw [settleHead_cons_done (done c List.mem_cons_self), settleHead_of_done fun d mem => done d (List.mem_cons_of_mem c mem)]

/-- A new record at the back of a made table is its head when no other is open, and is QUEUED behind it otherwise. -/
theorem settleHead_append_queued (queued : c.state = .queued) : ∀ {l : List CmdRecord}, settleHead b l = l →
    settleHead b (l ++ [c]) = l ++ [{ c with state := if ∀ d ∈ l, d.state = .done then headState b else .queued }]
  | [], _ => by
    rw [List.nil_append, settleHead_cons_open (by rw [queued]; decide)]
    simp
  | d :: l, made => by
    rw [List.cons_append, List.cons_append]
    rcases settleHead_cons_eq_self_iff.mp made with ⟨done, rest⟩ | ⟨state, behind⟩
    · rw [settleHead_cons_done done, settleHead_append_queued queued rest]
      simp [done]
    · have notDone : d.state ≠ .done := by
        rw [state]
        cases b <;> decide
      have last : c.behind = c := CmdRecord.behind_eq_self_iff.mpr (.inr queued)
      rw [settleHead_cons_open notDone, List.map_append, map_behind_eq_self_iff.mpr behind, List.map_singleton, last, ← state]
      simp [notDone, ← queued]

/-- A made table without some of its DONE records is made. -/
theorem settleHead_filter {f : CmdRecord → Bool} : ∀ {l : List CmdRecord}, settleHead b l = l → (∀ d ∈ l, f d = false → d.state = .done) →
    settleHead b (l.filter f) = l.filter f
  | [], _, _ => rfl
  | d :: l, made, removed => by
    have later : ∀ x ∈ l, f x = false → x.state = .done := fun x mem => removed x (List.mem_cons_of_mem d mem)
    rcases settleHead_cons_eq_self_iff.mp made with ⟨done, rest⟩ | ⟨state, behind⟩
    · have ih := settleHead_filter rest later
      cases kept : f d with
      | false => rwa [List.filter_cons_of_neg (by simp [kept])]
      | true => rw [List.filter_cons_of_pos kept, settleHead_cons_done done, ih]
    · have notDone : d.state ≠ .done := by
        rw [state]
        cases b <;> decide
      have kept : f d = true := by
        by_contra gone
        exact notDone (removed d List.mem_cons_self (Bool.eq_false_iff.mpr gone))
      rw [List.filter_cons_of_pos kept, settleHead_cons_eq_self_iff]
      exact .inr ⟨state, fun x mem => behind x (List.mem_of_mem_filter mem)⟩

end

/-! ## Tags (R120) -/

/-- A search for a tag passes tags that records hold, and ends at one that none holds unless it has looked at all it may. -/
theorem freeTag_spec (l : List CmdRecord) : ∀ (n : Nat) (t : Fin 16), ∃ passed ≤ n, freeTag l n t = t + Fin.ofNat 16 passed ∧
    (∀ j < passed, ∃ c ∈ l, c.tag = t + Fin.ofNat 16 j) ∧ (passed < n → ∀ c ∈ l, c.tag ≠ t + Fin.ofNat 16 passed)
  | 0, t => ⟨0, Nat.le_refl 0, by simp [freeTag], fun j below => absurd below (Nat.not_lt_zero j), fun below => absurd below (Nat.lt_irrefl 0)⟩
  | n + 1, t => by
    by_cases held : ∃ c ∈ l, c.tag = t
    · obtain ⟨passed, inRange, found, before, free⟩ := freeTag_spec l n (t + 1)
      have next : ∀ j, t + 1 + Fin.ofNat 16 j = t + Fin.ofNat 16 (j + 1) := fun j => by
        ext
        simp [Fin.val_add]
        omega
      refine ⟨passed + 1, by omega, ?_, ?_, ?_⟩
      · rw [freeTag, if_pos (by simpa using held), found, next]
      · intro j below
        cases j with
        | zero => simpa using held
        | succ j => exact next j ▸ before j (by omega)
      · intro below
        exact next passed ▸ free (by omega)
    · refine ⟨0, Nat.zero_le _, ?_, fun j below => absurd below (Nat.not_lt_zero j), ?_⟩
      · rw [freeTag, if_neg (by simpa using held)]
        simp
      · intro _ c mem same
        exact held ⟨c, mem, by simpa using same⟩

theorem fourTags_nodup : ∀ t : Fin 16, ((List.range 4).map fun j => t + Fin.ofNat 16 j).Nodup := by decide

/-- With fewer than 4 records the search ends at a free tag (R120). -/
theorem freeTag_free {l : List CmdRecord} (room : l.length < 4) (t : Fin 16) : ∃ passed ≤ 3, freeTag l 4 t = t + Fin.ofNat 16 passed ∧
    (∀ j < passed, ∃ c ∈ l, c.tag = t + Fin.ofNat 16 j) ∧ ∀ c ∈ l, c.tag ≠ t + Fin.ofNat 16 passed := by
  obtain ⟨passed, inRange, found, before, free⟩ := freeTag_spec l 4 t
  have few : passed ≠ 4 := by
    rintro rfl
    have held : ((List.range 4).map fun j => t + Fin.ofNat 16 j) ⊆ l.map CmdRecord.tag := by
      intro x mem
      obtain ⟨j, below, rfl⟩ := List.mem_map.mp mem
      obtain ⟨c, inTable, same⟩ := before j (List.mem_range.mp below)
      exact List.mem_map.mpr ⟨c, inTable, same⟩
    have := (List.subperm_of_subset (fourTags_nodup t) held).length_le
    simp at this
    omega
  exact ⟨passed, by omega, found, before, free (by omega)⟩

/-! ## Submission and acknowledgement (R121, R128) -/

theorem Kind.ofCode_eq_some_iff (n : Nat) (k : Kind) : Kind.ofCode n = some k ↔ k.request.code = n := by
  constructor
  · intro decoded
    unfold Kind.ofCode at decoded
    split at decoded <;> cases decoded <;> rfl
  · rintro rfl
    cases k <;> rfl

theorem Kind.ofCode_eq_none {n : Nat} (beyond : 5 ≤ n) : Kind.ofCode n = none := by
  unfold Kind.ofCode
  split
  case h_6 => rfl
  all_goals omega

theorem kindCode_eq (value : Byte) : kindCode value = value.toNat % 8 := by
  simp [kindCode, BitVec.extractLsb'_toNat]

section
variable {s : State}

theorem exec_commandSubmission_taken {value : Byte} {r : SubResult} {cu : Cu} (takes : s.takesWrite 0x02#7 = true)
    (result : s.submit (kindCode value) = (r, { s with cu := cu })) :
    exec (.commandSubmission value) s = .next { s with cu := cu, mp := { s.mp with cmdsub := r, frame := s.mp.frame.map (Frame.wrote 0x02#7) } } := by
  rw [exec, execCommandSubmission, s.portWrite_taken cmdsubAddress takes]
  simp only [State.submitted, result]
  rfl

/-- Settles O44: the result by the row of the table of R121 that applies, and the record's place and state by `settleHead_append_queued`. -/
theorem commandSubmissionByTheTable : Obligations.CommandSubmissionByTheTable := by
  intro value s takes shaped code answers
  obtain ⟨-, -, made⟩ := shaped
  have codeIs : kindCode value = code := kindCode_eq value
  refine ⟨fun unnamed => ?_, fun k named => ?_⟩
  · refine exec_commandSubmission_taken takes ?_
    rw [State.submit, codeIs, Kind.ofCode_eq_none unnamed]
  · have kind : Kind.ofCode code = some k := (Kind.ofCode_eq_some_iff code k).mpr named
    refine ⟨fun full => ?_, fun room duplicate => ?_, fun room fresh => ?_⟩
    · refine exec_commandSubmission_taken takes ?_
      rw [State.submit, codeIs, kind]
      exact if_pos (Nat.le_of_eq full.symm)
    · refine exec_commandSubmission_taken takes ?_
      rw [State.submit, codeIs, kind]
      exact (if_neg (Nat.not_le.mpr room)).trans (if_pos (by simpa using duplicate))
    · obtain ⟨passed, inRange, found, before, free⟩ := freeTag_free room s.cu.nextTag
      refine ⟨passed, _, inRange, rfl, before, free, ?_⟩
      have single : ¬(s.cu.table.any fun c => c.kind = k && c.state ≠ .done) = true := by
        simpa using fresh
      have placed := settleHead_append_queued (b := s.participation = .inStep)
        (c := { tag := s.cu.nextTag + Fin.ofNat 16 passed, kind := k, state := .queued, outcome := none, headCount := 0 }) rfl made
      refine exec_commandSubmission_taken takes ?_
      rw [State.submit, codeIs, kind]
      refine (if_neg (Nat.not_le.mpr room)).trans ((if_neg single).trans ?_)
      simp only [tableDepth, found]
      refine Prod.ext rfl ?_
      show ({ s with cu := { s.cu with nextTag := _, table := settleHead (s.participation = .inStep) _ } } : State) = _
      rw [placed]
      have state : (if ∀ d ∈ s.cu.table, d.state = .done then headState (s.participation = .inStep) else .queued) =
          if s.participation = .inStep ∧ (∀ c ∈ s.cu.table, c.state = .done) then CmdState.contending else .queued := by
        by_cases inStep : s.participation = .inStep <;> by_cases allDone : ∀ d ∈ s.cu.table, d.state = .done <;>
          simp [inStep, allDone, headState]
      rw [state]

theorem exec_commandAcknowledge_taken {value : Byte} {r : AckResult} {cu : Cu} (takes : s.takesWrite 0x03#7 = true)
    (result : s.acknowledge (tagCode value) = (r, { s with cu := cu })) :
    exec (.commandAcknowledge value) s = .next { s with cu := cu, mp := { s.mp with cmdack := r, frame := s.mp.frame.map (Frame.wrote 0x03#7) } } := by
  rw [exec, execCommandAcknowledge, s.portWrite_taken cmdackAddress takes]
  simp only [State.acknowledged, result]
  rfl

/-- Two records of a table with distinct tags that hold one tag are one. -/
theorem eq_of_tag_eq {l : List CmdRecord} (distinct : (l.map CmdRecord.tag).Nodup) {c d : CmdRecord} (memC : c ∈ l) (memD : d ∈ l)
    (same : c.tag = d.tag) : c = d :=
  List.inj_on_of_nodup_map distinct memC memD same

theorem find?_tag {l : List CmdRecord} (distinct : (l.map CmdRecord.tag).Nodup) {c : CmdRecord} (mem : c ∈ l) :
    (l.find? fun d => d.tag = c.tag) = some c := by
  cases found : l.find? fun d => d.tag = c.tag with
  | none => exact absurd (List.find?_eq_none.mp found c mem) (by simp)
  | some d =>
    have tag : d.tag = c.tag := by simpa using List.find?_some found
    rw [eq_of_tag_eq distinct (List.mem_of_find?_eq_some found) mem tag]

/-- Settles O45. -/
theorem commandAcknowledgeByTheRecord : Obligations.CommandAcknowledgeByTheRecord := by
  intro value s takes shaped tag answers
  obtain ⟨-, distinct, made⟩ := shaped
  have tagIs : tagCode value = tag := rfl
  refine ⟨fun c mem holds done => ?_, fun c mem holds waiting => ?_, fun unknown => ?_⟩
  · have found : (s.cu.table.find? fun d => d.tag = tagCode value) = some c := by
      rw [tagIs, ← holds]
      exact find?_tag distinct mem
    have kept : settleHead (s.participation = .inStep) (s.cu.table.filter fun d => d.tag ≠ tag) = s.cu.table.filter fun d => d.tag ≠ tag := by
      refine settleHead_filter made fun d inTable gone => ?_
      have same : d.tag = c.tag := by simpa [holds] using gone
      rw [eq_of_tag_eq distinct inTable mem same]
      exact done
    refine exec_commandAcknowledge_taken takes ?_
    rw [State.acknowledge, found]
    refine (if_pos done).trans (Prod.ext rfl ?_)
    show s.setTable (s.cu.table.filter fun d => d.tag ≠ tag) = _
    rw [State.setTable, kept]
  · have found : (s.cu.table.find? fun d => d.tag = tagCode value) = some c := by
      rw [tagIs, ← holds]
      exact find?_tag distinct mem
    refine exec_commandAcknowledge_taken takes ?_
    rw [State.acknowledge, found]
    exact if_neg waiting
  · have found : (s.cu.table.find? fun d => d.tag = tagCode value) = none :=
      List.find?_eq_none.mpr fun d inTable same => unknown d inTable (by simpa [tagIs] using same)
    refine exec_commandAcknowledge_taken takes ?_
    rw [State.acknowledge, found]

/-! ## The word offered and the reports of wins (R122, R124) -/

theorem finishTag_eq (t : Fin 16) (o : CmdOutcome) (l : List CmdRecord) : finishTag t o l =
    l.map fun c => if c.tag = t ∧ c.state ≠ .done then { c with state := .done, outcome := some o } else c := by
  unfold finishTag
  refine List.map_congr_left fun c _ => ?_
  by_cases tag : c.tag = t
  · by_cases done : c.state = .done <;> simp [tag, done, CmdRecord.finishOpen, CmdRecord.finish]
  · simp [tag]

/-- Settles O47. -/
theorem offeredWordWinsAndTheRestoreSlot : Obligations.OfferedWordWinsAndTheRestoreSlot := by
  refine ⟨⟨?_, ?_, ?_, ?_⟩, ?_, ?_, ?_⟩
  · intro s
    refine ⟨fun outside => ?_, fun h inStep head => ?_, fun inStep none_open full => ?_, fun inStep none_open empty => ?_⟩
    · rw [State.contention, if_pos outside]
    · rw [State.contention, if_neg (not_not.mpr inStep), head]
      rfl
    · rw [State.contention, if_neg (not_not.mpr inStep), none_open]
      simp only [full, if_true]
      rfl
    · rw [State.contention, if_neg (not_not.mpr inStep), none_open]
      simp only [empty, Bool.false_eq_true, if_false]
  · intro o s t offered won
    refine ⟨fun waiting => ?_, fun closed => ?_⟩
    · rw [State.reportWin, offered]
      simp only [waiting, if_true, finishTag_eq]
      rfl
    · rw [State.reportWin, offered]
      simp only [closed, Bool.false_eq_true, if_false]
  · intro o s offered
    rw [State.reportWin, offered]
  · intro o s offered
    rw [State.reportWin, offered]
  · intro s due set
    simp only [exec, execWtrTimerExpiry, set]
    rfl
  · intro s stopped
    simp only [exec, execWtrTimerExpiry, stopped]
  · intro before s wtr
    have wtrIs : blockWtr s.area = wtr := rfl
    refine ⟨fun notBefore now set => ?_, fun notBefore now zero => ?_, fun was notNow => ?_, fun same => ?_⟩
    · rw [State.notifyWaitRestore, if_neg notBefore, if_pos now, State.enterWaitRestore, if_neg (by omega)]
      rfl
    · rw [State.notifyWaitRestore, if_neg notBefore, if_pos now, State.enterWaitRestore, if_pos (wtrIs.trans zero)]
    · rw [State.notifyWaitRestore, if_pos was, if_neg notNow]
      rfl
    · by_cases was : before = .waitRestore
      · rw [State.notifyWaitRestore, if_pos was, if_pos (same.mp was)]
      · rw [State.notifyWaitRestore, if_neg was, if_neg fun now => was (same.mpr now)]

end

end Sys2Proof.Machine
end

section
/-! SUPPORT. The snapshot unit and the SPI frame byte by byte (R168 to R182, R186): the buffer's layout, a data byte taken at an address, and the layouts of the
registers and groups. -/

namespace Sys2Proof.Machine

open Sys2Proof.Safety

/-! ## The snapshot unit (R179 to R182) -/

section
variable {s : State}

theorem Mp.shifted_snapdata (m : Mp) : m.shifted snapdataAddress =
    if m.snapTaken = true ∧ m.snapState = .ready then { m with snapPtr := if 82 ≤ m.snapPtr then 0 else m.snapPtr + 1 } else m := by
  have config : ¬snapdataAddress = stagingAddress .config := by decide
  have step : ¬snapdataAddress = stagingAddress .step := by decide
  rw [Mp.shifted, if_neg config, if_neg step]
  by_cases taken : m.snapTaken = true
  · rw [if_pos (by simp [taken]), Mp.advanceSnap]
    by_cases ready : m.snapState = .ready
    · rw [if_pos ready, if_pos ⟨taken, ready⟩]
      rfl
    · rw [if_neg ready, if_neg fun both => ready both.2]
  · rw [if_neg (by simp [taken]), if_neg fun both => taken both.1]

theorem groupOf_snapdata : groupOf snapdataAddress = none := by decide

theorem addressAfter_snapdata : addressAfter snapdataAddress = snapdataAddress := by decide

theorem State.takeByte_snapdata : s.takeByte snapdataAddress =
    { s with mp := { s.mp with readout := some s.mp.snapByte, snapTaken := decide (s.mp.snapState = .ready) } } := by
  have here : decide (snapdataAddress = snapdataAddress) = true := by decide
  rw [State.takeByte, State.readsAs_register groupOf_snapdata, here, Bool.true_and]
  rfl

/-- SNAPDATA read alone. -/
theorem State.portRead_snapdata_alone (served : s.portServed = true) (frame : s.mp.frame = none) :
    s.portRead snapdataAddress =
      { s with mp := { s.mp with
          snapPtr := if s.mp.snapState = .ready then (if 82 ≤ s.mp.snapPtr then 0 else s.mp.snapPtr + 1) else s.mp.snapPtr
          readout := some s.mp.snapByte, snapTaken := false } } := by
  rw [State.portRead_alone _ served frame, State.takeByte_snapdata, Mp.shifted_snapdata]
  by_cases ready : s.mp.snapState = .ready
  · simp only [ready, decide_true, and_self, if_true]
    rfl
  · simp only [ready, decide_false, Bool.false_eq_true, false_and, if_false]
    rfl

theorem Mp.shifted_snapdata_kept (m : Mp) : (m.shifted snapdataAddress).frame = m.frame ∧ (m.shifted snapdataAddress).snapState = m.snapState := by
  rw [Mp.shifted_snapdata]
  split <;> exact ⟨rfl, rfl⟩

/-- SNAPDATA read in a read frame that stands there. -/
theorem State.portRead_snapdata_framed {m : Mp} (served : s.portServed = true) (frame : s.mp.frame = some ⟨false, snapdataAddress⟩)
    (moved : s.mp.shifted snapdataAddress = m) :
    s.portRead snapdataAddress =
      { s with mp := { m with readout := some m.snapByte, capture := none, snapTaken := decide (s.mp.snapState = .ready) } } := by
  have kept : m.frame = some ⟨false, snapdataAddress⟩ ∧ m.snapState = s.mp.snapState := by
    rw [← moved, s.mp.shifted_snapdata_kept.1, s.mp.shifted_snapdata_kept.2]
    exact ⟨frame, rfl⟩
  have same : { m with frame := some ⟨false, snapdataAddress⟩ } = m := by rw [← kept.1]
  have here : decide (snapdataAddress = 0x08#7) = true := by decide
  rw [s.portRead_in_frame _ served frame, State.readOn, addressAfter_snapdata, moved, same, State.takeAt_register _ _ groupOf_snapdata,
    here, Bool.true_and, State.setMp_mp, ← kept.2]
  rfl

theorem Snapshot.length_bytes (b : Snapshot) : b.bytes.length = 83 := rfl

/-- Byte 0 of a buffer is neither the NONE marker nor the NOT_READY one (R182). -/
theorem Snapshot.headByte_ne (b : Snapshot) : byteAt b.bytes 0 ≠ 0x00#8 ∧ byteAt b.bytes 0 ≠ 0xA5#8 := by
  have head : byteAt b.bytes 0 = b.headByte := rfl
  rw [head, Snapshot.headByte]
  cases b.kind <;> cases b.notInStep <;> decide

/-- The entries' bytes of the buffer, four for each position. -/
theorem Snapshot.entryBytes (b : Snapshot) (n : Pos) : (List.range 4).map (fun i => byteAt b.bytes (19 + 4 * n.val + i)) = b.entries[n].snapshotBytes := by
  fin_cases n <;> rfl

theorem Snapshot.waitBytes (b : Snapshot) {i : Nat} (inRange : i < 15) :
    byteAt b.bytes (4 + i) = match b.waitList[i]? with | some p => BitVec.ofNat 8 p.val | none => 0xFF#8 := by
  interval_cases i <;> rfl

/-- Settles O51. -/
theorem snapshotCommandsReadsAndDiscard : Obligations.SnapshotCommandsReadsAndDiscard := by
  refine ⟨?_, ⟨?_, ?_, fun b => ⟨b.headByte_ne.1, b.headByte_ne.2, rfl⟩, ?_, ?_, ?_⟩⟩
  · intro s takes
    refine ⟨fun inGroup unarmed => ?_, fun inGroup armed => ?_, fun outside => ?_, fun busy => ?_⟩
    · have taken : s.snapTaken = some (s.setMp (s.mp.discard .armed)) := by
        rw [State.snapTaken, if_pos inGroup, State.armed]
        split
        · next armed => exact absurd armed unarmed
        all_goals rfl
      exact exec_control_taken rfl takes taken
    · have taken : s.snapTaken = some s := by rw [State.snapTaken, if_pos inGroup, State.armed, armed]
      exact exec_control_taken rfl takes taken
    · have taken : s.snapTaken = some (s.armed.capture .atOnce s.participation true) := by
        have armed : s.armed.mp.snapState = .armed := by
          unfold State.armed
          split
          · assumption
          all_goals rfl
        rw [State.snapTaken, if_neg (by simp [outside]), State.captureIfArmed, if_pos armed]
      refine (exec_control_taken rfl takes taken).trans (congrArg Host.Outcome.next ?_)
      unfold State.armed
      split <;> rfl
    · have taken : s.snapReleaseTaken = some (s.setMp (s.mp.discard .idle)) := by rw [State.snapReleaseTaken, if_neg busy]
      exact exec_control_taken rfl takes taken
  · intro m b
    refine ⟨fun ready held => ?_, fun idle => ?_, fun armed => ?_⟩
    · simp only [Mp.snapByte, ready, held]
    · simp only [Mp.snapByte, idle]
      rfl
    · simp only [Mp.snapByte, armed]
      rfl
  · intro s p hears moved
    have served : s.portServed = true := s.portServed_iff.mpr ⟨p, hears⟩
    refine ⟨fun frame => ?_, fun frame => ?_⟩
    · have read := State.portRead_snapdata_alone served frame
      refine ⟨fun ready => ?_, fun other => ?_⟩
      · rw [if_pos ready] at read
        exact congrArg _ read
      · rw [if_neg other] at read
        exact congrArg _ read
    · have read := fun {m : Mp} => State.portRead_snapdata_framed (m := m) served frame
      rw [Mp.shifted_snapdata] at read
      refine ⟨fun ready taken => ?_, fun ready untaken => ?_, fun other => ?_⟩
      · rw [if_pos ⟨taken, ready⟩, decide_eq_true ready] at read
        exact congrArg Host.Outcome.next (read rfl)
      · rw [if_neg fun both => Bool.eq_false_iff.mp untaken both.1, decide_eq_true ready] at read
        exact congrArg Host.Outcome.next (read rfl)
      · rw [if_neg fun both => other both.2, decide_eq_false other] at read
        exact congrArg Host.Outcome.next (read rfl)
  · intro b byte bit
    refine ⟨rfl, rfl, rfl, rfl, fun i inRange => b.waitBytes inRange, ?_⟩
    intro n e
    have bytes := b.entryBytes n
    simp only [List.range_succ, List.range_zero, List.nil_append, List.map_cons, List.map_nil, Entry.snapshotBytes,
      List.cons_append, List.cons.injEq] at bytes
    obtain ⟨first, second, third, fourth, -⟩ := bytes
    refine ⟨first, ?_, ?_, ?_⟩
    · rw [show 20 + 4 * n.val = 19 + 4 * n.val + 1 by omega]
      exact second
    · rw [show 21 + 4 * n.val = 19 + 4 * n.val + 2 by omega]
      exact third
    · rw [show 22 + 4 * n.val = 19 + 4 * n.val + 3 by omega]
      exact fourth
  · intro s due set
    simp only [exec, execDiscardTimerExpiry, set]
    rfl
  · intro s stopped
    simp only [exec, execDiscardTimerExpiry, stopped]

end

/-! ## A byte taken at an address (R169, R170) -/

section
variable {s : State}

/-- A later byte of a group whose copy is not held is taken as it stands, and no copy is held after it. -/
theorem State.takeAt_not_copied {a : BitVec 7} {g : Group} {o : Nat} (within : groupOf a = some (g, o + 1))
    (uncopied : ∀ l : List Byte, s.mp.capture ≠ some (g, l)) :
    s.takeAt a = { s with mp := { s.mp with
      capture := none, readout := some (byteAt (s.groupBytes g) (o + 1)), snapTaken := a = 0x08#7 && s.mp.snapState = .ready } } := by
  have dropped : s.mp.capture.filter (fun c => decide (c.1 = g)) = none := by
    rw [Option.filter_eq_none_iff]
    rintro ⟨h, l⟩ held
    have other : h ≠ g := by
      rintro rfl
      exact uncopied l held
    simpa using other
  have taken : s.takeAt a = (s.setMp { s.mp with capture := none }).takeByte a := by
    rw [State.takeAt, within]
    simp only [dropped]
  rw [taken]
  unfold State.takeByte State.readsAs
  rw [within]
  rfl

theorem groupOf_eq_some_iff (g : Group) (o : Nat) (a : BitVec 7) : groupOf a = some (g, o) ↔
    a.toNat = (groupAddress g).toNat + o ∧ o < groupSize g := by
  have inRange := a.isLt
  have pstat : (groupAddress .pstat).toNat = 16 ∧ groupSize .pstat = 18 := by decide
  have ostat : (groupAddress .ostat).toNat = 48 ∧ groupSize .ostat = 29 := by decide
  have cmdtab : (groupAddress .cmdtab).toNat = 80 ∧ groupSize .cmdtab = 13 := by decide
  simp only [groupOf, List.findSome?_cons, List.findSome?_nil, Bool.and_eq_true, decide_eq_true_eq, pstat, ostat, cmdtab]
  by_cases first : 16 ≤ a.toNat ∧ a.toNat < 16 + 18
  · rw [if_pos first]
    cases g <;> simp [pstat, ostat, cmdtab] <;> omega
  rw [if_neg first]
  by_cases second : 48 ≤ a.toNat ∧ a.toNat < 48 + 29
  · rw [if_pos second]
    cases g <;> simp [pstat, ostat, cmdtab] <;> omega
  rw [if_neg second]
  by_cases third : 80 ≤ a.toNat ∧ a.toNat < 80 + 13
  · rw [if_pos third]
    cases g <;> simp [pstat, ostat, cmdtab] <;> omega
  rw [if_neg third]
  cases g <;> simp [pstat, ostat, cmdtab] <;> omega

theorem addressAfter_eq (a : BitVec 7) : addressAfter a = if a = 0x08#7 ∨ a = 0x0A#7 ∨ a = 0x0D#7 then a else a + 1 := by
  simp only [addressAfter, windowAddress, Bool.or_eq_true, decide_eq_true_eq, or_assoc]
  rfl

/-! ## Frames (R169, R171) -/

theorem execCommandByteReceived_first (served : s.portServed = true) (frame : s.mp.frame = none) (b : Byte) :
    exec (.commandByteReceived b) s = .next (s.beginFrame b) := by
  have p : ¬s.participation = .reset := (s.portServed_iff.mp served).1
  simp only [exec, execCommandByteReceived, p, served, frame, if_false, if_true]

theorem execCommandByteReceived_reads (served : s.portServed = true) {a : BitVec 7} (frame : s.mp.frame = some ⟨false, a⟩) (b : Byte) :
    exec (.commandByteReceived b) s = .next (s.readOn ⟨false, a⟩) := by
  have p : ¬s.participation = .reset := (s.portServed_iff.mp served).1
  simp only [exec, execCommandByteReceived, p, served, frame, if_false, if_true, Bool.false_eq_true]

theorem mem_of_knownControlCode : ∀ v : Byte, knownControlCode v = true → v ∈ [1#8, 2#8, 3#8, 4#8, 5#8, 6#8, 7#8, 8#8, 9#8] := by decide

theorem not_named_of_unknown {v : Byte} (unknown : knownControlCode v = false) (n : Nat) (named : 1 ≤ n ∧ n ≤ 9) : v.toNat ≠ n := by
  rintro rfl
  simp [knownControlCode, named] at unknown

/-- A byte written to CTRL is the control command it names, or an unknown code. -/
theorem exec_writeCommand_ctrl (v : Byte) : exec (writeCommand 0x01#7 v) s = .next (s.controlByte v) := by
  cases known : knownControlCode v with
  | true =>
    have named := mem_of_knownControlCode v known
    simp only [List.mem_cons, List.not_mem_nil, or_false] at named
    rcases named with rfl | rfl | rfl | rfl | rfl | rfl | rfl | rfl | rfl <;> rfl
  | false =>
    have other := not_named_of_unknown known
    have command : writeCommand 0x01#7 v = .ctrlUnknownCode v := by
      show (match v.toNat with | 1 => _ | 2 => _ | 3 => _ | 4 => _ | 5 => _ | 6 => _ | 7 => _ | 8 => _ | 9 => _ | _ => _) = _
      split
      case h_10 => rfl
      all_goals exact absurd ‹_› (other _ (by decide))
    have byte : s.controlByte v = s.control (v.extractLsb' 0 4) none := by
      unfold State.controlByte
      split
      case h_10 => rfl
      all_goals exact absurd ‹_› (other _ (by decide))
    rw [command, byte]
    simp only [exec, execCtrlUnknownCode, known, Bool.false_eq_true, if_false]

theorem not_named_of_unwritable {a : BitVec 7} (unwritable : writableAddress a = false) (b : BitVec 7) (named : writableAddress b = true) :
    a.toNat ≠ b.toNat := by
  intro same
  rw [BitVec.eq_of_toNat_eq same, named] at unwritable
  cases unwritable

theorem writeCommand_unwritable {a : BitVec 7} (unwritable : writableAddress a = false) (v : Byte) :
    writeCommand a v = .registerWriteIgnored a := by
  have other := not_named_of_unwritable unwritable
  unfold writeCommand
  split
  case h_12 => rfl
  case h_1 named => exact absurd named (other 0x01#7 rfl)
  case h_2 named => exact absurd named (other 0x02#7 rfl)
  case h_3 named => exact absurd named (other 0x03#7 rfl)
  case h_4 named => exact absurd named (other 0x04#7 rfl)
  case h_5 named => exact absurd named (other 0x05#7 rfl)
  case h_6 named => exact absurd named (other 0x07#7 rfl)
  case h_7 named => exact absurd named (other 0x09#7 rfl)
  case h_8 named => exact absurd named (other 0x0A#7 rfl)
  case h_9 named => exact absurd named (other 0x0B#7 rfl)
  case h_10 named => exact absurd named (other 0x0C#7 rfl)
  case h_11 named => exact absurd named (other 0x0D#7 rfl)

theorem State.writeAt_unwritable {a : BitVec 7} (unwritable : writableAddress a = false) (v : Byte) : s.writeAt a v = s.portWrite a id := by
  have other := not_named_of_unwritable unwritable
  unfold State.writeAt
  split
  case h_12 => rfl
  case h_1 named => exact absurd named (other 0x01#7 rfl)
  case h_2 named => exact absurd named (other 0x02#7 rfl)
  case h_3 named => exact absurd named (other 0x03#7 rfl)
  case h_4 named => exact absurd named (other 0x04#7 rfl)
  case h_5 named => exact absurd named (other 0x05#7 rfl)
  case h_6 named => exact absurd named (other 0x07#7 rfl)
  case h_7 named => exact absurd named (other 0x09#7 rfl)
  case h_8 named => exact absurd named (other 0x0A#7 rfl)
  case h_9 named => exact absurd named (other 0x0B#7 rfl)
  case h_10 named => exact absurd named (other 0x0C#7 rfl)
  case h_11 named => exact absurd named (other 0x0D#7 rfl)

theorem mem_of_writableAddress {a : BitVec 7} (writable : writableAddress a = true) :
    a ∈ [0x01#7, 0x02#7, 0x03#7, 0x04#7, 0x05#7, 0x07#7, 0x09#7, 0x0A#7, 0x0B#7, 0x0C#7, 0x0D#7] := by
  simpa [writableAddress] using writable

/-- The command that a data byte written at an address is has the byte's effect there (R171, R186). -/
theorem exec_writeCommand (s : State) (a : BitVec 7) (v : Byte) : exec (writeCommand a v) s = .next (s.writeAt a v) := by
  cases writable : writableAddress a with
  | true =>
    have named := mem_of_writableAddress writable
    simp only [List.mem_cons, List.not_mem_nil, or_false] at named
    rcases named with rfl | rfl | rfl | rfl | rfl | rfl | rfl | rfl | rfl | rfl | rfl
    case inl => exact exec_writeCommand_ctrl v
    all_goals rfl
  | false =>
    rw [writeCommand_unwritable writable, State.writeAt_unwritable writable]
    simp only [exec, execRegisterWriteIgnored, writable, Bool.false_eq_true, if_false]

theorem access_writeCommand (a : BitVec 7) (v : Byte) : access (writeCommand a v) = some (true, a) := by
  cases writable : writableAddress a with
  | true =>
    have named := mem_of_writableAddress writable
    simp only [List.mem_cons, List.not_mem_nil, or_false] at named
    rcases named with rfl | rfl | rfl | rfl | rfl | rfl | rfl | rfl | rfl | rfl | rfl
    case inl =>
      show access (match v.toNat with | 1 => _ | 2 => _ | 3 => _ | 4 => _ | 5 => _ | 6 => _ | 7 => _ | 8 => _ | 9 => _ | _ => _) = _
      split <;> rfl
    all_goals rfl
  | false =>
    rw [writeCommand_unwritable writable]
    rfl

theorem State.writeAt_not_taken {a : BitVec 7} (untaken : s.takesWrite a = false) (v : Byte) : s.writeAt a v = s := by
  unfold State.writeAt
  split
  case h_1 named =>
    obtain rfl : a = 0x01#7 := BitVec.eq_of_toNat_eq named
    exact s.control_not_taken untaken _ _
  all_goals exact s.portWrite_not_taken a untaken _

/-- Eight bits of a write frame are the data byte written where the frame stands, served or not. -/
theorem execCommandByteReceived_writes (p : s.participation ≠ .reset) {a : BitVec 7} (frame : s.mp.frame = some ⟨true, a⟩) (b : Byte) :
    exec (.commandByteReceived b) s = .next (s.writeAt a b) := by
  simp only [exec, execCommandByteReceived, p, frame, if_false, if_true]
  cases served : s.portServed with
  | true => rfl
  | false => rw [State.writeAt_not_taken (State.takesWrite_not_served a served)]; rfl

end

end Sys2Proof.Machine
end

section
/-! SUPPORT. The layouts of the registers and of the three status groups (R173, R186), and the obligation about frames. -/

namespace Sys2Proof.Machine

open Sys2Proof.Safety

/-! ## Bits packed into numbers -/

theorem testBit_packBits : ∀ (l : List Bool) (i : Nat), (packBits l).testBit i = l.getD i false
  | [], i => by simp [packBits]
  | b :: l, i => by
    have bit : packBits (b :: l) = Nat.bit b (packBits l) := by cases b <;> simp [packBits, Nat.bit_val] <;> omega
    rw [bit]
    cases i with
    | zero => rw [Nat.testBit_bit_zero]; rfl
    | succ i => rw [Nat.testBit_bit_succ, testBit_packBits l i]; rfl

theorem packBits_lt : ∀ l : List Bool, packBits l < 2 ^ l.length
  | [] => by simp [packBits]
  | b :: l => by
    have rest := packBits_lt l
    rw [packBits, List.length_cons, Nat.pow_succ]
    split <;> omega

theorem getLsbD_byteOf {i : Nat} (n : Nat) (inRange : i < 8) : (byteOf n).getLsbD i = n.testBit i := by
  rw [byteOf, BitVec.getLsbD_ofNat, decide_eq_true inRange, Bool.true_and]

/-- The presence of a position in the two last-view bytes, high byte first. -/
theorem presenceBit (v : Vector Bool 16) (n : Pos) :
    v[n] = (if n.val < 8 then byteOf (packBits v.toList) else byteOf (packBits v.toList / 256)).getLsbD (n.val % 8) := by
  have entry : (packBits v.toList).testBit n.val = v[n] := by
    rw [testBit_packBits, List.getD_eq_getElem?_getD]
    simp
  split
  · rw [getLsbD_byteOf _ (by omega), Nat.mod_eq_of_lt (by assumption), entry]
  · rw [getLsbD_byteOf _ (by omega), show 256 = 2 ^ 8 from rfl, Nat.testBit_div_two_pow, ← entry]
    congr 1
    omega

/-! ## The layouts -/

section
variable {α : Type}

/-- Byte `j` of the `i`th chunk among chunks of one length laid end to end. -/
theorem byteAt_flatMap_chunks {w : Nat} {f : α → List Byte} (each : ∀ a, (f a).length = w) {i j : Nat} (byte : j < w) :
    ∀ {l : List α} {a : α}, l[i]? = some a → byteAt (l.flatMap f) (w * i + j) = byteAt (f a) j := by
  induction i with
  | zero =>
    intro l a chunk
    cases l with
    | nil => simp at chunk
    | cons b l =>
      obtain rfl : b = a := by simpa using chunk
      rw [List.flatMap_cons, byteAt_append_left (by rw [each]; omega), Nat.mul_zero, Nat.zero_add]
  | succ i ih =>
    intro l a chunk
    cases l with
    | nil => simp at chunk
    | cons b l =>
      rw [List.flatMap_cons, byteAt_append_right (by rw [each, Nat.mul_succ]; omega), each,
        show w * (i + 1) + j - w = w * i + j by rw [Nat.mul_succ]; omega]
      exact ih (by simpa using chunk)

end

theorem length_slotBytes (o : Option CmdRecord) : (slotBytes o).length = 3 := by cases o <;> rfl

section
variable (s : State)

theorem State.length_slots : ((List.range 4).flatMap fun i => slotBytes s.cu.table[i]?).length = 12 := by
  simp [List.length_flatMap, length_slotBytes]

theorem State.byteAt_slot {i j : Nat} (slot : i < 4) (byte : j < 3) : byteAt s.cmdtab (3 * i + j) = byteAt (slotBytes s.cu.table[i]?) j := by
  rw [State.cmdtab, byteAt_append_left (by rw [s.length_slots]; omega)]
  exact byteAt_flatMap_chunks (f := fun i => slotBytes s.cu.table[i]?) (fun i => length_slotBytes _) byte (by simp [slot])

/-- The registers (R173, R186). -/
theorem State.registers :
    let byte : Nat → Byte := BitVec.ofNat 8
    s.registerByte 0x00#7 = 0x5B#8 ∧ s.registerByte 0x01#7 = byte (s.mp.ctrlCode.toNat + 16 * s.mp.ctrlResult.code) ∧
      s.registerByte 0x02#7 = (match s.mp.cmdsub with
        | .none => 0x00#8 | .accepted t => byte (0x80 + t.val) | .kind => 0x41#8 | .full => 0x42#8 | .duplicate => 0x43#8) ∧
      s.registerByte 0x03#7 = (match s.mp.cmdack with
        | .none => 0x00#8 | .acknowledged => 0x01#8 | .notDone => 0x02#8 | .unknown => 0x03#8) ∧
      s.registerByte 0x04#7 = s.mp.istat.zeroExtend 8 ∧ s.registerByte 0x05#7 = s.mp.ien.zeroExtend 8 ∧
      (∀ b : Snapshot, s.mp.snapState = .ready → s.mp.snapshot = some b → s.registerByte 0x06#7 = byte (2 + 16 * b.kind.code)) ∧
      (s.mp.snapState ≠ .ready → s.registerByte 0x06#7 = if s.mp.snapState = .armed then 0x01#8 else 0x00#8) ∧
      s.registerByte 0x07#7 = byte s.mp.snapPtr ∧ s.registerByte 0x08#7 = s.mp.snapByte ∧ s.registerByte 0x09#7 = byte s.mp.cfgPtr ∧
      s.registerByte 0x0A#7 = s.windowByte .config ∧ s.registerByte 0x0B#7 = byte (s.mp.stepPtr / 256) ∧
      s.registerByte 0x0C#7 = byte s.mp.stepPtr ∧ s.registerByte 0x0D#7 = s.windowByte .step ∧
      ∀ a : BitVec 7, 0x0D < a.toNat → s.registerByte a = 0x00#8 := by
  intro byte
  refine ⟨rfl, ?_, ?_, ?_, rfl, rfl, fun b ready held => ?_, fun other => ?_, rfl, rfl, rfl, rfl, rfl, rfl, rfl, fun a beyond => ?_⟩
  · rw [Nat.add_comm]
    rfl
  · show s.mp.cmdsub.byte = _
    cases s.mp.cmdsub <;> rfl
  · show s.mp.cmdack.byte = _
    cases s.mp.cmdack <;> rfl
  · show s.mp.snapstByte = _
    simp only [Mp.snapstByte, ready, held]
    rfl
  · show s.mp.snapstByte = _
    unfold Mp.snapstByte
    cases state : s.mp.snapState with
    | idle => rfl
    | armed => rfl
    | ready => exact absurd state other
  · unfold State.registerByte
    split
    case h_15 => rfl
    all_goals omega

/-- The last-view bytes at the end of PSTAT. -/
theorem State.pstat_lastView (i : Nat) : byteAt s.pstat (14 + i) = byteAt (lastViewBytes s.pc.lastView) i := by
  have length : (lastViewBytes s.pc.lastView).length = 4 := by cases s.pc.lastView <;> rfl
  unfold State.pstat
  rw [byteAt_append_right]
  · congr 1
    cases s.sl.crcs <;> simp [bytes16]
  · cases s.sl.crcs <;> simp [bytes16]

theorem State.length_pstat : s.pstat.length = 18 := by
  simp only [State.pstat]
  cases s.sl.crcs <;> cases s.pc.lastView <;> rfl

/-- PSTAT (R186). -/
theorem State.pstat_layout :
    let byte : Nat → Byte := BitVec.ofNat 8
    let bit : Bool → Nat → Nat := fun c i => if c then 2 ^ i else 0
    let p := s.pstat
    let l := s.sl
    p.length = 18 ∧ byteAt p 0 = byte (s.pc.participation.code + 16 * s.pc.cause.code) ∧
     byteAt p 1 = byte (l.loadState.code + 4 * l.loadCause.code + bit s.mp.stepsStaged 5) ∧
     byteAt p 2 = byte (l.loadSource.code + 16 * l.ownPos.val) ∧ byteAt p 3 = byte (l.byteCount / 256) ∧ byteAt p 4 = byte l.byteCount ∧
     byteAt p 5 = byte (bit l.formatFound.isSome 0 + bit l.stepCountFound.isSome 1 + bit l.crcs.isSome 2 + bit l.config.isSome 3 +
       bit s.pc.lastView.isSome 4) ∧
     byteAt p 6 = l.formatFound.getD 0x00#8 ∧ byteAt p 7 = byte (l.stepCountFound.getD 0 / 256) ∧ byteAt p 8 = byte (l.stepCountFound.getD 0) ∧
     (∀ c : BitVec 16 × BitVec 16, l.crcs = some c →
       byteAt p 9 = byte (c.1.toNat / 256) ∧ byteAt p 10 = byte c.1.toNat ∧ byteAt p 11 = byte (c.2.toNat / 256) ∧ byteAt p 12 = byte c.2.toNat) ∧
     (l.crcs = none → ∀ i : Nat, 9 ≤ i → i ≤ 12 → byteAt p i = 0x00#8) ∧
     (∀ f : Frozen, l.config = some f → byteAt p 13 = f.digest) ∧ (l.config = none → byteAt p 13 = 0x00#8) ∧
     (∀ v : LastView, s.pc.lastView = some v →
       (∀ n : Pos, v.presence[n] = (if n.val < 8 then byteAt p 15 else byteAt p 14).getLsbD (n.val % 8)) ∧
       byteAt p 16 = byte (v.digestVerdict.code + 4 * v.mirrorVerdict.code + bit v.faulted 4) ∧ byteAt p 17 = v.digestValue.getD 0x00#8) ∧
     (s.pc.lastView = none → ∀ i : Nat, 14 ≤ i → byteAt p i = 0x00#8) := by
  intro byte bit p l
  have digest : byteAt p 13 = match l.config with | none => 0x00#8 | some f => f.digest := by
    simp only [p, State.pstat]
    cases s.sl.crcs <;> rfl
  refine ⟨s.length_pstat, rfl, rfl, rfl, rfl, rfl, rfl, rfl, rfl, rfl, fun c crcs => ?_, fun crcs i low high => ?_, fun f frozen => ?_, fun unfrozen => ?_,
    fun v view => ?_, fun view i low => ?_⟩
  · simp only [p, State.pstat, show s.sl.crcs = some c from crcs]
    exact ⟨rfl, rfl, rfl, rfl⟩
  · simp only [p, State.pstat, show s.sl.crcs = none from crcs]
    interval_cases i <;> rfl
  · rw [digest, frozen]
  · rw [digest, unfrozen]
  · have last := fun i => s.pstat_lastView i
    rw [view] at last
    refine ⟨fun n => ?_, last 2, (last 3).trans ?_⟩
    · rw [show byteAt p 15 = byteOf (packBits v.presence.toList) from last 1, show byteAt p 14 = byteOf (packBits v.presence.toList / 256) from last 0]
      exact presenceBit v.presence n
    · cases value : v.digestValue <;> simp only [lastViewBytes, value] <;> rfl
  · have last := s.pstat_lastView (i - 14)
    rw [view, Nat.add_sub_cancel' low] at last
    rw [last]
    by_cases within : i < 18
    · interval_cases i <;> rfl
    · exact byteAt_beyond (by show 4 ≤ i - 14; omega)

theorem State.ostat_pending (n : Fin 4) : (byteAt s.ostat 3).getLsbD n.val = (s.filter n).pending.isSome := by
  have third : byteAt s.ostat 3 = byteOf (packBits (allLines.map fun n => (s.filter n).pending.isSome)) := rfl
  rw [third, getLsbD_byteOf _ (by omega), testBit_packBits]
  fin_cases n <;> rfl

theorem State.ostat_pending_lt : (byteAt s.ostat 3).toNat < 16 := by
  have third : byteAt s.ostat 3 = byteOf (packBits (allLines.map fun n => (s.filter n).pending.isSome)) := rfl
  have bound : packBits (allLines.map fun n => (s.filter n).pending.isSome) < 2 ^ 4 := packBits_lt _
  rw [third, byteOf, BitVec.toNat_ofNat]
  omega

/-- OSTAT (R186). -/
theorem State.ostat_layout :
    let byte : Nat → Byte := BitVec.ofNat 8
    let bit : Bool → Nat → Nat := fun c i => if c then 2 ^ i else 0
    let place : Option Pos → Nat := fun o => match o with | some p => p.val | none => 0
    let directive : Option Directive → Byte := fun o => match o with | some d => byte d.entryNumber | none => 0xFF#8
    let p := s.ostat
    let e := s.ownEntry
    let a := s.ae
    let nibble : Fin 4 → Nat := fun n => (s.raw n).code + 4 * (s.filter n).filtered.code
    p.length = 29 ∧ byteAt p 0 = byte (s.cm.own.code + bit s.cm.monitorActive 2 + bit s.cm.txSilent 3) ∧
     byteAt p 1 = byte (nibble 0 + 16 * nibble 1) ∧ byteAt p 2 = byte (nibble 2 + 16 * nibble 3) ∧
     (∀ n : Fin 4, (byteAt p 3).getLsbD n.val = (s.filter n).pending.isSome) ∧ (byteAt p 3).toNat < 16 ∧
     byteAt p 4 = byte (e.presence.code + 4 * e.condition.code + bit e.locked 4 + bit e.faulted 5) ∧
     byteAt p 5 = byte (e.assignment.code + bit e.partner.isSome 3 + 16 * place e.partner) ∧ byteAt p 6 = byte (e.cls.code + 16 * e.waitRank) ∧
     byteAt p 7 = byte (a.engine.code + 16 * a.debt) ∧
     byteAt p 8 = byte (a.actuated.code + 16 * match a.actuated with | .taken q => q.val | _ => 0) ∧ byteAt p 9 = directive a.running ∧
     byteAt p 10 = byte a.queue.length ∧ (∀ i < 4, byteAt p (11 + i) = directive a.queue[i]?) ∧ byteAt p 15 = byte (a.stepIndex.getD 0) ∧
     byteAt p 16 = byte (a.stepCount / 256) ∧ byteAt p 17 = byte a.stepCount ∧
     byteAt p 18 = byte (a.retryCount + bit a.retryOwner.isSome 3 + bit a.fallbackTaken 4 + bit a.stepIndex.isSome 5) ∧
     byteAt p 19 = byte (a.retryOwner.getD 0) ∧ byteAt p 20 = byte (a.fault.cause.code + bit a.fault.step.isSome 2) ∧
     byteAt p 21 = directive a.fault.directive ∧ byteAt p 22 = byte (a.fault.step.getD 0) ∧ byteAt p 23 = byte (a.outputs.toNat / 256) ∧
     byteAt p 24 = byte a.outputs.toNat ∧ byteAt p 25 = s.pins.fb ∧ byteAt p 26 = byte (bit s.cu.wtrTimer.isSome 0 + bit s.cu.restoreFull 1) ∧
     (∀ due : Ticks, s.cu.wtrTimer = some due →
       let left := (due - s.now + (sec 1 - 1)) / sec 1
       byteAt p 27 = byte (left / 256) ∧ byteAt p 28 = byte left) ∧
     (s.cu.wtrTimer = none → byteAt p 27 = 0x00#8 ∧ byteAt p 28 = 0x00#8) := by
  intro byte bit place directive p e a nibble
  have left : byteAt p 27 = byteOf (s.wtrSecondsLeft / 256) ∧ byteAt p 28 = byteOf s.wtrSecondsLeft := ⟨rfl, rfl⟩
  have actuated : byteAt p 8 = byteOf (s.ae.actuated.code + 16 * s.ae.actuated.position) := rfl
  refine ⟨rfl, rfl, rfl, rfl, s.ostat_pending, s.ostat_pending_lt, rfl, rfl, rfl, rfl, ?_, rfl, rfl, fun i inRange => ?_, rfl, rfl, rfl, rfl, rfl, rfl, rfl,
    rfl, rfl, rfl, rfl, rfl, fun due runs => ?_, fun stopped => ?_⟩
  · rw [actuated]
    simp only [a]
    cases s.ae.actuated <;> rfl
  · interval_cases i <;> rfl
  · simp only [State.wtrSecondsLeft, runs] at left
    exact left
  · simp only [State.wtrSecondsLeft, stopped] at left
    exact left

/-- CMDTAB (R186). -/
theorem State.cmdtab_layout :
    let byte : Nat → Byte := BitVec.ofNat 8
    let p := s.cmdtab
    p.length = 13 ∧ byteAt p 12 = byte s.cu.nextTag.val ∧
     ∀ i < 4,
       (∀ c : CmdRecord, s.cu.table[i]? = some c →
         byteAt p (3 * i) = byte (128 + 16 * c.kind.request.code + c.tag.val) ∧
         byteAt p (3 * i + 1) = byte (c.state.code + 16 * CmdOutcome.code c.outcome) ∧ byteAt p (3 * i + 2) = byte c.headCount) ∧
       (s.cu.table[i]? = none → byteAt p (3 * i) = 0x00#8 ∧ byteAt p (3 * i + 1) = 0x00#8 ∧ byteAt p (3 * i + 2) = 0x00#8) := by
  intro byte p
  refine ⟨?_, ?_, fun i slot => ?_⟩
  · simp only [p, State.cmdtab, List.length_append, s.length_slots]
    rfl
  · simp only [p, State.cmdtab]
    rw [byteAt_append_right (by rw [s.length_slots]), s.length_slots]
    rfl
  · have first := s.byteAt_slot slot (j := 0) (by omega)
    have second := s.byteAt_slot slot (j := 1) (by omega)
    have third := s.byteAt_slot slot (j := 2) (by omega)
    refine ⟨fun c held => ?_, fun empty => ?_⟩
    · rw [held] at first second third
      exact ⟨first, second, third⟩
    · rw [empty] at first second third
      exact ⟨first, second, third⟩

end

/-- Which pointer goes on when a data byte at an address has been shifted out (R172, R182). -/
theorem Mp.shifted_eq (m : Mp) (a : BitVec 7) : m.shifted a =
    { m with
        cfgPtr := if a = 0x0A#7 then (if 27 ≤ m.cfgPtr then 0 else m.cfgPtr + 1) else m.cfgPtr,
        stepPtr := if a = 0x0D#7 then (if 2085 ≤ m.stepPtr then 0 else m.stepPtr + 1) else m.stepPtr,
        snapPtr := if a = 0x08#7 ∧ m.snapTaken = true ∧ m.snapState = .ready then (if 82 ≤ m.snapPtr then 0 else m.snapPtr + 1)
          else m.snapPtr } := by
  by_cases config : a = 0x0A#7
  · rw [config]
    rfl
  by_cases step : a = 0x0D#7
  · rw [step]
    rfl
  rw [if_neg config, if_neg step]
  by_cases snap : a = 0x08#7
  · have shifts : m.shifted a = if m.snapTaken = true ∧ m.snapState = .ready then { m with snapPtr := if 82 ≤ m.snapPtr then 0 else m.snapPtr + 1 } else m := by
      rw [snap]
      exact m.shifted_snapdata
    rw [shifts]
    by_cases buffer : m.snapTaken = true ∧ m.snapState = .ready
    · rw [if_pos buffer, if_pos (show a = 0x08#7 ∧ m.snapTaken = true ∧ m.snapState = .ready from ⟨snap, buffer⟩)]
    · rw [if_neg buffer, if_neg (show ¬(a = 0x08#7 ∧ m.snapTaken = true ∧ m.snapState = .ready) from fun both => buffer both.2)]
  · have unmoved : m.shifted a = m := by
      unfold Mp.shifted
      rw [if_neg (show ¬a = stagingAddress .config from config), if_neg (show ¬a = stagingAddress .step from step), if_neg (by simp [snap, snapdataAddress])]
    rw [unmoved, if_neg (show ¬(a = 0x08#7 ∧ m.snapTaken = true ∧ m.snapState = .ready) from fun both => snap both.1)]

/-- Settles O52: a byte taken at an address, the frame in each direction, and the layouts above. -/
theorem spiFramesAndGroupCaptures : Obligations.SpiFramesAndGroupCaptures := by
  refine ⟨⟨?_, ?_, ?_, ?_, ?_, ?_, fun s => rfl, ?_⟩, ?_, ?_⟩
  · intro s a takes
    exact ⟨s.takeAt_register a, s.takeAt_first a, fun g o within =>
      ⟨fun l held => (s.takeAt_copied a g o l within held).trans (by simp only [takes, ← held]), State.takeAt_not_copied within⟩⟩
  · intro g o a
    rw [groupOf_eq_some_iff]
    cases g <;> rfl
  · intro s b p hears frame a
    have served : s.portServed = true := s.portServed_iff.mpr ⟨p, hears⟩
    refine ⟨fun write => ?_, fun read => ?_, fun g => ?_⟩
    · rw [execCommandByteReceived_first served frame, State.beginFrame]
      simp only [write, if_true]
      rfl
    · rw [execCommandByteReceived_first served frame, State.beginFrame]
      simp only [read, Bool.false_eq_true, if_false]
      rfl
    · simp only [exec, execGroupCapture, served, frame, if_true]
      rfl
  · intro s a p hears frame stays next moved
    have served : s.portServed = true := s.portServed_iff.mpr ⟨p, hears⟩
    have after : addressAfter a = next := addressAfter_eq a
    have reads : s.readOn ⟨false, a⟩ = ({ s with mp := moved }).takeAt next := by
      rw [State.readOn, Mp.shifted_eq, after]
      rfl
    refine ⟨fun b => ?_, fun g here => ?_⟩
    · rw [execCommandByteReceived_reads served frame, reads]
    · rw [← reads]
      have comes : (!(⟨false, a⟩ : Frame).write && decide (addressAfter a = groupAddress g)) = true := by simp [after, here]
      simp only [exec, execGroupCapture, served, frame, if_true]
      rw [if_pos comes]
  · intro s a b p frame
    rw [execCommandByteReceived_writes p frame, exec_writeCommand]
    exact ⟨rfl, access_writeCommand a b⟩
  · intro s a takes unwritable
    simp only [exec, execRegisterWriteIgnored, unwritable, Bool.false_eq_true, if_false]
    rw [s.portWrite_taken a takes]
    rfl
  · intro a c
    refine ⟨?_, rfl⟩
    rw [Frame.wrote, if_pos rfl, addressAfter_eq]
  · intro s byte bit place directive
    exact ⟨s.registers, s.pstat_layout, s.ostat_layout, s.cmdtab_layout⟩
  · refine ⟨?_, ?_, ?_, ?_, ?_, ?_, ?_, ?_, ?_, ?_, ?_, ?_, ?_, ?_, ?_, ?_, ?_, ?_, ?_, ?_, fun p => ⟨rfl, rfl⟩, ?_⟩ <;> rfl

end Sys2Proof.Machine
end

section
/-! SUPPORT. The outcomes of a delivered record (R45 to R54): the few things a judgement can make of the state. A law that each of them keeps is kept by every
delivery. -/

namespace Sys2Proof.Machine

open Sys2Proof.Safety

/-- The last view a record gives, entered (R59). -/
def State.seen (r : EpochRecord) (s : State) : State := { s with pc := { s.pc with lastView := some r.view } }

/-- The counters, the history and the last view have changed, and nothing else. -/
structure State.Counts (u s : State) : Prop where
  rest : u = { s with pc := u.pc }
  participation : u.participation = s.participation

/-- What the judgement of `r` makes of `s`. -/
inductive Outcome (r : EpochRecord) (s : State) : State → Prop where
  /-- The counters alone change. -/
  | counts (u : State) (counts : u.Counts s) (p : s.participation = .listening ∨ s.participation = .learning) : Outcome r s u
  | apart (u : State) (counts : u.Counts s) (dest : Participation) (c : Cause) (apart : dest = .isolated ∨ dest = .conflict) :
      Outcome r s (u.setApart dest c)
  | sync (u : State) (counts : u.Counts s) (inGroup : s.participation.inGroup = true) : Outcome r s u.syncLoss
  | learns (u : State) (counts : u.Counts s) (p : s.participation = .listening) : Outcome r s (u.moveTo .learning)
  | founds (u : State) (counts : u.Counts s) (p : s.participation = .learning) (framed : r.faults.any = false) : Outcome r s (u.found r)
  | applies (u : State) (counts : u.Counts s) (p : s.participation = .learning) (framed : r.faults.any = false) :
      Outcome r s (u.applyRecord false r)
  | joins (u : State) (counts : u.Counts s) (p : s.participation = .learning) (framed : r.faults.any = false) :
      Outcome r s (u.applyRecord false r).joinStep.reconcile
  | falls (u : State) (counts : u.Counts s) (c : Cause) (p : s.participation = .inStep) (faulted : r.faults.any = true) : Outcome r s (u.fall c)
  | splits (u : State) (counts : u.Counts s) (c : Cause) (p : s.participation = .inStep) (framed : r.faults.any = false) :
      Outcome r s ((u.fall c).applyRecord false r)
  | inStep (u : State) (counts : u.Counts s) (p : s.participation = .inStep) (framed : r.faults.any = false) : Outcome r s (u.applyRecord true r)

section
variable {s u : State} {r : EpochRecord}

theorem State.Counts.pc (u : State) (pc : Pc) (same : pc.participation = u.pc.participation) : ({ u with pc := pc } : State).Counts u := ⟨rfl, same⟩

theorem State.Counts.trans {v : State} (second : v.Counts u) (first : u.Counts s) : v.Counts s :=
  ⟨second.rest.trans (by rw [first.rest]), second.participation.trans first.participation⟩

theorem State.counts_enterHistory (s : State) (r : EpochRecord) : (s.enterHistory r).Counts s := .pc s _ rfl

theorem State.counts_zeroLearning (s : State) : s.zeroLearning.Counts s := .pc s _ rfl

theorem outcome_judgeListening (counts : u.Counts s) (p : s.participation = .listening) : Outcome r s (u.judgeListening r) := by
  unfold State.judgeListening
  split
  · exact .counts _ ((State.Counts.pc u { u.pc with cleanCount := 0 } rfl).trans counts) (.inl p)
  have counted := (State.Counts.pc u { u.pc with cleanCount := u.pc.cleanCount + 1 } rfl).trans counts
  dsimp only
  split
  · exact .counts _ counted (.inl p)
  split
  · exact .learns _ ((State.counts_zeroLearning _).trans counted) p
  · exact .apart _ counted _ _ (.inl rfl)

theorem outcome_judgeLearning (counts : u.Counts s) (p : s.participation = .learning) : Outcome r s (u.judgeLearning r) := by
  unfold State.judgeLearning
  split
  · exact .counts _ ((State.counts_zeroLearning u).trans counts) (.inr p)
  next frame =>
  have framed : r.faults.any = false := by simpa [EpochRecord.framed] using frame
  split
  · exact .apart _ counts _ _ (.inl rfl)
  have counted (n : Nat × Nat) := (State.Counts.pc u { u.pc with verifyCount := n.1, noNarratorCount := n.2 } rfl).trans counts
  dsimp only
  split
  · exact .founds _ (counted _) p framed
  split
  · exact .joins _ (counted _) p framed
  · exact .applies _ (counted _) p framed

theorem outcome_judgeInStep (counts : u.Counts s) (p : s.participation = .inStep) : Outcome r s (u.judgeInStep r) := by
  unfold State.judgeInStep
  split
  · next frame => exact .falls u counts _ p (by simpa [EpochRecord.framed] using frame)
  next frame =>
  have framed : r.faults.any = false := by simpa [EpochRecord.framed] using frame
  split
  · exact .apart _ counts _ _ (.inl rfl)
  split
  · exact .splits u counts _ p framed
  · exact .inStep u counts p framed

theorem timed_iff {p : Participation} : p.timed = true ↔ p = .listening ∨ p.inGroup = true := by cases p <;> decide

theorem outcome_judge (r : EpochRecord) (timed : s.participation.timed = true) : Outcome r s (s.judge r) := by
  have same : s.Counts s := ⟨rfl, rfl⟩
  have history := s.counts_enterHistory r
  unfold State.judge
  split
  · exact .apart s same _ _ (.inl rfl)
  split
  · exact .apart s same _ _ (.inr rfl)
  dsimp only
  split
  · next many =>
    rw [history.participation, Bool.and_eq_true] at many
    exact .sync _ history many.1
  split
  · next p => exact outcome_judgeListening history (history.participation ▸ p)
  · next p => exact outcome_judgeLearning history (history.participation ▸ p)
  · next p => exact outcome_judgeInStep history (history.participation ▸ p)
  all_goals
    next p =>
      rw [← history.participation, p] at timed
      cases timed

/-! ## The delivery -/

theorem State.deliver_deaf (deaf : s.participation.receiving = false) : s.deliver r = s := by simp [State.deliver, deaf]

theorem State.deliver_apart (apart : s.participation = .isolated ∨ s.participation = .conflict) : s.deliver r = s.seen r := by
  rcases apart with p | p <;> simp [State.deliver, p, Participation.receiving, Participation.timed, State.seen]

theorem State.deliver_listening (p : s.participation = .listening) : s.deliver r = (s.seen r).judge r := by
  simp [State.deliver, p, Participation.receiving, Participation.timed, Participation.inGroup, State.seen]

theorem State.deliver_inGroup (g : s.participation.inGroup = true) : s.deliver r = ((s.seen r).judge r).countHead s.cu.headTag := by
  have timed : s.participation.timed = true := timed_iff.mpr (.inr g)
  have receiving : s.participation.receiving = true := by simp [Participation.receiving, timed]
  simp [State.deliver, receiving, timed, g, State.seen]

/-- A law that each outcome and the count of the head keep, and that looks past the last view, is kept by a delivery. -/
theorem deliver_keeps {P : State → Prop} (r : EpochRecord) (view : P s → P (s.seen r))
    (outcome : s.participation.timed = true → ∀ u, Outcome r (s.seen r) u → P (s.seen r) → P u) (count : ∀ u b, P u → P (u.countHead b)) (law : P s) :
    P (s.deliver r) := by
  by_cases timed : s.participation.timed = true
  · have judged : P ((s.seen r).judge r) := outcome timed _ (outcome_judge (s := s.seen r) r timed) (view law)
    rcases timed_iff.mp timed with p | g
    · rwa [State.deliver_listening p]
    · rw [State.deliver_inGroup g]
      exact count _ _ judged
  · by_cases apart : s.participation = .isolated ∨ s.participation = .conflict
    · rw [State.deliver_apart apart]
      exact view law
    · rwa [State.deliver_deaf (by simpa [Participation.receiving, timed] using apart)]

end

end Sys2Proof.Machine
end

section
/-! SUPPORT. Every step as a chain of moves: the few ways a command changes the state, each with the facts about the state it finds that the laws of a reachable
state ask for. A law that every move keeps is kept by every step. -/

namespace Sys2Proof.Machine

open Sys2Proof.Safety

/-- The snapshot unit keeps its shape, for a station that is in the group or not. -/
def Mp.UnitShaped (inGroup : Bool) (m : Mp) : Prop :=
  (m.snapshot.isSome = true ↔ m.snapState = .ready) ∧ (m.discardTimer.isSome = true ↔ m.snapState = .ready) ∧
    (m.snapState = .armed → inGroup = true)

/-- The windows' pointers and staging areas keep their bounds. -/
def Mp.Bounded (m : Mp) : Prop :=
  m.cfgPtr ≤ 27 ∧ m.stepPtr ≤ 2085 ∧ m.snapPtr ≤ 82 ∧ m.cfgStaging.wf = true ∧ m.stepStaging.wf = true ∧
    Memory.below 28 m.cfgStaging = true ∧ Memory.below 2086 m.stepStaging = true

/-- The laws of the port alone. -/
def Mp.Sound (inGroup : Bool) (m : Mp) : Prop := m.UnitShaped inGroup ∧ m.Bounded

/-- What a configuration to be frozen has passed (R16, R17, R160). -/
def Frozen.Passed (own : Pos) (f : Frozen) : Prop :=
  blockValid own f.area = true ∧ f.area.length = 28 ∧ f.directory.length = 36 ∧ stepsValid f.directory f.steps.length f.steps = true ∧
    f.digest = crc8 (f.area.take 24) ∧ f.primaries = primariesOf f.area

/-- The engine states that HOLD and RESUME exchange without touching the queue (R149, R150). -/
def Engine.Exchanges (e f : Engine) : Prop := (e = .idle ∧ f = .held) ∨ (e = .running ∧ f = .holding) ∨ (e = .holding ∧ f = .running)

/-- One move of the state, other than the full reset. -/
inductive Move (s : State) : State → Prop where
  /-- The model's own clock, choices and queue. -/
  | clock (now choices : Nat) (pending : List Instr) : Move s { s with now := now, choices := choices, pending := pending }
  /-- The port alone, its laws kept. -/
  | port (m : Mp) (sound : s.mp.Sound s.participation.inGroup → m.Sound s.participation.inGroup) : Move s (s.setMp m)
  /-- The VBI alone: the receiver goes neither to OFF nor from it, and the epoch timer begins to run only where it may. -/
  | wire (v : Vbi) (off : v.receiver = .off ↔ s.vbi.receiver = .off)
      (timer : v.epochTimer.isSome = true → s.vbi.epochTimer.isSome = true ∨ s.participation.timed = true) : Move s (s.setVbi v)
  /-- The outgoing record is latched and a new epoch begins. -/
  | latch (on : s.vbi.receiver ≠ .off) : Move s s.latch.epochBegins
  /-- A record is delivered. -/
  | deliver (r : EpochRecord) : Move s (s.deliver r)
  | release (straps : Pos) (reset : s.participation = .reset) : Move s ((s.setSl (s.sl.released straps s.now)).enterLoading.sampleLines)
  /-- SL alone, during a read or with its phase as it was: the configuration, the position and the load state stay. -/
  | loader (l : Sl) (config : l.config = s.sl.config) (own : l.ownPos = s.sl.ownPos) (state : l.loadState = s.sl.loadState)
      (phase : l.phase = s.sl.phase ∨ s.sl.phase ≠ .ended) : Move s (s.setSl l)
  | loadFails (c : LoadCause) (reading : s.sl.phase ≠ .ended) : Move s (s.loadFails c)
  /-- A configuration that has passed its checks is frozen, at the end of a read or by START. -/
  | freeze (src : LoadSource) (f : Frozen) (before : s.sl.phase ≠ .ended ∨ s.participation = .unconfigured) (passed : f.Passed s.sl.ownPos) :
      Move s (s.freeze src f)
  | pins (p : Pins) : Move s { s with pins := p }
  /-- A line's filter is replaced and the own condition derived. -/
  | filter (n : Fin 4) (f : LineFilter) : Move s (s.setFilter n f).deriveOwn
  /-- The silence timer and TX-SILENT change while the monitor is active, and the own condition is derived. -/
  | silence (timer : Option Ticks) (silent : Bool) (active : s.cm.monitorActive = true ∨ s.cm.silenceTimer.isSome = true) :
      Move s ({ s with cm := { s.cm with silenceTimer := timer, txSilent := silent } }).deriveOwn
  | submit (k : Nat) : Move s (s.submit k).2
  | acknowledge (t : Fin 16) : Move s (s.acknowledge t).2
  | expireHead : Move s s.expireHead
  | wtrExpires (runs : s.cu.wtrTimer.isSome = true) : Move s { s with cu := { s.cu with wtrTimer := none, restoreFull := true } }
  /-- The wait of the sequence in progress is over, and its retries are counted. -/
  | waited (retryCount : Nat) (retryOwner : Option Nat) (fallbackTaken : Bool) :
      Move s { s with ae := { s.ae with
        waiting := .none, retryCount := retryCount, retryOwner := retryOwner, fallbackTaken := fallbackTaken } }
  | enters (d : Directive) (i : Nat) (running : s.ae.running.isSome = true) : Move s (s.sequenceEnters d i)
  | completes (d : Directive) (running : s.ae.running.isSome = true) : Move s (s.sequenceCompletes d)
  | fault (f : FaultRecord) : Move s (s.engineFault f)
  | rejoin (apart : s.participation = .isolated ∨ s.participation = .conflict) : Move s (s.enterListening.raise .part)
  | softReset (clearsFirst : Bool) (notLoading : s.participation ≠ .loading) :
      Move s ((s.cardSoftReset clearsFirst).participationSoftReset.softWithdraw)
  | setEngine (e : Engine) (exchanges : s.ae.engine.Exchanges e) : Move s (s.setEngine e)
  | resume (held : s.ae.engine = .held) : Move s (s.runQueue s.ae.queue)
  | restart (out : s.ae.engine.out = true) : Move s (s.setEngine .idle).reconcile
  | stop : Move s s.engineStop

/-- A chain of moves. -/
abbrev Moves : State → State → Prop := Relation.ReflTransGen Move

section
variable {s t : State}

theorem Move.moves (move : Move s t) : Moves s t := Relation.ReflTransGen.single move

theorem Moves.refl (s : State) : Moves s s := Relation.ReflTransGen.refl

theorem Moves.then {u : State} (first : Moves s t) (move : Move t u) : Moves s u := Relation.ReflTransGen.tail first move

theorem moves_advanceTo (s : State) (n : Ticks) : Moves s (s.advanceTo n) := (Move.clock _ _ _).moves

/-- A law that each move keeps is kept by a chain of them. -/
theorem Moves.keep {P : State → Prop} (kept : ∀ {s t : State}, Move s t → P s → P t) (moves : Moves s t) (law : P s) : P t := by
  induction moves with
  | refl => exact law
  | tail _ move ih => exact kept move ih

/-! ## Moves of the port -/

theorem Mp.sound_of_kept {g : Bool} {m n : Mp} (snapshot : n.snapshot = m.snapshot) (timer : n.discardTimer = m.discardTimer)
    (state : n.snapState = m.snapState) (cfgPtr : n.cfgPtr = m.cfgPtr) (stepPtr : n.stepPtr = m.stepPtr) (snapPtr : n.snapPtr = m.snapPtr)
    (cfg : n.cfgStaging = m.cfgStaging) (step : n.stepStaging = m.stepStaging) (sound : m.Sound g) : n.Sound g := by
  unfold Mp.Sound Mp.UnitShaped Mp.Bounded
  rw [snapshot, timer, state, cfgPtr, stepPtr, snapPtr, cfg, step]
  exact sound

/-- The port, with what its laws speak of as it was. -/
theorem moves_port (s : State) (m : Mp) (snapshot : m.snapshot = s.mp.snapshot) (timer : m.discardTimer = s.mp.discardTimer)
    (state : m.snapState = s.mp.snapState) (cfgPtr : m.cfgPtr = s.mp.cfgPtr) (stepPtr : m.stepPtr = s.mp.stepPtr)
    (snapPtr : m.snapPtr = s.mp.snapPtr) (cfg : m.cfgStaging = s.mp.cfgStaging) (step : m.stepStaging = s.mp.stepStaging) :
    Moves s (s.setMp m) :=
  (Move.port m (Mp.sound_of_kept snapshot timer state cfgPtr stepPtr snapPtr cfg step)).moves

theorem moves_wrote (s : State) (a : BitVec 7) : Moves s (s.wrote a) := moves_port s _ rfl rfl rfl rfl rfl rfl rfl rfl

theorem moves_ctrlReads (s : State) (c : BitVec 4) (r : CtrlResult) : Moves s (s.ctrlReads c r) := moves_port s _ rfl rfl rfl rfl rfl rfl rfl rfl

theorem moves_raise (s : State) (i : Irq) : Moves s (s.raise i) := moves_port s _ rfl rfl rfl rfl rfl rfl rfl rfl

theorem moves_portWrite (a : BitVec 7) (f : State → State) (effect : Moves s (f s)) : Moves s (s.portWrite a f) := by
  unfold State.portWrite
  split
  · exact effect.trans (moves_wrote _ a)
  · exact Moves.refl s

theorem moves_control (c : BitVec 4) (taken : Option State) (effect : ∀ t, taken = some t → Moves s t) : Moves s (s.control c taken) := by
  refine moves_portWrite _ _ ?_
  cases result : taken with
  | none => exact moves_ctrlReads s c .refused
  | some t => exact (effect t result).trans (moves_ctrlReads t c .accepted)

theorem indexAfter_le {last i : Nat} : indexAfter last i ≤ last := by
  unfold indexAfter
  split <;> omega

theorem pointerOf_le {last v : Nat} : pointerOf last v ≤ last := by
  rw [pointerOf_eq]
  split <;> omega

theorem Mp.sound_shifted {g : Bool} {m : Mp} (a : BitVec 7) (sound : m.Sound g) : (m.shifted a).Sound g := by
  obtain ⟨unit, cfg, step, snap, rest⟩ := sound
  unfold Mp.shifted
  split
  · exact ⟨unit, indexAfter_le, step, snap, rest⟩
  split
  · exact ⟨unit, cfg, indexAfter_le, snap, rest⟩
  split
  · unfold Mp.advanceSnap
    split
    · exact ⟨unit, cfg, step, indexAfter_le, rest⟩
    · exact ⟨unit, cfg, step, snap, rest⟩
  · exact ⟨unit, cfg, step, snap, rest⟩

theorem moves_takeAt (s : State) (a : BitVec 7) : Moves s (s.takeAt a) := by
  rw [State.takeAt_frame]
  exact moves_port s _ rfl rfl rfl rfl rfl rfl rfl rfl

theorem moves_readOn (s : State) (f : Frame) : Moves s (s.readOn f) := by
  refine Relation.ReflTransGen.trans (Move.moves ?_) (moves_takeAt _ _)
  exact .port _ fun sound => Mp.sound_of_kept rfl rfl rfl rfl rfl rfl rfl rfl (Mp.sound_shifted f.address sound)

theorem moves_portRead (s : State) (a : BitVec 7) : Moves s (s.portRead a) := by
  unfold State.portRead
  split
  · split
    · refine Relation.ReflTransGen.trans (b := s.takeByte a) (moves_port s _ rfl rfl rfl rfl rfl rfl rfl rfl) (Move.moves ?_)
      exact .port _ fun sound => Mp.sound_of_kept rfl rfl rfl rfl rfl rfl rfl rfl (Mp.sound_shifted a sound)
    · split
      · exact moves_readOn s _
      · exact Moves.refl s
  · exact Moves.refl s

theorem moves_beginRead (s : State) (a : BitVec 7) : Moves s (s.beginRead a) :=
  (moves_port s { s.mp with frame := some ⟨false, a⟩ } rfl rfl rfl rfl rfl rfl rfl rfl).trans (moves_takeAt _ a)

theorem moves_pointed (s : State) (r : PointerReg) (v : Byte) : Moves s (s.pointed r v) := by
  refine (Move.port _ fun sound => ?_).moves
  obtain ⟨unit, cfg, step, snap, rest⟩ := sound
  cases r with
  | snapPtr => exact ⟨unit, cfg, step, pointerOf_le, rest⟩
  | cfgPtr => exact ⟨unit, pointerOf_le, step, snap, rest⟩
  | stepPtrHigh => exact ⟨unit, cfg, step, snap, rest⟩
  | stepPtrLow => exact ⟨unit, cfg, pointerOf_le, snap, rest⟩

theorem moves_staged (s : State) (w : StagingWindow) (v : Byte) : Moves s (s.staged w v) := by
  unfold State.staged
  split
  · refine (Move.port _ fun sound => ?_).moves
    obtain ⟨unit, cfg, step, snap, cfgWf, stepWf, cfgBelow, stepBelow⟩ := sound
    cases w with
    | config =>
      exact ⟨unit, indexAfter_le, step, snap, Laws.wf_write _ v cfgWf, stepWf, Laws.below_write v (by omega) cfgBelow, stepBelow⟩
    | step =>
      exact ⟨unit, cfg, indexAfter_le, snap, cfgWf, Laws.wf_write _ v stepWf, cfgBelow, Laws.below_write v (by omega) stepBelow⟩
  · exact Moves.refl s

/-! ## The snapshot unit -/

theorem Mp.sound_discard {g : Bool} {m : Mp} {x : SnapState} (bounded : m.Bounded) (other : x ≠ .ready) (armed : x = .armed → g = true) :
    (m.discard x).Sound g := by
  refine ⟨⟨?_, ?_, armed⟩, bounded⟩
  · simpa [Mp.discard] using other
  · simpa [Mp.discard] using other

/-- The port after a capture. -/
theorem State.sound_capture {g : Bool} (k : CaptureKind) (p : Participation) (mark : Bool) (bounded : s.mp.Bounded) :
    (s.capture k p mark).mp.Sound g := by
  obtain ⟨cfg, step, -, rest⟩ := bounded
  have unit : (s.capture k p mark).mp.UnitShaped g := by simp [Mp.UnitShaped, State.capture, Mp.raise]
  exact ⟨unit, cfg, step, Nat.zero_le _, rest⟩

theorem State.armed_eq : s.armed = s.setMp s.armed.mp := by
  unfold State.armed
  split <;> rfl

theorem State.armed_armed : s.armed.mp.snapState = .armed := by
  unfold State.armed
  split
  · assumption
  all_goals rfl

theorem State.armed_bounded (bounded : s.mp.Bounded) : s.armed.mp.Bounded := by
  unfold State.armed
  split <;> exact bounded

theorem moves_snapTaken (taken : s.snapTaken = some t) : Moves s t := by
  unfold State.snapTaken at taken
  split at taken <;> cases taken
  · next inGroup =>
    rw [State.armed_eq]
    refine (Move.port _ fun sound => ?_).moves
    unfold State.armed
    split
    · exact sound
    · exact Mp.sound_discard sound.2 (by decide) fun _ => inGroup
    · exact Mp.sound_discard sound.2 (by decide) fun _ => inGroup
  · have captured : s.armed.captureIfArmed .atOnce s.participation true = s.setMp (s.armed.capture .atOnce s.participation true).mp := by
      rw [State.captureIfArmed, if_pos State.armed_armed, State.armed_eq]
      rfl
    rw [captured]
    exact (Move.port _ fun sound => State.sound_capture _ _ _ (State.armed_bounded sound.2)).moves

theorem moves_snapReleaseTaken (taken : s.snapReleaseTaken = some t) : Moves s t := by
  unfold State.snapReleaseTaken at taken
  split at taken <;> cases taken
  exact (Move.port _ fun sound => Mp.sound_discard sound.2 (by decide) fun armed => by cases armed).moves

theorem moves_discardTimerExpiry (answers : exec .discardTimerExpiry s = .next t) : Moves s t := by
  simp only [exec, execDiscardTimerExpiry] at answers
  split at answers <;> cases answers
  · exact Moves.refl s
  · next due _ =>
    exact (moves_advanceTo s due).then (.port _ fun sound => Mp.sound_discard sound.2 (by decide) fun armed => by cases armed)

/-! ## Control commands -/

theorem imageArea_length {l : List Byte} (long : 29 ≤ l.length) : (imageArea l).length = 28 := by
  simp [imageArea]
  omega

theorem length_bytes (m : Memory) (a n : Nat) : (m.bytes a n).length = n := by simp [Memory.bytes]

theorem defaultSteps_valid : stepsValid defaultDirectory defaultSteps.length defaultSteps = true := by decide +kernel

/-- What a START would freeze has passed its checks. -/
theorem stagedConfig_passed {c : LoadSource × Frozen} (staged : s.stagedConfig = some c) : c.2.Passed s.sl.ownPos := by
  unfold State.stagedConfig at staged
  have area : s.mp.stagedArea.length = 28 := length_bytes _ _ _
  simp only at staged
  split at staged
  · cases staged
  · next valid =>
    have passed : blockValid s.sl.ownPos s.mp.stagedArea = true := by simpa using valid
    split at staged
    · cases staged
      exact ⟨passed, area, rfl, defaultSteps_valid, rfl, rfl⟩
    · split at staged
      · next steps =>
        cases staged
        have count : s.mp.stagedSteps.length = min s.mp.stagedCount stepCapacity := by simp [Mp.stagedSteps, recordsFrom]
        have capacity : s.mp.stagedCount ≤ stepCapacity := by
          simp only [stepsValid, Bool.and_eq_true, decide_eq_true_eq] at steps
          exact steps.1.1
        refine ⟨passed, area, length_bytes _ _ _, ?_, rfl, rfl⟩
        show stepsValid s.mp.stagedDirectory s.mp.stagedSteps.length s.mp.stagedSteps = true
        rw [count, Nat.min_eq_left capacity]
        exact steps
      · cases staged

theorem moves_startTaken (taken : s.startTaken = some t) : Moves s t := by
  unfold State.startTaken at taken
  split at taken
  · next unconfigured =>
    split at taken <;> cases taken
    · next c staged => exact (Move.freeze c.1 c.2 (.inr unconfigured) (stagedConfig_passed staged)).moves
    · exact (Move.loader { s.sl with loadCause := .invalid } rfl rfl rfl (.inl rfl)).moves
  · cases taken

theorem moves_rejoinTaken (taken : s.rejoinTaken = some t) : Moves s t := by
  unfold State.rejoinTaken at taken
  split at taken
  · next apart =>
    cases taken
    exact (Move.rejoin (by simpa using apart)).moves
  · cases taken

theorem moves_softResetTaken (taken : s.softResetTaken = some t) : Moves s t := by
  unfold State.softResetTaken at taken
  split at taken
  · cases taken
  · next notLoading =>
    cases taken
    exact (Move.clock s.now (s.choices + 1) s.pending).moves.then (.softReset _ notLoading)

theorem moves_holdTaken (taken : s.holdTaken = some t) : Moves s t := by
  unfold State.holdTaken at taken
  split at taken <;> cases taken
  · next idle => exact (Move.setEngine .held (.inl ⟨idle, rfl⟩)).moves.trans (moves_raise _ .engine)
  · next running => exact (Move.setEngine .holding (.inr (.inl ⟨running, rfl⟩))).moves

theorem moves_resumeTaken (taken : s.resumeTaken = some t) : Moves s t := by
  unfold State.resumeTaken at taken
  split at taken <;> cases taken
  · next holding => exact (Move.setEngine .running (.inr (.inr ⟨holding, rfl⟩))).moves
  · next held => exact (Move.resume held).moves
  · next stopped => exact (Move.restart (by rw [stopped]; rfl)).moves

theorem moves_stopTaken (taken : s.stopTaken = some t) : Moves s t := by
  unfold State.stopTaken at taken
  split at taken <;> cases taken
  exact Move.stop.moves

theorem moves_clearFaultTaken (taken : s.clearFaultTaken = some t) : Moves s t := by
  unfold State.clearFaultTaken at taken
  split at taken <;> cases taken
  next faulted => exact (Move.restart (by rw [faulted]; rfl)).moves

/-! ## Commands of the port -/

theorem State.submit_mp (k : Nat) : (s.submit k).2.mp = s.mp := by
  unfold State.submit
  split
  · rfl
  · split
    · rfl
    · split <;> rfl

theorem State.acknowledge_mp (x : Fin 16) : (s.acknowledge x).2.mp = s.mp := by
  unfold State.acknowledge
  split
  · rfl
  · split <;> rfl

theorem moves_submitted (s : State) (v : Byte) : Moves s (s.submitted v) := by
  refine Relation.ReflTransGen.trans (Move.submit (kindCode v)).moves ?_
  have kept := s.submit_mp (kindCode v)
  unfold State.submitted
  rw [← kept]
  exact moves_port _ _ rfl rfl rfl rfl rfl rfl rfl rfl

theorem moves_acknowledged (s : State) (v : Byte) : Moves s (s.acknowledged v) := by
  refine Relation.ReflTransGen.trans (Move.acknowledge (tagCode v)).moves ?_
  have kept := s.acknowledge_mp (tagCode v)
  unfold State.acknowledged
  rw [← kept]
  exact moves_port _ _ rfl rfl rfl rfl rfl rfl rfl rfl

/-- A data byte written by a command of the port is a chain of moves. -/
theorem moves_of_write_access {c : Instr} {a : BitVec 7} (writes : access c = some (true, a)) (answers : exec c s = .next t) : Moves s t := by
  cases c <;> cases writes
  case commandSubmission v =>
    cases answers
    exact moves_portWrite _ _ (moves_submitted s v)
  case commandAcknowledge v =>
    cases answers
    exact moves_portWrite _ _ (moves_acknowledged s v)
  case start => cases answers; exact moves_control _ _ fun _ => moves_startTaken
  case rejoin => cases answers; exact moves_control _ _ fun _ => moves_rejoinTaken
  case softReset => cases answers; exact moves_control _ _ fun _ => moves_softResetTaken
  case hold => cases answers; exact moves_control _ _ fun _ => moves_holdTaken
  case resume => cases answers; exact moves_control _ _ fun _ => moves_resumeTaken
  case stop => cases answers; exact moves_control _ _ fun _ => moves_stopTaken
  case clearFault => cases answers; exact moves_control _ _ fun _ => moves_clearFaultTaken
  case snap => cases answers; exact moves_control _ _ fun _ => moves_snapTaken
  case snapRelease => cases answers; exact moves_control _ _ fun _ => moves_snapReleaseTaken
  case ctrlUnknownCode v =>
    simp only [exec, execCtrlUnknownCode] at answers
    split at answers <;> cases answers
    · exact Moves.refl s
    · exact moves_control _ _ fun _ none_taken => by cases none_taken
  case istatWrite v => cases answers; exact moves_portWrite _ _ (moves_port s _ rfl rfl rfl rfl rfl rfl rfl rfl)
  case ienWrite v => cases answers; exact moves_portWrite _ _ (moves_port s _ rfl rfl rfl rfl rfl rfl rfl rfl)
  case pointerWrite r v => cases answers; exact moves_portWrite _ _ (moves_pointed s r v)
  case stagingWrite w v => cases answers; exact moves_portWrite _ _ (moves_staged s w v)
  case registerWriteIgnored =>
    simp only [exec, execRegisterWriteIgnored] at answers
    split at answers <;> cases answers
    · exact Moves.refl s
    · exact moves_portWrite _ _ (Moves.refl s)

theorem moves_commandByteReceived (b : Byte) (answers : exec (.commandByteReceived b) s = .next t) : Moves s t := by
  by_cases p : s.participation = .reset
  · simp only [exec, execCommandByteReceived, p, if_true] at answers
    cases answers
    exact moves_port s _ rfl rfl rfl rfl rfl rfl rfl rfl
  · cases frame : s.mp.frame with
    | none =>
      simp only [exec, execCommandByteReceived, p, frame, if_false] at answers
      split at answers <;> cases answers
      · unfold State.beginFrame
        split
        · exact moves_port s _ rfl rfl rfl rfl rfl rfl rfl rfl
        · exact moves_beginRead s _
      · exact Moves.refl s
    | some f =>
      obtain ⟨write, a⟩ := f
      cases write with
      | true =>
        rw [execCommandByteReceived_writes p frame, ← exec_writeCommand] at answers
        exact moves_of_write_access (access_writeCommand a b) answers
      | false =>
        simp only [exec, execCommandByteReceived, p, frame, if_false, Bool.false_eq_true] at answers
        split at answers <;> cases answers
        · exact moves_readOn s _
        · exact Moves.refl s

/-! ## The start-up loader -/

/-- SL alone, during a read. -/
theorem moves_reading (l : Sl) (config : l.config = s.sl.config) (own : l.ownPos = s.sl.ownPos) (state : l.loadState = s.sl.loadState)
    (reading : s.sl.phase ≠ .ended) : Moves s (s.setSl l) :=
  (Move.loader l config own state (.inr reading)).moves

theorem moves_attemptFails (n : Nat) (reading : s.sl.phase ≠ .ended) : Moves s (s.attemptFails n) := by
  unfold State.attemptFails
  split
  · exact moves_reading { s.sl with phase := .pausing n (s.now + attemptPause) } rfl rfl rfl reading
  · exact (Move.loadFails .noDevice reading).moves

theorem imageStatus_whole {l : List Byte} (whole : imageStatus l = .whole) :
    31 ≤ l.length ∧ (byteAt l 0 ≠ formatShort → 69 ≤ l.length ∧ imageStepCount l ≤ stepCapacity) := by
  unfold imageStatus at whole
  split at whole
  · next short =>
    split at whole
    · cases whole
    · exact ⟨by omega, fun full => absurd short full⟩
  · split at whole
    · split at whole
      · cases whole
      · split at whole
        · cases whole
        · split at whole
          · cases whole
          · exact ⟨by omega, fun _ => ⟨by omega, by omega⟩⟩
    · cases whole

theorem imageDirectory_length {l : List Byte} (long : 69 ≤ l.length) : (imageDirectory l).length = 36 := by
  simp only [imageDirectory, List.length_take, List.length_drop, directoryLength]
  omega

theorem imageSteps_length (l : List Byte) : (imageSteps l).length = imageStepCount l := by simp [imageSteps, recordsFrom]

/-- What a short image freezes has passed its checks. -/
theorem shortImage_passed {own : Pos} {l : List Byte} (valid : blockValid own (imageArea l) = true) (long : 31 ≤ l.length) :
    (frozenOf (imageArea l) defaultDirectory defaultSteps).Passed own :=
  ⟨valid, imageArea_length (by omega), rfl, defaultSteps_valid, rfl, rfl⟩

/-- What a full image freezes has passed its checks. -/
theorem fullImage_passed {own : Pos} {l : List Byte} (valid : blockValid own (imageArea l) = true) (long : 69 ≤ l.length)
    (steps : stepsValid (imageDirectory l) (imageStepCount l) (imageSteps l) = true) :
    (frozenOf (imageArea l) (imageDirectory l) (imageSteps l)).Passed own := by
  rw [← imageSteps_length] at steps
  exact ⟨valid, imageArea_length (by omega), imageDirectory_length long, steps, rfl, rfl⟩

theorem moves_judgeImage (reading : s.sl.phase ≠ .ended) (whole : imageStatus s.sl.image = .whole) : Moves s s.judgeImage := by
  obtain ⟨long, full⟩ := imageStatus_whole whole
  unfold State.judgeImage
  simp only
  split
  · exact (Move.loadFails .invalid reading).moves
  · next valid =>
    have passed : blockValid s.sl.ownPos (imageArea s.sl.image) = true := by simpa using valid
    split
    · exact (Move.freeze _ _ (.inl reading) (shortImage_passed passed long)).moves
    · next notShort =>
      split
      · next steps => exact (Move.freeze _ _ (.inl reading) (fullImage_passed passed (full notShort).1 steps)).moves
      · exact (Move.loadFails .invalid reading).moves

theorem moves_checkImage (reading : s.sl.phase ≠ .ended) (whole : imageStatus s.sl.image = .whole) : Moves s s.checkImage := by
  have checked : Moves s (s.setSl { s.sl with crcs := some (imageCrcs s.sl.image) }) := moves_reading _ rfl rfl rfl reading
  unfold State.checkImage
  simp only
  split
  · exact checked.trans (moves_judgeImage (s := s.setSl { s.sl with crcs := some (imageCrcs s.sl.image) }) reading whole)
  · exact checked.then (.loadFails .crc reading)

theorem moves_imageByteReceived (b : Byte) (answers : exec (.imageByteReceived b) s = .next t) : Moves s t := by
  simp only [exec, execImageByteReceived] at answers
  split at answers
  · next receiving =>
    have phase (w : List I2cAction) : (s.setSl ((s.sl.received b).acts w)).sl.phase ≠ .ended := by
      show s.sl.phase ≠ .ended
      rw [receiving]
      exact nofun
    have taken (w : List I2cAction) : Moves s (s.setSl ((s.sl.received b).acts w)) :=
      moves_reading ((s.sl.received b).acts w) rfl rfl rfl (phase w)
    cases status : imageStatus (s.sl.received b).image with
    | more =>
      rw [status] at answers
      cases answers
      exact taken _
    | stop c =>
      rw [status] at answers
      cases answers
      exact (taken _).then (.loadFails c (phase _))
    | whole =>
      rw [status] at answers
      cases answers
      exact (taken _).trans (moves_checkImage (phase _) status)
  all_goals
    cases answers
    exact Moves.refl s

theorem moves_loader (c : Instr) (loads : c = .loadReadStart ∨ c = .addressAttemptRetry ∨ c = .clockStretchTimeout ∨ ∃ p, c = .addressPhaseAttempt p)
    (answers : exec c s = .next t) : Moves s t := by
  rcases loads with rfl | rfl | rfl | ⟨p, rfl⟩
  · simp only [exec, execLoadReadStart] at answers
    split at answers <;> cases answers
    · next due settling =>
      have reading : s.sl.phase ≠ .ended := by rw [settling]; exact nofun
      exact (moves_advanceTo s due).trans
        (moves_reading (s := s.advanceTo due) { s.sl with phase := .addressing 1, wire := [] } rfl rfl rfl reading)
    all_goals exact Moves.refl s
  · simp only [exec, execAddressAttemptRetry] at answers
    split at answers <;> cases answers
    · next n due pausing =>
      have reading : s.sl.phase ≠ .ended := by rw [pausing]; exact nofun
      exact (moves_advanceTo s due).trans
        (moves_reading (s := s.advanceTo due) { s.sl with phase := .addressing (n + 1), wire := [] } rfl rfl rfl reading)
    all_goals exact Moves.refl s
  · simp only [exec, execClockStretchTimeout] at answers
    split at answers <;> cases answers
    · next n addressing =>
      have reading : s.sl.phase ≠ .ended := by rw [addressing]; exact nofun
      exact (moves_reading (s.sl.acts [.release]) rfl rfl rfl reading).trans
        (moves_attemptFails (s := s.setSl (s.sl.acts [.release])) n reading)
    · next receiving =>
      have reading : s.sl.phase ≠ .ended := by rw [receiving]; exact nofun
      exact (moves_reading (s.sl.acts [.release]) rfl rfl rfl reading).then
        (.loadFails (s := s.setSl (s.sl.acts [.release])) .noDevice reading)
    all_goals exact Moves.refl s
  · simp only [exec, execAddressPhaseAttempt] at answers
    split at answers
    · next n addressing =>
      have reading : s.sl.phase ≠ .ended := by rw [addressing]; exact nofun
      have acts : Moves s (s.setSl (s.sl.acts (addressActions p))) := moves_reading (s.sl.acts (addressActions p)) rfl rfl rfl reading
      split at answers <;> cases answers
      · exact acts.trans (moves_reading (s := s.setSl (s.sl.acts (addressActions p)))
          { s.sl.acts (addressActions p) with phase := .receiving } rfl rfl rfl reading)
      · exact acts.trans (moves_attemptFails (s := s.setSl (s.sl.acts (addressActions p))) n reading)
    all_goals
      cases answers
      exact Moves.refl s

/-! ## The vote bus -/

/-- The VBI, the epoch timer going on or stopped. -/
theorem moves_wire (s : State) (v : Vbi) (off : v.receiver = .off ↔ s.vbi.receiver = .off) (timer : v.epochTimer = s.vbi.epochTimer ∨ v.epochTimer = none) :
    Moves s (s.setVbi v) := by
  refine (Move.wire v off fun runs => .inl ?_).moves
  rcases timer with same | stopped
  · rwa [same] at runs
  · rw [stopped] at runs
    cases runs

theorem moves_rises (s : State) : Moves s (s.setVbi s.vbi.rises) := by
  refine moves_wire s s.vbi.rises ?_ (.inl rfl)
  show (if s.vbi.receiver = .blocked then Receiver.seeking else s.vbi.receiver) = .off ↔ _
  split
  · next blocked => simp [blocked]
  · rfl

/-- The events of the line and of the cells that deliver no record. -/
theorem moves_line (c : Instr) (line : c = .lowStretchBegin ∨ c = .shortStretchEnd ∨ c = .lineReleased ∨ c = .markerEnd ∨ c = .markerDriveRelease ∨
    c = .dominantCellRelease ∨ c = .cellBegin ∨ c = .cellSample) (answers : exec c s = .next t) : Moves s t := by
  rcases line with rfl | rfl | rfl | rfl | rfl | rfl | rfl | rfl
  · simp only [exec, execLowStretchBegin] at answers
    split at answers <;> cases answers
    · exact Moves.refl s
    · exact moves_wire s _ Iff.rfl (.inl rfl)
  · simp only [exec, execShortStretchEnd] at answers
    split at answers <;> cases answers
    · exact moves_rises s
    · exact Moves.refl s
  · simp only [exec, execLineReleased] at answers
    split at answers <;> cases answers
    · exact moves_rises s
    · exact Moves.refl s
  · simp only [exec, execMarkerEnd] at answers
    split at answers <;> cases answers
    · next marker => exact moves_wire s _ (by simp [marker]) (.inl rfl)
    · exact Moves.refl s
  · simp only [exec, execMarkerDriveRelease] at answers
    split at answers <;> cases answers
    · exact (moves_advanceTo s _).trans (moves_wire _ _ Iff.rfl (.inl rfl))
    all_goals exact Moves.refl s
  · simp only [exec, execDominantCellRelease] at answers
    split at answers <;> cases answers
    · exact (moves_advanceTo s _).trans (moves_wire _ _ Iff.rfl (.inl rfl))
    all_goals exact Moves.refl s
  · simp only [exec, execCellBegin] at answers
    split at answers <;> cases answers
    · exact (moves_advanceTo s _).trans (moves_wire _ _ Iff.rfl (.inl rfl))
    · exact Moves.refl s
  · simp only [exec, execCellSample] at answers
    split at answers <;> cases answers
    · exact (moves_advanceTo s _).trans (moves_wire _ _ Iff.rfl (.inl rfl))
    · exact Moves.refl s

theorem moves_chosen (s : State) : Moves s s.chosen := (Move.clock _ _ _).moves

theorem State.enterListening_receiver : s.enterListening.vbi.receiver ≠ .off := by
  show s.vbi.leaveOff.receiver ≠ .off
  unfold Vbi.leaveOff
  split
  · dsimp only
    split <;> exact nofun
  · assumption

theorem State.setApart_receiver (dest : Participation) (c : Cause) : (s.setApart dest c).vbi.receiver = s.vbi.receiver := by simp [State.setApart]

theorem State.syncLoss_receiver : s.syncLoss.vbi.receiver ≠ .off := by
  simpa [State.syncLoss] using State.enterListening_receiver

/-- A judgement does not turn the receiver off. -/
theorem Outcome.receiver {r : EpochRecord} {u : State} (outcome : Outcome r s u) (off : u.vbi.receiver = .off) : s.vbi.receiver = .off := by
  have same {v : State} (counts : v.Counts s) : v.vbi = s.vbi := by rw [counts.rest]
  cases outcome with
  | counts _ counts _ => rwa [same counts] at off
  | apart _ counts dest c _ => rwa [State.setApart_receiver, same counts] at off
  | sync _ _ _ => exact absurd off State.syncLoss_receiver
  | learns _ counts _ => rwa [State.moveTo_vbi, same counts] at off
  | founds _ counts _ => rwa [State.found_vbi, same counts] at off
  | applies _ counts _ => rwa [State.applyRecord_vbi, same counts] at off
  | joins _ counts _ => rwa [State.reconcile_vbi, State.joinStep_vbi, State.applyRecord_vbi, same counts] at off
  | falls _ counts _ _ => rwa [State.fall_vbi, same counts] at off
  | splits _ counts _ _ => rwa [State.applyRecord_vbi, State.fall_vbi, same counts] at off
  | inStep _ counts _ => rwa [State.applyRecord_vbi, same counts] at off

/-- A delivery does not turn the receiver off. -/
theorem State.deliver_receiver (r : EpochRecord) : (s.deliver r).vbi.receiver = .off → s.vbi.receiver = .off :=
  deliver_keeps (P := fun u => u.vbi.receiver = .off → s.vbi.receiver = .off) r (fun law => law)
    (fun _ _ outcome law off => law (outcome.receiver off)) (fun u b law off => law (by rwa [State.countHead_vbi] at off)) id

theorem moves_markerStart (answers : exec .markerStart s = .next t) : Moves s t := by
  simp only [exec, execMarkerStart] at answers
  split at answers
  · next starts =>
    have on : s.vbi.receiver ≠ .off := by
      intro off
      simp [off, Receiver.takesMarker] at starts
    have advanced := moves_advanceTo s (s.vbi.lowSince + markerRecognition)
    split at answers <;> cases answers
    · refine Relation.ReflTransGen.trans ?_ (moves_chosen _)
      unfold State.earlyMarker
      split
      · exact (advanced.then (.latch on)).then (.deliver (s := (s.advanceTo (s.vbi.lowSince + markerRecognition)).latch.epochBegins) _)
      · exact (advanced.then (.deliver (s := s.advanceTo (s.vbi.lowSince + markerRecognition)) _)).then
          (.latch fun off => on (State.deliver_receiver (s := s.advanceTo (s.vbi.lowSince + markerRecognition)) _ off))
    · exact advanced.then (.latch on)
  · cases answers
    exact Moves.refl s

/-- The VBI changes, and a record is delivered. -/
theorem moves_deliver (v : Vbi) (r : EpochRecord) (off : v.receiver = .off ↔ s.vbi.receiver = .off)
    (timer : v.epochTimer.isSome = true → s.vbi.epochTimer.isSome = true ∨ s.participation.timed = true) : Moves s ((s.setVbi v).deliver r) :=
  (Move.wire v off timer).moves.then (.deliver r)

/-- The events that deliver a record. -/
theorem moves_delivery (c : Instr) (delivers : c = .epochTimerExpiry ∨ c = .unheardMarker ∨ c = .longMarker ∨ c = .recordDelivery)
    (answers : exec c s = .next t) : Moves s t := by
  rcases delivers with rfl | rfl | rfl | rfl
  · simp only [exec, execEpochTimerExpiry] at answers
    split at answers
    · cases answers
      exact Moves.refl s
    · next due runs =>
      have advanced := moves_advanceTo s due
      split at answers <;> cases answers
      · exact advanced.trans (moves_wire _ _ Iff.rfl (.inr rfl))
      · exact advanced.trans (moves_wire _ _ Iff.rfl (.inr rfl))
      · exact advanced.trans (moves_deliver _ _ Iff.rfl fun _ => .inl (by rw [State.advanceTo_vbi, runs]; rfl))
      all_goals exact Moves.refl s
  · simp only [exec, execUnheardMarker] at answers
    split at answers <;> cases answers
    · next since _ =>
      refine (moves_advanceTo s (since + markerRecognition)).trans (moves_deliver _ _ Iff.rfl fun runs => ?_)
      by_cases timed : s.participation.timed = true
      · exact .inr timed
      · refine .inl ?_
        rwa [if_neg timed] at runs
    all_goals exact Moves.refl s
  · simp only [exec, execLongMarker] at answers
    split at answers <;> cases answers
    · next marker =>
      exact (moves_advanceTo s (s.vbi.lowSince + longMarkerTime)).trans (moves_deliver _ _ (by simp [marker]) fun runs => .inl runs)
    · exact Moves.refl s
  · simp only [exec, execRecordDelivery] at answers
    split at answers <;> cases answers
    · next closes =>
      have cells : s.vbi.receiver = .inCells := by
        simp only [Vbi.closes, Bool.and_eq_true, decide_eq_true_eq] at closes
        exact closes.1
      exact (moves_advanceTo s _).trans (moves_deliver _ _ (by simp [cells]) fun runs => .inl runs)
    · exact Moves.refl s

/-! ## The condition monitor -/

theorem moves_monitor (c : Instr) (monitor : (∃ l sf sd, c = .lineInputChange l sf sd) ∨ (∃ l, c = .holdoffExpiry l) ∨ c = .txactTransition ∨
    c = .silenceTimerExpiry) (answers : exec c s = .next t) : Moves s t := by
  rcases monitor with ⟨l, sf, sd, rfl⟩ | ⟨l, rfl⟩ | rfl | rfl
  · simp only [exec, execLineInputChange] at answers
    split at answers <;> cases answers
    · exact (Move.pins _).moves
    · exact (Move.pins _).moves.then (.filter l _)
  · simp only [exec, execHoldoffExpiry] at answers
    split at answers <;> cases answers
    · exact Moves.refl s
    · exact (moves_advanceTo s _).then (.filter l _)
  · simp only [exec, execTxactTransition] at answers
    split at answers <;> cases answers
    · next active => exact Moves.then (t := { s with pins := { s.pins with txact := !s.pins.txact } }) (Move.pins _).moves (.silence _ _ (.inl active))
    · exact (Move.pins _).moves
  · simp only [exec, execSilenceTimerExpiry] at answers
    split at answers <;> cases answers
    · exact Moves.refl s
    · next due runs => exact (moves_advanceTo s due).then (.silence _ _ (.inr (by rw [State.advanceTo_cm, runs]; rfl)))

/-! ## The engine's events -/

theorem State.running_of_atRecord {d : Directive} {i : Nat} {r : StepRecord} (stands : s.atRecord = some (d, i, r)) : s.ae.running.isSome = true := by
  unfold State.atRecord at stands
  split at stands
  · next running _ => rw [running]; rfl
  · cases stands

theorem moves_recordDone (d : Directive) (r : StepRecord) (running : s.ae.running.isSome = true) : Moves s (s.recordDone d r) := by
  have waited : Moves s { s with ae := { s.ae with waiting := .none } } := (Move.waited s.ae.retryCount s.ae.retryOwner s.ae.fallbackTaken).moves
  unfold State.recordDone
  simp only
  split
  · exact waited.then (.completes d running)
  · exact waited.then (.enters d _ running)

theorem moves_engine (c : Instr) (engine : c = .dwellExpiry ∨ c = .awaitTimeout ∨ ∃ levels, c = .feedbackChange levels)
    (answers : exec c s = .next t) : Moves s t := by
  rcases engine with rfl | rfl | ⟨levels, rfl⟩
  · simp only [exec, execDwellExpiry] at answers
    split at answers <;> cases answers
    · next stands => exact (moves_advanceTo s _).trans (moves_recordDone _ _ (State.running_of_atRecord stands))
    · exact Moves.refl s
  · simp only [exec, execAwaitTimeout] at answers
    split at answers
    · next due d i r waiting stands =>
      have running := State.running_of_atRecord stands
      have advanced := moves_advanceTo s due
      split_ifs at answers <;> cases answers
      · exact (advanced.then (.waited _ s.ae.retryOwner s.ae.fallbackTaken)).then (.enters d _ running)
      · exact (advanced.then (.waited s.ae.retryCount _ _)).then (.enters d _ running)
      · exact (advanced.then (.waited s.ae.retryCount _ s.ae.fallbackTaken)).then (.fault _)
    · cases answers
      exact Moves.refl s
  · simp only [exec, execFeedbackChange] at answers
    split at answers
    · next due d i r waiting stands =>
      have running := State.running_of_atRecord stands
      have changed : Moves s { s with pins := { s.pins with fb := levels } } := (Move.pins _).moves
      split at answers <;> cases answers
      · have waited := changed.then (.waited s.ae.retryCount none s.ae.fallbackTaken)
        unfold State.recordDone
        simp only
        split
        · exact waited.then (.completes d running)
        · exact waited.then (.enters d _ running)
      · exact changed
    · cases answers
      exact (Move.pins _).moves

/-! ## Every command -/

/-- Every command but the full reset is a chain of moves. -/
theorem moves_of_exec (c : Instr) (keeps : c ≠ .fullReset) (answers : exec c s = .next t) : Moves s t := by
  cases c
  case fullReset => exact absurd rfl keeps
  case fullResetRelease p =>
    simp only [exec, execFullResetRelease] at answers
    split at answers <;> cases answers
    · next reset =>
      have released : Moves s (s.setMp (s.mp.released p.scsLow)) := moves_port s _ rfl rfl rfl rfl rfl rfl rfl rfl
      exact released.then (.release p.straps reset)
    · exact Moves.refl s
  case loadReadStart => exact moves_loader _ (.inl rfl) answers
  case addressPhaseAttempt p => exact moves_loader _ (.inr (.inr (.inr ⟨p, rfl⟩))) answers
  case addressAttemptRetry => exact moves_loader _ (.inr (.inl rfl)) answers
  case clockStretchTimeout => exact moves_loader _ (.inr (.inr (.inl rfl))) answers
  case imageByteReceived b => exact moves_imageByteReceived b answers
  case epochTimerExpiry => exact moves_delivery _ (.inl rfl) answers
  case unheardMarker => exact moves_delivery _ (.inr (.inl rfl)) answers
  case longMarker => exact moves_delivery _ (.inr (.inr (.inl rfl))) answers
  case recordDelivery => exact moves_delivery _ (.inr (.inr (.inr rfl))) answers
  case markerStart => exact moves_markerStart answers
  case lowStretchBegin => exact moves_line _ (by simp) answers
  case shortStretchEnd => exact moves_line _ (by simp) answers
  case lineReleased => exact moves_line _ (by simp) answers
  case markerEnd => exact moves_line _ (by simp) answers
  case markerDriveRelease => exact moves_line _ (by simp) answers
  case dominantCellRelease => exact moves_line _ (by simp) answers
  case cellBegin => exact moves_line _ (by simp) answers
  case cellSample => exact moves_line _ (by simp) answers
  case commandExpiry => cases answers; exact Move.expireHead.moves
  case wtrTimerExpiry =>
    simp only [exec, execWtrTimerExpiry] at answers
    split at answers <;> cases answers
    · exact Moves.refl s
    · next due runs => exact (moves_advanceTo s due).then (.wtrExpires (by rw [State.advanceTo_cu, runs]; rfl))
  case discardTimerExpiry => exact moves_discardTimerExpiry answers
  case dwellExpiry => exact moves_engine _ (.inl rfl) answers
  case awaitTimeout => exact moves_engine _ (.inr (.inl rfl)) answers
  case feedbackChange levels => exact moves_engine _ (.inr (.inr ⟨levels, rfl⟩)) answers
  case lineInputChange l sf sd => exact moves_monitor _ (.inl ⟨l, sf, sd, rfl⟩) answers
  case holdoffExpiry l => exact moves_monitor _ (.inr (.inl ⟨l, rfl⟩)) answers
  case txactTransition => exact moves_monitor _ (.inr (.inr (.inl rfl))) answers
  case silenceTimerExpiry => exact moves_monitor _ (.inr (.inr (.inr rfl))) answers
  case windowDataRead w => cases answers; exact moves_portRead s _
  case snapdataRead => cases answers; exact moves_portRead s _
  case groupCapture g =>
    simp only [exec, execGroupCapture] at answers
    split at answers
    · split at answers
      · cases answers
        exact moves_beginRead s _
      · split at answers <;> cases answers
        · exact moves_readOn s _
        · exact Moves.refl s
    · cases answers
      exact Moves.refl s
  case commandByteReceived b => exact moves_commandByteReceived b answers
  case transactionEnd => cases answers; exact moves_port s _ rfl rfl rfl rfl rfl rfl rfl rfl
  all_goals exact moves_of_write_access rfl answers

/-- Every step but the full reset is a chain of moves. -/
theorem moves_of_step (keeps : s.pending.head? ≠ some .fullReset) (answers : step s = .next t) : Moves s t := by
  unfold step at answers
  split at answers
  · cases answers
    exact (Move.clock _ _ _).moves
  · next c rest pending =>
    have other : c ≠ .fullReset := fun reset => keeps (by rw [pending, reset]; rfl)
    exact (Move.clock s.now s.choices rest).moves.trans (moves_of_exec c other answers)

/-- The state a full reset leaves. -/
def State.FullyReset (t : State) : Prop :=
  ∃ (low : Bool) (since : Ticks) (deaf : Bool) (pins : Pins) (now : Ticks) (choices : Nat) (pending : List Instr),
    t = State.afterFullReset low since deaf pins now choices pending

theorem fullyReset_of_step (resets : s.pending.head? = some .fullReset) (answers : step s = .next t) : t.FullyReset := by
  unfold step at answers
  split at answers
  · next pending => rw [pending] at resets; cases resets
  · next c rest pending =>
    rw [pending] at resets
    cases resets
    cases answers
    exact ⟨_, _, _, _, _, _, _, rfl⟩

/-- A law that holds after a full reset and that every move keeps is kept by every step. -/
theorem step_keeps {P : State → Prop} (reset : ∀ {t : State}, t.FullyReset → P t) (kept : ∀ {s t : State}, Move s t → P s → P t)
    (law : P s) (answers : step s = .next t) : P t := by
  by_cases resets : s.pending.head? = some .fullReset
  · exact reset (fullyReset_of_step resets answers)
  · exact (moves_of_step resets answers).keep kept law

end

end Sys2Proof.Machine
end

section
/-! SUPPORT. The engine's accounts (R138, R139, R146, R153), kept by every move: the records a chain enters, the queue run to its end, the offers, and what a
delivered record asks of the engine. -/

namespace Sys2Proof.Machine

open Sys2Proof.Safety

/-! ## What a delivery and a reconciliation ask of the engine -/

/-- A change outside the engine, the monitor and the loader, or an offer. -/
inductive Ask (s : State) : State → Prop where
  | still (t : State) (ae : t.ae = s.ae) (cm : t.cm = s.cm) (sl : t.sl = s.sl) : Ask s t
  | offer (d : Directive) : Ask s (s.offer d)

/-- A chain of offers, with changes elsewhere between them. -/
abbrev Asks : State → State → Prop := Relation.ReflTransGen Ask

section
variable {s t u : State}

theorem Asks.still (ae : t.ae = s.ae) (cm : t.cm = s.cm) (sl : t.sl = s.sl) : Asks s t := .single (.still t ae cm sl)

theorem Asks.of_offer (d : Directive) : Asks s (s.offer d) := .single (.offer d)

/-- A law that offers keep, and that reads the engine, the monitor and the loader alone, is kept by a chain of offers. -/
theorem Asks.keep {P : State → Prop} (still : ∀ {s t : State}, t.ae = s.ae → t.cm = s.cm → t.sl = s.sl → P s → P t)
    (offer : ∀ {s : State} (d : Directive), P s → P (s.offer d)) (asks : Asks s t) (law : P s) : P t := by
  induction asks with
  | refl => exact law
  | tail _ ask ih =>
    cases ask with
    | still _ ae cm sl => exact still ae cm sl ih
    | offer d => exact offer d ih

theorem asks_offerAll (l : List Directive) : Asks s (s.offerAll l) := by
  induction l generalizing s with
  | nil => exact .refl
  | cons d l ih => exact (Asks.of_offer d).trans ih

theorem asks_setRequested (a : ActState) : Asks s (s.setRequested a) := Asks.still rfl rfl rfl

theorem asks_directiveStage : Asks s s.directiveStage := by
  unfold State.directiveStage
  split
  · exact .refl
  · exact (asks_setRequested _).trans (asks_offerAll _)

theorem asks_realign : Asks s s.realign := by
  unfold State.realign
  split
  · exact (asks_setRequested .released).trans (Asks.of_offer .releaseAll)
  · exact asks_setRequested _

theorem asks_offerWithdraw : Asks s s.offerWithdraw := Asks.of_offer _

theorem asks_reconcile : Asks s s.reconcile := by
  unfold State.reconcile
  split
  · exact asks_realign.trans asks_directiveStage
  · exact asks_realign
  iterate 3
    · split
      · exact .refl
      · exact asks_offerWithdraw
  all_goals exact asks_setRequested _

theorem asks_setApart (dest : Participation) (c : Cause) : Asks s (s.setApart dest c) := by
  refine Relation.ReflTransGen.trans (Asks.still ?_ ?_ ?_) asks_offerWithdraw <;> simp

theorem asks_syncLoss : Asks s s.syncLoss := by
  refine Relation.ReflTransGen.trans (Asks.still ?_ ?_ ?_) asks_offerWithdraw <;> simp

theorem asks_applyRecord (full : Bool) (r : EpochRecord) : Asks s (s.applyRecord full r) := by
  have table : Asks s { s with gtu := (s.applyTable full r).1 } := Asks.still rfl rfl rfl
  cases full with
  | true =>
    refine (table.trans asks_directiveStage).trans (Asks.still ?_ ?_ ?_) <;> simp [State.applyRecord]
  | false => refine table.trans (Asks.still ?_ ?_ ?_) <;> simp [State.applyRecord]

theorem asks_found (r : EpochRecord) : Asks s (s.found r) := by
  refine Relation.ReflTransGen.trans (Asks.still ?_ ?_ ?_) asks_reconcile <;> simp

theorem asks_joinStep : Asks s s.joinStep := Asks.still (by simp) (by simp) (by simp)

theorem asks_fall (c : Cause) : Asks s (s.fall c) := Asks.still (by simp) (by simp) (by simp)

theorem asks_outcome {r : EpochRecord} (outcome : Outcome r s u) : Asks s u := by
  have counted {v : State} (counts : v.Counts s) : Asks s v := Asks.still (by rw [counts.rest]) (by rw [counts.rest]) (by rw [counts.rest])
  cases outcome with
  | counts _ counts _ => exact counted counts
  | apart _ counts _ _ _ => exact (counted counts).trans (asks_setApart _ _)
  | sync _ counts _ => exact (counted counts).trans asks_syncLoss
  | learns _ counts _ => exact (counted counts).trans (Asks.still rfl rfl rfl)
  | founds _ counts _ => exact (counted counts).trans (asks_found r)
  | applies _ counts _ => exact (counted counts).trans (asks_applyRecord false r)
  | joins _ counts _ => exact (((counted counts).trans (asks_applyRecord false r)).trans asks_joinStep).trans asks_reconcile
  | falls _ counts _ _ => exact (counted counts).trans (asks_fall _)
  | splits _ counts _ _ => exact ((counted counts).trans (asks_fall _)).trans (asks_applyRecord false r)
  | inStep _ counts _ => exact (counted counts).trans (asks_applyRecord true r)

/-- All a delivered record does to the engine is a chain of offers. -/
theorem asks_deliver (r : EpochRecord) : Asks s (s.deliver r) :=
  deliver_keeps (P := Asks s) r (fun asks => asks.trans (Asks.still rfl rfl rfl)) (fun _ _ outcome asks => asks.trans (asks_outcome outcome))
    (fun _ _ asks => asks.trans (Asks.still (by simp) (by simp) (by simp))) .refl

end

/-! ## The engine's accounts -/

/-- The accounts of the engine, and UNKNOWN in its out states. -/
structure Ae.Balanced (a : Ae) : Prop where
  debt : a.debt = a.queue.length + (if a.running.isSome then 1 else 0)
  room : a.queue.length ≤ queueDepth
  moving : a.running.isSome = a.engine.moving
  empty : a.engine = .idle ∨ a.engine = .stopped ∨ a.engine = .faulted → a.queue = []
  waiting : a.waiting ≠ .none → a.running.isSome = true
  driven : a.outputs = a.driven.headD 0#12
  out : a.engine.out = true → a.actuated = .unknown

theorem balanced_iff {s : State} : s.ae.Balanced ↔ EngineAccounts s ∧ OutIsUnknown s :=
  ⟨fun ⟨debt, room, moving, empty, waiting, driven, out⟩ => ⟨⟨debt, room, moving, empty, waiting, driven⟩, out⟩,
    fun ⟨⟨debt, room, moving, empty, waiting, driven⟩, out⟩ => ⟨debt, room, moving, empty, waiting, driven, out⟩⟩

/-- The engine is about to run `l`: no sequence is in progress, and the debt is what `l` owes. -/
structure Ae.Ready (l : List Directive) (a : Ae) : Prop where
  debt : a.debt = l.length
  room : l.length ≤ queueDepth
  running : a.running = none
  waiting : a.waiting = .none
  driven : a.outputs = a.driven.headD 0#12

/-- What entering records leaves of the accounts. -/
structure Ae.SameAccounts (a b : Ae) : Prop where
  debt : b.debt = a.debt
  queue : b.queue = a.queue
  running : b.running = a.running
  engine : b.engine = a.engine
  driven : a.outputs = a.driven.headD 0#12 → b.outputs = b.driven.headD 0#12

theorem Ae.SameAccounts.rfl {a : Ae} : a.SameAccounts a := ⟨Eq.refl _, Eq.refl _, Eq.refl _, Eq.refl _, id⟩

theorem Ae.SameAccounts.trans {a b c : Ae} (first : a.SameAccounts b) (second : b.SameAccounts c) : a.SameAccounts c :=
  ⟨second.debt.trans first.debt, second.queue.trans first.queue, second.running.trans first.running, second.engine.trans first.engine,
    fun driven => second.driven (first.driven driven)⟩

theorem Ae.sameAccounts_drives (o : BitVec 12) (a : Ae) : a.SameAccounts (a.drives o) := ⟨rfl, rfl, rfl, rfl, fun _ => rfl⟩

theorem Ae.sameAccounts_loadRetry (i : Nat) (r : StepRecord) (a : Ae) : a.SameAccounts (a.loadRetry i r) := by
  unfold Ae.loadRetry
  split <;> exact ⟨rfl, rfl, rfl, rfl, id⟩

theorem Ae.sameAccounts_act (fb : BitVec 8) (now : Ticks) (i : Nat) (r : StepRecord) (a : Ae) : a.SameAccounts (a.act fb now i r).1 := by
  unfold Ae.act
  split
  · exact Ae.sameAccounts_drives _ a
  · exact Ae.sameAccounts_drives _ a
  · exact ⟨rfl, rfl, rfl, rfl, id⟩
  · have loaded := Ae.sameAccounts_loadRetry i r a
    dsimp only
    split
    · exact loaded.trans ⟨rfl, rfl, rfl, rfl, id⟩
    · exact loaded.trans ⟨rfl, rfl, rfl, rfl, id⟩
  · exact .rfl

theorem Ae.sameAccounts_enterUpTo (steps : List StepRecord) (fb : BitVec 8) (now : Ticks) (n i : Nat) (a : Ae) :
    a.SameAccounts (a.enterUpTo steps fb now n i).1 := by
  induction n generalizing i a with
  | zero => exact .rfl
  | succ n ih =>
    have counted : a.SameAccounts { a with stepCount := a.stepCount + 1, stepIndex := some i } := ⟨rfl, rfl, rfl, rfl, id⟩
    cases record : steps[i]? with
    | none => simpa only [Ae.enterUpTo, record] using counted
    | some r =>
      have acts := counted.trans (Ae.sameAccounts_act fb now i r { a with stepCount := a.stepCount + 1, stepIndex := some i })
      obtain ⟨b, result⟩ : ∃ b, ({ a with stepCount := a.stepCount + 1, stepIndex := some i } : Ae).act fb now i r = b := ⟨_, rfl⟩
      obtain ⟨b, done⟩ := b
      rw [result] at acts
      cases done with
      | false => rwa [Ae.enterUpTo_waits record fb now n a b result]
      | true =>
        rw [Ae.enterUpTo_done record fb now n a b result]
        split
        · exact acts
        · exact acts.trans (ih r.nextIndex.toNat b)

theorem Ae.sameAccounts_enter (steps : List StepRecord) (fb : BitVec 8) (now : Ticks) (i : Nat) (a : Ae) :
    a.SameAccounts (a.enter steps fb now i).1 := Ae.sameAccounts_enterUpTo _ _ _ _ _ _

/-- A sequence in progress that has entered records still balances. -/
theorem Ae.Balanced.same {a b : Ae} (law : a.Balanced) (running : a.running.isSome = true) (same : a.SameAccounts b) : b.Balanced := by
  obtain ⟨debt, queue, run, engine, driven⟩ := same
  have moves : a.engine.moving = true := law.moving ▸ running
  refine ⟨by rw [debt, queue, run]; exact law.debt, by rw [queue]; exact law.room, by rw [run, engine]; exact law.moving, ?_,
    fun _ => by rw [run]; exact running, driven law.driven, ?_⟩
  · rw [engine, queue]
    exact law.empty
  · intro out
    rw [engine] at out
    cases e : a.engine <;> simp_all [Engine.moving, Engine.out]

section
variable {s : State}

theorem balanced_engineFault (f : FaultRecord) (driven : s.ae.outputs = s.ae.driven.headD 0#12) : (s.engineFault f).ae.Balanced := by
  rw [State.engineFault_ae]
  exact ⟨rfl, Nat.zero_le _, rfl, fun _ => rfl, fun waits => absurd rfl waits, driven, fun _ => rfl⟩

/-- A sequence that completes leaves the engine about to run its queue. -/
theorem ready_completed (d : Directive) {l : List Directive} (debt : s.ae.debt = l.length + 1) (room : l.length ≤ queueDepth)
    (driven : s.ae.outputs = s.ae.driven.headD 0#12) : (s.completed d).ae.Ready l := by
  rw [State.completed_ae]
  exact ⟨by rw [debt]; rfl, room, rfl, rfl, driven⟩

/-- The queue run to its end balances. -/
theorem balanced_runQueue {l : List Directive} (ready : s.ae.Ready l) : (s.runQueue l).ae.Balanced := by
  induction l generalizing s with
  | nil =>
    rw [State.runQueue_nil, State.engineRests_ae]
    obtain ⟨debt, -, running, waiting, driven⟩ := ready
    refine ⟨?_, Nat.zero_le _, ?_, fun _ => rfl, fun waits => absurd waiting waits, driven, fun out => by cases out⟩
    · show s.ae.debt = 0 + if s.ae.running.isSome then 1 else 0
      rw [debt, running]
      rfl
    · show s.ae.running.isSome = false
      rw [running]
      rfl
  | cons d rest ih =>
    obtain ⟨debt, room, running, waiting, driven⟩ := ready
    have left : rest.length ≤ queueDepth := Nat.le_of_succ_le room
    cases entry : s.dirEntry d with
    | none =>
      rw [State.runQueue_none s d rest entry]
      exact ih (ready_completed (s := { s with ae := { s.ae with queue := rest } }) d debt left driven)
    | some i =>
      have begun : (s.sequenceBegins d rest).ae.Balanced := by
        rw [State.sequenceBegins_ae]
        exact ⟨debt, left, rfl, fun still => by simp at still, fun _ => rfl, driven, fun out => by cases out⟩
      have runs : (s.sequenceBegins d rest).ae.running.isSome = true := by rw [State.sequenceBegins_ae]; rfl
      have same := Ae.sameAccounts_enter s.steps s.pins.fb s.now i (s.sequenceBegins d rest).ae
      obtain ⟨⟨a, ending⟩, enters⟩ : ∃ e, (s.sequenceBegins d rest).ae.enter s.steps s.pins.fb s.now i = e := ⟨_, rfl⟩
      rw [enters] at same
      have balanced : a.Balanced := begun.same runs same
      have equations := State.runQueue_of_enter (rest := rest) (a := a) entry
      cases ending with
      | waits =>
        rw [equations.1 enters]
        exact balanced
      | loops j =>
        rw [equations.2.1 j enters]
        exact balanced_engineFault _ balanced.driven
      | completes =>
        rw [equations.2.2 enters]
        have owed : a.debt = rest.length + 1 := by
          rw [same.debt, State.sequenceBegins_ae]
          exact debt
        exact ih (ready_completed (s := { s.sequenceBegins d rest with ae := a }) d owed left balanced.driven)

/-- The sequence in progress completes. -/
theorem balanced_sequenceCompletes (d : Directive) (law : s.ae.Balanced) (running : s.ae.running.isSome = true) :
    (s.sequenceCompletes d).ae.Balanced := by
  have debt : s.ae.debt = s.ae.queue.length + 1 := by rw [law.debt, if_pos running]
  have ready := ready_completed d debt law.room law.driven
  by_cases holding : s.ae.engine = .holding
  · rw [State.sequenceCompletes_holding holding, State.judgeMonitor_ae, State.raise_ae]
    show ({ (s.completed d).ae with engine := .held } : Ae).Balanced
    rw [State.completed_ae]
    exact ⟨by rw [debt]; rfl, law.room, rfl, fun still => by simp at still, fun waits => absurd rfl waits, law.driven, fun out => by cases out⟩
  · rw [State.sequenceCompletes_not_holding holding]
    exact balanced_runQueue ready

/-- The sequence in progress enters a record. -/
theorem balanced_sequenceEnters (d : Directive) (i : Nat) (law : s.ae.Balanced) (running : s.ae.running.isSome = true) :
    (s.sequenceEnters d i).ae.Balanced := by
  have same := Ae.sameAccounts_enter s.steps s.pins.fb s.now i s.ae
  obtain ⟨⟨a, ending⟩, enters⟩ : ∃ e, s.ae.enter s.steps s.pins.fb s.now i = e := ⟨_, rfl⟩
  rw [enters] at same
  have balanced : a.Balanced := law.same running same
  have equations := State.sequenceEnters_of_enter (s := s) (d := d) (i := i) (a := a)
  cases ending with
  | waits =>
    rw [equations.1 enters]
    exact balanced
  | loops j =>
    rw [equations.2.1 j enters]
    exact balanced_engineFault _ balanced.driven
  | completes =>
    rw [equations.2.2 enters]
    exact balanced_sequenceCompletes (s := { s with ae := a }) d balanced (by rw [same.running]; exact running)

/-- Offers keep the accounts. -/
theorem balanced_offer (d : Directive) (law : s.ae.Balanced) : (s.offer d).ae.Balanced := by
  by_cases idle : s.ae.engine = .idle
  · rw [State.offer_idle s d idle]
    have running : s.ae.running = none := by
      have still := law.moving
      rw [idle] at still
      exact Option.not_isSome_iff_eq_none.mp (by rw [still]; decide)
    have waiting : s.ae.waiting = .none := by
      by_contra waits
      exact absurd (law.waiting waits) (by simp [running])
    refine balanced_runQueue ⟨?_, show 1 ≤ 4 by decide, running, waiting, law.driven⟩
    show s.ae.debt + 1 = 1
    rw [law.debt, law.empty (.inl idle), running]
    rfl
  by_cases out : s.ae.engine.out = true
  · rwa [State.offer_out s d out]
  have queues : s.ae.engine.queues = true := by cases e : s.ae.engine <;> simp_all [Engine.out, Engine.queues]
  have rest (still : s.ae.engine = .idle ∨ s.ae.engine = .stopped ∨ s.ae.engine = .faulted) : False := by
    rcases still with e | e | e <;> simp_all [Engine.out]
  cases coalesces : s.ae.coalesces d with
  | true =>
    rw [State.offer_coalesces s d queues coalesces]
    have some_queued : s.ae.queue ≠ [] := by
      intro empty
      simp [Ae.coalesces, empty] at coalesces
    have positive := List.length_pos_of_ne_nil some_queued
    have debt := law.debt
    refine ⟨?_, ?_, law.moving, fun still => (rest still).elim, law.waiting, law.driven, fun o => absurd o out⟩
    · show s.ae.debt - 1 = s.ae.queue.dropLast.length + if s.ae.running.isSome then 1 else 0
      rw [List.length_dropLast]
      omega
    · show s.ae.queue.dropLast.length ≤ queueDepth
      rw [List.length_dropLast]
      exact (Nat.sub_le _ _).trans law.room
  | false =>
    by_cases room : s.ae.queue.length < queueDepth
    · rw [State.offer_appends s d queues coalesces room]
      have debt := law.debt
      refine ⟨?_, ?_, law.moving, fun still => (rest still).elim, law.waiting, law.driven, fun o => absurd o out⟩
      · show s.ae.debt + 1 = (s.ae.queue ++ [d]).length + if s.ae.running.isSome then 1 else 0
        rw [List.length_append, List.length_singleton]
        omega
      · show (s.ae.queue ++ [d]).length ≤ queueDepth
        rw [List.length_append, List.length_singleton]
        exact room
    · rw [State.offer_overflows s d queues coalesces room]
      exact balanced_engineFault _ law.driven

theorem balanced_asks {t : State} (asks : Asks s t) (law : s.ae.Balanced) : t.ae.Balanced :=
  asks.keep (P := fun s => s.ae.Balanced) (fun ae _ _ law => by rwa [ae]) (fun d law => balanced_offer d law) law

/-- Nothing runs in an engine that stands still. -/
theorem Ae.Balanced.ready {a : Ae} (law : a.Balanced) (still : a.engine.moving = false) : a.Ready a.queue := by
  have running : a.running = none := Option.not_isSome_iff_eq_none.mp (by rw [law.moving, still]; decide)
  refine ⟨by rw [law.debt, running]; rfl, law.room, running, ?_, law.driven⟩
  by_contra waits
  have runs := law.waiting waits
  rw [running] at runs
  cases runs

/-- An engine whose sequence is abandoned. -/
theorem balanced_engineSoftReset (law : s.ae.Balanced) : s.engineSoftReset.ae.Balanced := by
  rw [State.engineSoftReset, State.judgeMonitor_ae]
  exact ⟨rfl, Nat.zero_le _, rfl, fun _ => rfl, fun waits => absurd rfl waits, law.driven, fun out => by cases out⟩

theorem balanced_engineStop (law : s.ae.Balanced) : s.engineStop.ae.Balanced := by
  rw [State.engineStop, State.judgeMonitor_ae]
  exact ⟨rfl, Nat.zero_le _, rfl, fun _ => rfl, fun waits => absurd rfl waits, law.driven, fun _ => rfl⟩

theorem asks_softWithdraw : Asks s s.softWithdraw := by
  unfold State.softWithdraw
  split
  · exact .refl
  · exact Asks.of_offer _

end

/-- HOLD and RESUME exchange states that owe the same. -/
theorem Ae.Balanced.exchanges {a : Ae} {e : Engine} (law : a.Balanced) (exchanges : a.engine.Exchanges e) : ({ a with engine := e } : Ae).Balanced := by
  obtain ⟨debt, room, moving, empty, waiting, driven, out⟩ := law
  rcases exchanges with ⟨before, rfl⟩ | ⟨before, rfl⟩ | ⟨before, rfl⟩ <;> rw [before] at moving <;>
    exact ⟨debt, room, moving, fun still => by simp at still, waiting, driven, fun out => by cases out⟩

/-- An engine taken back from an out state owes nothing. -/
theorem Ae.Balanced.restart {a : Ae} (law : a.Balanced) (out : a.engine.out = true) : ({ a with engine := .idle } : Ae).Balanced := by
  obtain ⟨debt, room, moving, empty, waiting, driven, -⟩ := law
  have still : a.engine = .stopped ∨ a.engine = .faulted := by cases e : a.engine <;> simp_all [Engine.out]
  have halted : a.engine.moving = false := by rcases still with e | e <;> rw [e] <;> rfl
  exact ⟨debt, room, moving.trans halted, fun _ => empty (.inr still), waiting, driven, fun out => by cases out⟩

section
variable {s : State}

theorem State.submit_ae (k : Nat) : (s.submit k).2.ae = s.ae := by
  unfold State.submit
  split
  · rfl
  · split
    · rfl
    · split <;> rfl

theorem State.acknowledge_ae (x : Fin 16) : (s.acknowledge x).2.ae = s.ae := by
  unfold State.acknowledge
  split
  · rfl
  · split <;> rfl

/-- The engine's part of a soft reset, whatever the order of the parts. -/
theorem State.cardSoftReset_ae (clearsFirst : Bool) : (s.cardSoftReset clearsFirst).ae = s.engineSoftReset.ae := by
  cases clearsFirst <;> simp [State.cardSoftReset, State.engineSoftReset]

end

/-- Every move keeps the engine's accounts. -/
theorem Move.balanced {s t : State} (move : Move s t) (law : s.ae.Balanced) : t.ae.Balanced := by
  cases move with
  | deliver r => exact balanced_asks (asks_deliver r) law
  | freeze src f _ _ =>
    rw [State.freeze_eq]
    exact balanced_offer _ (by simpa [State.frozenBeforeStart] using law)
  | waited c o f =>
    obtain ⟨debt, room, moving, empty, -, driven, out⟩ := law
    exact ⟨debt, room, moving, empty, fun waits => absurd rfl waits, driven, out⟩
  | enters d i running => exact balanced_sequenceEnters d i law running
  | completes d running => exact balanced_sequenceCompletes d law running
  | fault f => exact balanced_engineFault f law.driven
  | softReset clearsFirst _ =>
    refine balanced_asks asks_softWithdraw ?_
    rw [State.participationSoftReset_ae, State.cardSoftReset_ae]
    exact balanced_engineSoftReset law
  | setEngine e exchanges => exact law.exchanges exchanges
  | resume held => exact balanced_runQueue (law.ready (by rw [held]; rfl))
  | restart out => exact balanced_asks asks_reconcile (law.restart out)
  | stop => exact balanced_engineStop law
  | release straps _ => simpa using law
  | loadFails c _ => simpa using law
  | filter n f => simpa using law
  | silence timer silent _ => simpa using law
  | submit k => rwa [State.submit_ae]
  | acknowledge x => rwa [State.acknowledge_ae]
  | expireHead => simpa using law
  | latch _ => simpa using law
  | rejoin _ => simpa using law
  | _ => exact law

theorem State.FullyReset.balanced {t : State} (reset : t.FullyReset) : t.ae.Balanced := by
  obtain ⟨low, since, deaf, pins, now, choices, pending, rfl⟩ := reset
  exact ⟨rfl, Nat.zero_le _, rfl, fun _ => rfl, fun waits => absurd rfl waits, rfl, fun out => by cases out⟩

/-- Settles O58, by the moves. -/
theorem stepKeepsTheEngineAccounts : Obligations.StepKeepsTheEngineAccounts := by
  intro s t accounts out steps
  have law : s.ae.Balanced := balanced_iff.mpr ⟨accounts, out⟩
  exact balanced_iff.mp (step_keeps (P := fun s => s.ae.Balanced) State.FullyReset.balanced Move.balanced law steps)

end Sys2Proof.Machine
end

section
/-! SUPPORT. The judgement of a delivered record (R45 to R54), an equation for each of its outcomes, and what each outcome makes of the participation
controller. -/

namespace Sys2Proof.Machine

open Sys2Proof.Safety

/-- The clean epochs counted so far, replaced. -/
def State.countClean (n : Nat) (s : State) : State := { s with pc := { s.pc with cleanCount := n } }

/-- The counters of LEARNING, replaced. -/
def State.countLearning (n : Nat × Nat) (s : State) : State := { s with pc := { s.pc with verifyCount := n.1, noNarratorCount := n.2 } }

/-- The counters of LEARNING after a framed record that isolates nobody. -/
def State.learned (r : EpochRecord) (s : State) : Nat × Nat :=
  learnCounters r.mirrorVerdict (r.mirrorValue.map fun kw => s.gtu.compare kw.1 kw.2) s.pc.verifyCount s.pc.noNarratorCount

section
variable {s : State} {r : EpochRecord}

/-! ## The delivery -/

theorem State.deliver_pc (timed : s.participation.timed = true) : (s.deliver r).pc = ((s.seen r).judge r).pc := by
  rcases timed_iff.mp timed with p | g
  · rw [State.deliver_listening p]
  · rw [State.deliver_inGroup g, State.countHead_pc]

/-! ## The judgement -/

theorem EpochRecord.foreign_iff (p : Pos) : r.foreign p = true ↔
    ∃ f : Fin 5, cellAt r.cells (16 * f.val + p.val) = true ∧ cellAt r.wrote (16 * f.val + p.val) = false := by
  simp [EpochRecord.foreign, Fin.exists_fin_succ]

theorem State.judge_drive (fault : r.driveFault = true) : s.judge r = s.setApart .isolated .drive := by
  simp [State.judge, fault]

theorem State.judge_foreign (drive : r.driveFault = false) (foreign : r.foreign s.sl.ownPos = true) : s.judge r = s.setApart .conflict .position := by
  simp [State.judge, drive, foreign]

section
variable (drive : r.driveFault = false) (own : r.foreign s.sl.ownPos = false)
include drive own

theorem State.judge_sync (g : s.participation.inGroup = true) (faulted : 3 ≤ (s.enterHistory r).faultedVerdicts) :
    s.judge r = (s.enterHistory r).syncLoss := by
  have stays : (s.enterHistory r).participation = s.participation := rfl
  simp [State.judge, drive, own, stays, g, faulted]

theorem State.judge_listening (p : s.participation = .listening) : s.judge r = (s.enterHistory r).judgeListening r := by
  have stays : (s.enterHistory r).participation = .listening := p
  simp [State.judge, drive, own, stays, Participation.inGroup]

theorem State.judge_learning (few : (s.enterHistory r).faultedVerdicts < 3) (p : s.participation = .learning) :
    s.judge r = (s.enterHistory r).judgeLearning r := by
  have stays : (s.enterHistory r).participation = .learning := p
  simp [State.judge, drive, own, stays, Nat.not_le.mpr few]

theorem State.judge_inStep (few : (s.enterHistory r).faultedVerdicts < 3) (p : s.participation = .inStep) :
    s.judge r = (s.enterHistory r).judgeInStep r := by
  have stays : (s.enterHistory r).participation = .inStep := p
  simp [State.judge, drive, own, stays, Nat.not_le.mpr few]

end

/-! ## LISTENING (R50) -/

theorem State.judgeListening_dirty (dirty : r.faults.any = true ∨ r.presence s.sl.ownPos = true) : s.judgeListening r = s.countClean 0 := by
  rcases dirty with d | d <;> simp [State.judgeListening, EpochRecord.framed, d, State.countClean]

section
variable (framed : r.faults.any = false) (clean : r.presence s.sl.ownPos = false)
include framed clean

theorem State.judgeListening_counts (few : s.pc.cleanCount + 1 < 8) : s.judgeListening r = s.countClean (s.pc.cleanCount + 1) := by
  simp only [State.judgeListening, EpochRecord.framed, framed, clean, Bool.not_false, Bool.not_true, Bool.or_self, Bool.false_eq_true, if_false, few, if_true]
  rfl

theorem State.judgeListening_learns (many : 8 ≤ s.pc.cleanCount + 1)
    (agrees : r.digestVerdict = .noNarrator ∨ r.digestVerdict = .consistent ∧ r.digestTrue = s.ownDigest) :
    s.judgeListening r = (s.countClean (s.pc.cleanCount + 1)).zeroLearning.moveTo .learning := by
  have agreement : (decide (r.digestVerdict = .noNarrator) || decide (r.digestVerdict = .consistent) && decide (r.digestTrue = s.ownDigest)) = true := by
    simpa using agrees
  simp only [State.judgeListening, EpochRecord.framed, framed, clean, Bool.not_false, Bool.not_true, Bool.or_self, Bool.false_eq_true, if_false,
    Nat.not_lt.mpr many, agreement, if_true]
  rfl

theorem State.judgeListening_isolates (many : 8 ≤ s.pc.cleanCount + 1) (narrated : r.digestVerdict ≠ .noNarrator)
    (differs : r.digestVerdict = .consistent → r.digestTrue ≠ s.ownDigest) :
    s.judgeListening r = (s.countClean (s.pc.cleanCount + 1)).setApart .isolated .config := by
  have disagreement :
      (decide (r.digestVerdict = .noNarrator) || decide (r.digestVerdict = .consistent) && decide (r.digestTrue = s.ownDigest)) = false := by
    simpa [narrated] using differs
  simp only [State.judgeListening, EpochRecord.framed, framed, clean, Bool.not_false, Bool.not_true, Bool.or_self, Bool.false_eq_true, if_false,
    Nat.not_lt.mpr many, disagreement]
  rfl

end

/-! ## LEARNING (R51 to R53) -/

theorem State.judgeLearning_faulted (faulted : r.faults.any = true) : s.judgeLearning r = s.zeroLearning := by
  simp [State.judgeLearning, EpochRecord.framed, faulted]

section
variable (framed : r.faults.any = false)
include framed

theorem State.judgeLearning_isolates (consistent : r.digestVerdict = .consistent) (differs : r.digestTrue ≠ s.ownDigest) :
    s.judgeLearning r = s.setApart .isolated .config := by
  simp [State.judgeLearning, EpochRecord.framed, framed, consistent, differs]

variable (agrees : r.digestVerdict = .consistent → r.digestTrue = s.ownDigest)
include agrees

/-- A framed record that isolates nobody founds, or is applied as a learner's, with IN_STEP after the sixteenth match. -/
theorem State.judgeLearning_applies : s.judgeLearning r =
    if 16 ≤ (s.learned r).2 then (s.countLearning (s.learned r)).found r
    else if 16 ≤ (s.learned r).1 then ((s.countLearning (s.learned r)).applyRecord false r).joinStep.reconcile
    else (s.countLearning (s.learned r)).applyRecord false r := by
  have same : (decide (r.digestVerdict = .consistent) && decide (r.digestTrue ≠ s.ownDigest)) = false := by simpa using agrees
  simp only [State.judgeLearning, EpochRecord.framed, framed, Bool.not_false, Bool.not_true, Bool.false_eq_true, if_false, same]
  rfl

theorem State.judgeLearning_founds (silent : 16 ≤ (s.learned r).2) : s.judgeLearning r = (s.countLearning (s.learned r)).found r := by
  rw [State.judgeLearning_applies framed agrees, if_pos silent]

theorem State.judgeLearning_joins (heard : (s.learned r).2 < 16) (matched : 16 ≤ (s.learned r).1) :
    s.judgeLearning r = ((s.countLearning (s.learned r)).applyRecord false r).joinStep.reconcile := by
  rw [State.judgeLearning_applies framed agrees, if_neg (Nat.not_le.mpr heard), if_pos matched]

theorem State.judgeLearning_stays (heard : (s.learned r).2 < 16) (few : (s.learned r).1 < 16) :
    s.judgeLearning r = (s.countLearning (s.learned r)).applyRecord false r := by
  rw [State.judgeLearning_applies framed agrees, if_neg (Nat.not_le.mpr heard), if_neg (Nat.not_le.mpr few)]

end

/-- The mirror matches the table and its slice index. -/
def State.Matched (r : EpochRecord) (s : State) : Prop :=
  ∃ (k : Fin 16) (w : BitVec 25), r.mirrorValue = some (k, w) ∧ w = (s.gtu.entry k).slice ∧ k = s.gtu.sliceIndex

theorem Gtu.compare_matching_iff {g : Gtu} {k : Fin 16} {w : BitVec 25} : g.compare k w = .matching ↔ w = (g.entry k).slice ∧ k = g.sliceIndex := by
  unfold Gtu.compare
  split
  · split <;> simp_all
  · simp_all

theorem State.learned_matched (consistent : r.mirrorVerdict = .consistent) (matched : s.Matched r) : s.learned r = (s.pc.verifyCount + 1, 0) := by
  obtain ⟨k, w, value, slice, index⟩ := matched
  have compared : s.gtu.compare k w = .matching := Gtu.compare_matching_iff.mpr ⟨slice, index⟩
  simp [State.learned, value, compared, consistent, learnCounters]

theorem State.learned_unmatched (consistent : r.mirrorVerdict = .consistent) (unmatched : ¬s.Matched r) : s.learned r = (0, 0) := by
  cases value : r.mirrorValue with
  | none => simp [State.learned, value, consistent, learnCounters]
  | some kw =>
    have other : s.gtu.compare kw.1 kw.2 ≠ .matching := fun compared =>
      unmatched ⟨kw.1, kw.2, value, (Gtu.compare_matching_iff.mp compared).1, (Gtu.compare_matching_iff.mp compared).2⟩
    simp only [State.learned, value, consistent, Option.map_some]
    cases compared : s.gtu.compare kw.1 kw.2 <;> simp_all [learnCounters]

theorem State.learned_silent (silent : r.mirrorVerdict = .noNarrator) : s.learned r = (0, s.pc.noNarratorCount + 1) := by
  simp [State.learned, silent, learnCounters]

theorem State.learned_disagreement (other : r.mirrorVerdict = .disagreement) : s.learned r = (0, 0) := by
  simp [State.learned, other, learnCounters]

/-- Each counter grows by at most one, and one of the two is always 0. -/
theorem State.learned_le : (s.learned r).1 ≤ s.pc.verifyCount + 1 ∧ (s.learned r).2 ≤ s.pc.noNarratorCount + 1 := by
  unfold State.learned learnCounters
  split <;> simp

/-! ## IN_STEP (R54) -/

theorem State.judgeInStep_faulted (faulted : r.faults.any = true) : s.judgeInStep r = s.fall .missed := by
  simp [State.judgeInStep, EpochRecord.framed, faulted]

section
variable (framed : r.faults.any = false)
include framed

theorem State.judgeInStep_isolates (wrote : r.own.participation = .inStep) (differs : r.digestTrue ≠ r.own.digest) :
    s.judgeInStep r = s.setApart .isolated .config := by
  simp [State.judgeInStep, EpochRecord.framed, framed, wrote, differs]

theorem State.judgeInStep_splits (wrote : r.own.participation = .inStep) (same : r.digestTrue = r.own.digest) (differs : r.mirrorTrue ≠ r.own.mirror) :
    s.judgeInStep r = (s.fall .split).applyRecord false r := by
  simp [State.judgeInStep, EpochRecord.framed, framed, wrote, same, differs]

theorem State.judgeInStep_applies (same : r.own.participation = .inStep → r.digestTrue = r.own.digest ∧ r.mirrorTrue = r.own.mirror) :
    s.judgeInStep r = s.applyRecord true r := by
  by_cases wrote : r.own.participation = .inStep
  · simp [State.judgeInStep, EpochRecord.framed, framed, wrote, same wrote]
  · simp [State.judgeInStep, EpochRecord.framed, framed, wrote]

end

/-! ## What each outcome makes of the participation controller -/

@[simp] theorem State.setApart_pc (dest : Participation) (c : Cause) : (s.setApart dest c).pc = { s.pc with participation := dest, cause := c } := by
  simp [State.setApart]

@[simp] theorem State.syncLoss_pc : s.syncLoss.pc =
    { s.pc with participation := .listening, cause := .sync, cleanCount := 0, verifyCount := 0, noNarratorCount := 0, syncHistory := [] } := by
  simp [State.syncLoss, State.enterListening]

@[simp] theorem State.fall_pc (c : Cause) : (s.fall c).pc =
    { s.pc with participation := .learning, cause := c, verifyCount := 0, noNarratorCount := 0 } := by
  simp [State.fall]

@[simp] theorem State.joinStep_pc : s.joinStep.pc = { s.pc with participation := .inStep, verifyCount := 0, noNarratorCount := 0 } := by
  simp [State.joinStep]

@[simp] theorem State.found_pc : (s.found r).pc = { s.pc with participation := .inStep, verifyCount := 0, noNarratorCount := 0 } := by
  simp [State.found]

/-! ## The outcomes of a delivery, in each participation state -/

section
variable (ready : r.driveFault = false ∧ r.foreign s.sl.ownPos = false)
include ready

theorem State.deliver_pc_listening (p : s.participation = .listening) :
    (s.deliver r).pc = (((s.seen r).enterHistory r).judgeListening r).pc := by
  rw [State.deliver_listening p, State.judge_listening (s := s.seen r) ready.1 ready.2 p]

variable (few : ((s.seen r).enterHistory r).faultedVerdicts < 3)
include few

theorem State.deliver_pc_learning (p : s.participation = .learning) :
    (s.deliver r).pc = (((s.seen r).enterHistory r).judgeLearning r).pc := by
  rw [State.deliver_pc (by rw [p]; rfl), State.judge_learning (s := s.seen r) ready.1 ready.2 few p]

theorem State.deliver_pc_inStep (p : s.participation = .inStep) :
    (s.deliver r).pc = (((s.seen r).enterHistory r).judgeInStep r).pc := by
  rw [State.deliver_pc (by rw [p]; rfl), State.judge_inStep (s := s.seen r) ready.1 ready.2 few p]

end

theorem State.ownDigest_eq : (match s.sl.config with | some f => f.digest | none => 0#8) = s.ownDigest := by
  unfold State.ownDigest
  cases s.sl.config <;> rfl

/-- The participation controller after a record judged in LISTENING. -/
theorem State.judgeListening_pc :
    ((r.faults.any = true ∨ r.presence s.sl.ownPos = true) → (s.judgeListening r).pc = { s.pc with cleanCount := 0 }) ∧
    (r.faults.any = false → r.presence s.sl.ownPos = false →
      (s.pc.cleanCount + 1 < 8 → (s.judgeListening r).pc = { s.pc with cleanCount := s.pc.cleanCount + 1 }) ∧
      (8 ≤ s.pc.cleanCount + 1 → (r.digestVerdict = .noNarrator ∨ (r.digestVerdict = .consistent ∧ r.digestTrue = s.ownDigest)) →
        (s.judgeListening r).pc =
          { s.pc with participation := .learning, cleanCount := s.pc.cleanCount + 1, verifyCount := 0, noNarratorCount := 0 }) ∧
      (8 ≤ s.pc.cleanCount + 1 → r.digestVerdict ≠ .noNarrator → (r.digestVerdict = .consistent → r.digestTrue ≠ s.ownDigest) →
        (s.judgeListening r).pc = { s.pc with participation := .isolated, cause := .config, cleanCount := s.pc.cleanCount + 1 })) := by
  refine ⟨fun dirty => ?_, fun framed clean => ⟨fun few => ?_, fun many agrees => ?_, fun many narrated differs => ?_⟩⟩
  · rw [State.judgeListening_dirty dirty]
    rfl
  · rw [State.judgeListening_counts framed clean few]
    rfl
  · rw [State.judgeListening_learns framed clean many agrees]
    rfl
  · rw [State.judgeListening_isolates framed clean many narrated differs, State.setApart_pc]
    rfl

/-- The participation controller after a record judged in LEARNING. -/
theorem State.judgeLearning_pc :
    (r.faults.any = true → (s.judgeLearning r).pc = { s.pc with verifyCount := 0, noNarratorCount := 0 }) ∧
    (r.faults.any = false → r.digestVerdict = .consistent → r.digestTrue ≠ s.ownDigest →
      (s.judgeLearning r).pc = { s.pc with participation := .isolated, cause := .config }) ∧
    (r.faults.any = false → (r.digestVerdict = .consistent → r.digestTrue = s.ownDigest) →
      (16 ≤ (s.learned r).1 ∨ 16 ≤ (s.learned r).2 →
        (s.judgeLearning r).pc = { s.pc with participation := .inStep, verifyCount := 0, noNarratorCount := 0 }) ∧
      ((s.learned r).1 < 16 → (s.learned r).2 < 16 →
        (s.judgeLearning r).pc = { s.pc with verifyCount := (s.learned r).1, noNarratorCount := (s.learned r).2 })) := by
  refine ⟨fun faulted => ?_, fun framed consistent differs => ?_, fun framed agrees => ⟨fun enough => ?_, fun few heard => ?_⟩⟩
  · rw [State.judgeLearning_faulted faulted]
    rfl
  · rw [State.judgeLearning_isolates framed consistent differs, State.setApart_pc]
  · by_cases silent : 16 ≤ (s.learned r).2
    · rw [State.judgeLearning_founds framed agrees silent, State.found_pc]
      rfl
    · have matched : 16 ≤ (s.learned r).1 := enough.resolve_right silent
      rw [State.judgeLearning_joins framed agrees (Nat.not_le.mp silent) matched, State.reconcile_pc, State.joinStep_pc, State.applyRecord_pc]
      rfl
  · rw [State.judgeLearning_stays framed agrees heard few, State.applyRecord_pc]
    rfl

/-- The participation controller after a record judged in IN_STEP. -/
theorem State.judgeInStep_pc :
    (r.faults.any = true → (s.judgeInStep r).pc = { s.pc with participation := .learning, cause := .missed, verifyCount := 0, noNarratorCount := 0 }) ∧
    (r.faults.any = false → r.own.participation = .inStep → r.digestTrue ≠ r.own.digest →
      (s.judgeInStep r).pc = { s.pc with participation := .isolated, cause := .config }) ∧
    (r.faults.any = false → r.own.participation = .inStep → r.digestTrue = r.own.digest → r.mirrorTrue ≠ r.own.mirror →
      (s.judgeInStep r).pc = { s.pc with participation := .learning, cause := .split, verifyCount := 0, noNarratorCount := 0 }) ∧
    (r.faults.any = false → (r.own.participation = .inStep → r.digestTrue = r.own.digest ∧ r.mirrorTrue = r.own.mirror) →
      (s.judgeInStep r).pc = s.pc) := by
  refine ⟨fun faulted => ?_, fun framed wrote differs => ?_, fun framed wrote same differs => ?_, fun framed same => ?_⟩
  · rw [State.judgeInStep_faulted faulted, State.fall_pc]
  · rw [State.judgeInStep_isolates framed wrote differs, State.setApart_pc]
  · rw [State.judgeInStep_splits framed wrote same differs, State.applyRecord_pc, State.fall_pc]
  · rw [State.judgeInStep_applies framed same, State.applyRecord_pc]

end

/-- Settles O27, by the judgement's outcomes. -/
theorem deliveredRecordMovesParticipation : Obligations.DeliveredRecordMovesParticipation := by
  refine ⟨?_, fun r s apart => State.deliver_apart apart, fun r s unstarted => ?_⟩
  · intro r s begun pc base foreign history judged digest ready
    have timed : s.participation.timed = true := by rcases begun with p | p | p <;> rw [p] <;> rfl
    have stays : (s.seen r).participation = s.participation := rfl
    have pcIs : pc = ((s.seen r).judge r).pc := State.deliver_pc timed
    have foreignIs : foreign ↔ r.foreign (s.seen r).sl.ownPos = true := (EpochRecord.foreign_iff _).symm
    have digestIs : digest = ((s.seen r).enterHistory r).ownDigest := State.ownDigest_eq
    have own (none : ¬foreign) : r.foreign (s.seen r).sl.ownPos = false := by simpa [foreignIs] using none
    refine ⟨fun drive => ?_, fun drive other => ?_, fun drive none many notListening => ?_, fun isReady p => ?_, fun isReady p => ?_, fun isReady p => ?_⟩
    · rw [pcIs, State.judge_drive drive, State.setApart_pc]
      rfl
    · rw [pcIs, State.judge_foreign drive (foreignIs.mp other), State.setApart_pc]
      rfl
    · have group : (s.seen r).participation.inGroup = true := (timed_iff.mp timed).resolve_left notListening
      rw [pcIs, State.judge_sync drive (own none) group many, State.syncLoss_pc]
      rfl
    · obtain ⟨drive, none, -⟩ := isReady
      rw [pcIs, State.judge_listening drive (own none) p, digestIs]
      exact State.judgeListening_pc (s := (s.seen r).enterHistory r) (r := r)
    all_goals
      obtain ⟨drive, none, few⟩ := isReady
      replace few : ((s.seen r).enterHistory r).faultedVerdicts < 3 := few.resolve_right (by rw [p]; decide)
    · rw [pcIs, State.judge_learning drive (own none) few p, digestIs]
      intro matched
      obtain ⟨faulted, isolates, applies⟩ := State.judgeLearning_pc (s := (s.seen r).enterHistory r) (r := r)
      refine ⟨faulted, isolates, fun framed agrees => ?_⟩
      obtain ⟨joins, learns⟩ := applies framed agrees
      refine ⟨fun consistent same fewer => ?_, fun consistent same enough => ?_, fun silent fewer => ?_, fun silent enough => ?_, fun other => ?_⟩
      · have counts := State.learned_matched (s := (s.seen r).enterHistory r) consistent same
        rw [counts] at learns
        exact learns fewer (Nat.succ_pos 15)
      · have counts := State.learned_matched (s := (s.seen r).enterHistory r) consistent same
        rw [counts] at joins
        exact joins (.inl enough)
      · have counts := State.learned_silent (s := (s.seen r).enterHistory r) silent
        rw [counts] at learns
        exact learns (Nat.succ_pos 15) fewer
      · have counts := State.learned_silent (s := (s.seen r).enterHistory r) silent
        rw [counts] at joins
        exact joins (.inr enough)
      · have counts : ((s.seen r).enterHistory r).learned r = (0, 0) := by
          rcases other with ⟨consistent, unmatched⟩ | disagrees
          · exact State.learned_unmatched consistent unmatched
          · exact State.learned_disagreement disagrees
        rw [counts] at learns
        exact learns (by decide) (by decide)
    · rw [pcIs, State.judge_inStep drive (own none) few p]
      exact State.judgeInStep_pc (s := (s.seen r).enterHistory r) (r := r)
  · exact State.deliver_deaf (by rcases unstarted with p | p | p <;> rw [p] <;> rfl)

end Sys2Proof.Machine
end

section
/-! SUPPORT. Start-up and participation (R15, R20, R22, R156, R157, R162), kept by every move, with the configuration in force and its checks. -/

namespace Sys2Proof.Machine

open Sys2Proof.Safety

section
variable {s t : State}

theorem State.submit_eq (k : Nat) : (s.submit k).2 = { s with cu := (s.submit k).2.cu } := by
  unfold State.submit
  split
  · rfl
  · split
    · rfl
    · split <;> rfl

theorem State.acknowledge_eq (x : Fin 16) : (s.acknowledge x).2 = { s with cu := (s.acknowledge x).2.cu } := by
  unfold State.acknowledge
  split
  · rfl
  · split <;> rfl

/-! ## A judgement leaves the station in a state that keeps its timer, or stops it -/

/-- A timed state, or one set apart with the epoch timer stopped. -/
def State.KeepsTime (t : State) : Prop :=
  t.participation.timed = true ∨ ((t.participation = .isolated ∨ t.participation = .conflict) ∧ t.vbi.epochTimer = none)

theorem keepsTime_setApart (c : Cause) {dest : Participation} (apart : dest = .isolated ∨ dest = .conflict) : (s.setApart dest c).KeepsTime := by
  refine .inr ⟨?_, ?_⟩
  · show (s.setApart dest c).pc.participation = _ ∨ (s.setApart dest c).pc.participation = _
    rw [State.setApart_pc]
    exact apart
  · simp [State.setApart]

theorem keepsTime_of_pc {p : Participation} (is : t.pc.participation = p) (timed : p.timed = true) : t.KeepsTime :=
  .inl (by rw [State.participation, is, timed])

theorem keepsTime_outcome {r : EpochRecord} (outcome : Outcome r s t) : t.KeepsTime := by
  have same {v : State} (counts : v.Counts s) : v.pc.participation = s.participation := counts.participation
  cases outcome with
  | counts _ counts p => rcases p with p | p <;> exact keepsTime_of_pc ((same counts).trans p) rfl
  | apart _ _ _ _ apart => exact keepsTime_setApart _ apart
  | sync _ _ _ => exact keepsTime_of_pc (p := .listening) (by simp) rfl
  | learns _ _ _ => exact keepsTime_of_pc (p := .learning) rfl rfl
  | founds _ _ _ => exact keepsTime_of_pc (p := .inStep) (by simp) rfl
  | applies _ counts p => exact keepsTime_of_pc (by rw [State.applyRecord_pc, same counts, p]) rfl
  | joins _ _ _ => exact keepsTime_of_pc (p := .inStep) (by simp) rfl
  | falls _ _ _ _ => exact keepsTime_of_pc (p := .learning) (by simp) rfl
  | splits _ _ _ _ => exact keepsTime_of_pc (p := .learning) (by simp) rfl
  | inStep _ counts p => exact keepsTime_of_pc (by rw [State.applyRecord_pc, same counts, p]) rfl

theorem timed_started {p : Participation} (timed : p.timed = true) : unstarted p = false ∧ loadStateOf p = .frozen := by cases p <;> cases timed <;> exact ⟨rfl, rfl⟩

/-! ## Start-up kept by every move -/

/-- `Started` in words of the participation state, the VBI and the loader. -/
theorem started_congr (receiver : t.vbi.receiver = .off ↔ s.vbi.receiver = .off) (timer : t.vbi.epochTimer.isSome = true → s.vbi.epochTimer.isSome = true ∨
    s.participation.timed = true) (participation : t.participation = s.participation) (sl : t.sl = s.sl) (law : Started s) : Started t := by
  obtain ⟨off, runs, load, config, reading⟩ := law
  rw [Started, participation, sl]
  exact ⟨receiver.trans off, fun timed => (timer timed).elim runs id, load, config, reading⟩

theorem started_of_same (vbi : t.vbi = s.vbi) (pc : t.pc = s.pc) (sl : t.sl = s.sl) (law : Started s) : Started t :=
  started_congr (by rw [vbi]) (fun runs => .inl (by rwa [vbi] at runs)) (by rw [State.participation, State.participation, pc]) sl law

/-- A started state whose receiver runs, and whose timer runs only in a timed state. -/
theorem started_running {p : Participation} (participation : t.participation = p) (begun : unstarted p = false) (frozen : loadStateOf p = .frozen)
    (on : t.vbi.receiver ≠ .off) (timer : t.vbi.epochTimer.isSome = true → p.timed = true) (load : t.sl.loadState = .frozen)
    (config : t.sl.config.isSome = true) (ended : t.sl.phase = .ended) : Started t := by
  rw [Started, participation, begun, frozen]
  exact ⟨⟨fun off => absurd off on, fun off => by cases off⟩, timer, load, ⟨fun _ => rfl, fun _ => config⟩, .inl ended⟩

/-- A state before the first LISTENING. -/
theorem started_unbegun {p : Participation} (participation : t.participation = p) (unbegun : unstarted p = true) (off : t.vbi.receiver = .off)
    (timer : t.vbi.epochTimer = none) (load : t.sl.loadState = loadStateOf p) (config : t.sl.config = none)
    (phase : t.sl.phase = .ended ∨ p = .loading) : Started t := by
  rw [Started, participation, unbegun]
  refine ⟨⟨fun _ => rfl, fun _ => off⟩, fun runs => ?_, load, ⟨fun inForce => ?_, fun begun => by cases begun⟩, phase⟩
  · rw [timer] at runs
    cases runs
  · rw [config] at inForce
    cases inForce

/-- What `Started` says of a station before the first LISTENING. -/
theorem started_before (law : Started s) (unbegun : unstarted s.participation = true) :
    s.vbi.receiver = .off ∧ s.vbi.epochTimer = none ∧ s.sl.config = none := by
  obtain ⟨off, runs, -, config, -⟩ := law
  refine ⟨off.mpr unbegun, ?_, ?_⟩
  · cases timer : s.vbi.epochTimer with
    | none => rfl
    | some due =>
      have timed := (timed_started (runs (by rw [timer]; rfl))).1
      rw [unbegun] at timed
      cases timed
  · cases inForce : s.sl.config with
    | none => rfl
    | some f =>
      have begun := config.mp (by rw [inForce]; rfl)
      rw [unbegun] at begun
      cases begun

/-- What `Started` says of a station that has been in LISTENING. -/
theorem started_begun (law : Started s) (begun : unstarted s.participation = false) :
    s.vbi.receiver ≠ .off ∧ s.sl.loadState = .frozen ∧ s.sl.config.isSome = true ∧ s.sl.phase = .ended := by
  obtain ⟨off, -, load, config, reading⟩ := law
  have frozen : loadStateOf s.participation = .frozen := by cases p : s.participation <;> rw [p] at begun <;> simp_all [unstarted, loadStateOf]
  refine ⟨fun receiver => ?_, load.trans frozen, config.mpr begun, reading.resolve_right fun p => ?_⟩
  · rw [off.mp receiver] at begun
    cases begun
  · rw [p] at begun
    cases begun

theorem started_outcome {r : EpochRecord} {u : State} (timed : s.participation.timed = true) (outcome : Outcome r s u) (sl : u.sl = s.sl) (law : Started s) :
    Started u := by
  obtain ⟨on, load, config, ended⟩ := started_begun law (timed_started timed).1
  have still : u.vbi.receiver ≠ .off := fun off => on (outcome.receiver off)
  rcases keepsTime_outcome outcome with keeps | ⟨apart, stopped⟩
  · obtain ⟨begun, frozen⟩ := timed_started keeps
    exact started_running rfl begun frozen still (fun _ => keeps) (sl ▸ load) (sl ▸ config) (sl ▸ ended)
  · have idle (runs : u.vbi.epochTimer.isSome = true) : False := by
      rw [stopped] at runs
      cases runs
    rcases apart with p | p <;>
      exact started_running p rfl rfl still (fun runs => (idle runs).elim) (sl ▸ load) (sl ▸ config) (sl ▸ ended)

theorem sl_outcome {r : EpochRecord} {u : State} (outcome : Outcome r s u) : u.sl = s.sl := by
  have same {v : State} (counts : v.Counts s) : v.sl = s.sl := by rw [counts.rest]
  cases outcome with
  | counts _ counts _ => exact same counts
  | _ _ counts => simpa using same counts

theorem started_deliver (r : EpochRecord) (law : Started s) : Started (s.deliver r) :=
  deliver_keeps (P := Started) r (fun law => law) (fun timed _ outcome law => started_outcome (s := s.seen r) timed outcome (sl_outcome outcome) law)
    (fun _ _ law => started_of_same (by simp) (by simp) (by simp) law) law

theorem started_enterListening (begun : unstarted s.participation = false) (law : Started s) : Started s.enterListening := by
  obtain ⟨on, load, config, ended⟩ := started_begun law begun
  exact started_running (p := .listening) rfl rfl rfl State.enterListening_receiver (fun _ => rfl) load config ended

theorem started_participationSoftReset (law : Started s) : Started s.participationSoftReset := by
  have cleared : Started s.clearTable := started_of_same (by simp) (by simp) (by simp) law
  have stays : s.clearTable.participation = s.participation := by simp [State.participation]
  unfold State.participationSoftReset
  split
  · next p => exact started_enterListening (by rw [stays, p]; rfl) cleared
  · next p => exact started_enterListening (by rw [stays, p]; rfl) cleared
  · next p => exact started_enterListening (by rw [p]; rfl) law
  all_goals exact law

theorem State.freeze_sl (src : LoadSource) (f : Frozen) : (s.freeze src f).sl = s.sl.freeze src f := by
  rw [State.freeze_eq, State.offer_sl, State.frozenBeforeStart, State.raise_sl, State.enterListening_sl, State.takeParameters_sl, State.takeRoles_sl]

theorem started_freeze (src : LoadSource) (f : Frozen) : Started (s.freeze src f) := by
  have participation : (s.freeze src f).participation = .listening := by
    rw [State.participation, State.freeze_eq, State.offer_pc]
    rfl
  have on : (s.freeze src f).vbi.receiver ≠ .off := by
    rw [State.freeze_eq, State.offer_vbi]
    exact State.enterListening_receiver
  have sl := s.freeze_sl src f
  exact started_running participation rfl rfl on (fun _ => rfl) (by rw [sl]; rfl) (by rw [sl]; rfl) (by rw [sl]; rfl)

/-- Every move keeps start-up and participation together. -/
theorem Move.started (move : Move s t) (law : Started s) : Started t := by
  cases move with
  | wire v off timer => exact started_congr off timer rfl rfl law
  | latch on =>
    refine started_congr (by simp [State.epochBegins, on]) (fun runs => ?_) (by simp [State.participation]) (by simp) law
    by_cases timed : s.participation.timed = true
    · exact .inr timed
    · refine .inl ?_
      have same : s.latch.participation.timed = false := by simpa [State.participation] using timed
      simpa [State.epochBegins, same] using runs
  | deliver r => exact started_deliver r law
  | release straps reset =>
    obtain ⟨off, timer, config⟩ := started_before law (by rw [reset]; rfl)
    refine started_unbegun (p := .loading) ?_ rfl ?_ ?_ ?_ ?_ (.inr rfl) <;> simp [State.participation, Sl.released, off, timer, config]
    rfl
  | loader l config own state phase =>
    obtain ⟨off, runs, load, frozen, reading⟩ := law
    refine ⟨off, runs, state.trans load, ?_, ?_⟩
    · show l.config.isSome = true ↔ _
      rw [config]
      exact frozen
    · rcases phase with same | reads
      · exact reading.imp_left fun ended => same.trans ended
      · exact .inr (reading.resolve_left reads)
  | loadFails c reads =>
    have p : s.participation = .loading := law.2.2.2.2.resolve_left reads
    obtain ⟨off, timer, config⟩ := started_before law (by rw [p]; rfl)
    refine started_unbegun (p := .unconfigured) rfl rfl ?_ ?_ rfl ?_ (.inl rfl) <;> simp [State.loadFails, Sl.fail, off, timer, config]
  | freeze src f _ _ => exact started_freeze src f
  | rejoin apart => exact started_enterListening (by rcases apart with p | p <;> rw [p] <;> rfl) law
  | softReset clearsFirst _ =>
    have card : Started (s.cardSoftReset clearsFirst) := started_of_same (by simp) (by simp) (by simp) law
    exact started_of_same (by simp) (by simp) (by simp) (started_participationSoftReset card)
  | submit k => rw [State.submit_eq]; exact law
  | acknowledge x => rw [State.acknowledge_eq]; exact law
  | _ => exact started_of_same (by simp) (by simp) (by simp) law

theorem State.FullyReset.started (reset : t.FullyReset) : Started t := by
  obtain ⟨low, since, deaf, pins, now, choices, pending, rfl⟩ := reset
  exact started_unbegun (p := .reset) rfl rfl rfl rfl rfl rfl (.inl rfl)

/-! ## The configuration in force -/

theorem configurationValid_iff : ConfigurationValid s ↔ ∀ f : Frozen, s.sl.config = some f → f.Passed s.sl.ownPos := Iff.rfl

/-- Every move keeps the configuration in force as frozen, and its checks. -/
theorem Move.configuration (move : Move s t) (law : Started s ∧ ConfigurationValid s) : Started t ∧ ConfigurationValid t := by
  obtain ⟨started, valid⟩ := law
  refine ⟨move.started started, ?_⟩
  have same (config : t.sl.config = s.sl.config) (own : t.sl.ownPos = s.sl.ownPos) : ConfigurationValid t := by
    intro f inForce
    rw [own]
    exact valid f (by rw [← config, inForce])
  cases move with
  | freeze src f _ passed =>
    intro g inForce
    rw [State.freeze_sl] at inForce ⊢
    cases inForce
    exact passed
  | loader l config own _ _ => exact same config own
  | release straps reset =>
    obtain ⟨-, -, -, config, -⟩ := started
    rw [reset] at config
    intro g inForce
    have none : s.sl.config = some g := by simpa [Sl.released] using inForce
    rw [none] at config
    exact absurd (config.mp rfl) (by decide)
  | submit k => rw [State.submit_eq]; exact valid
  | acknowledge x => rw [State.acknowledge_eq]; exact valid
  | loadFails c _ => exact same (by simp [State.loadFails, Sl.fail]) (by simp [State.loadFails, Sl.fail])
  | _ => exact same (by simp) (by simp)

/-- Every move keeps a configuration in force as frozen. -/
theorem Move.config_kept {f : Frozen} (move : Move s t) (law : Started s ∧ s.sl.config = some f) : Started t ∧ t.sl.config = some f := by
  obtain ⟨started, inForce⟩ := law
  refine ⟨move.started started, ?_⟩
  have begun : unstarted s.participation = false := started.2.2.2.1.mp (by rw [inForce]; rfl)
  cases move with
  | freeze src g before _ =>
    obtain ⟨-, -, -, ended⟩ := started_begun started begun
    rcases before with reads | p
    · exact absurd ended reads
    · rw [p] at begun
      cases begun
  | loader l config _ _ _ => exact config.trans inForce
  | release straps reset =>
    rw [reset] at begun
    cases begun
  | submit k => rw [State.submit_eq]; exact inForce
  | acknowledge x => rw [State.acknowledge_eq]; exact inForce
  | loadFails c _ => simpa [State.loadFails, Sl.fail] using inForce
  | _ => simpa using inForce

theorem State.FullyReset.configuration (reset : t.FullyReset) : Started t ∧ ConfigurationValid t := by
  refine ⟨reset.started, ?_⟩
  obtain ⟨low, since, deaf, pins, now, choices, pending, rfl⟩ := reset
  exact fun f inForce => by cases inForce

end

/-- Settles O54, by the moves. -/
theorem stepKeepsStartUpAndConfiguration : Obligations.StepKeepsStartUpAndConfiguration := by
  intro s t lawful steps
  obtain ⟨started, -, -, -, -, -, valid, -⟩ := lawful
  obtain ⟨startedAfter, validAfter⟩ := step_keeps (P := fun s => Started s ∧ ConfigurationValid s) State.FullyReset.configuration Move.configuration
    ⟨started, valid⟩ steps
  refine ⟨startedAfter, validAfter, fun f inForce keeps => ?_⟩
  exact ((moves_of_step keeps steps).keep (P := fun s => Started s ∧ s.sl.config = some f) Move.config_kept ⟨started, inForce⟩).2

end Sys2Proof.Machine
end

section
/-! SUPPORT. The snapshot unit, the windows and the counters (R49 to R53, R164, R172, R179 to R181), kept by every move. -/

namespace Sys2Proof.Machine

open Sys2Proof.Safety

section
variable {s t : State}

/-! ## The port, but for the interrupt status -/

theorem Mp.sameBut_raise (m : Mp) (i : Irq) : (m.raise i).SameButStatus m := Eq.refl _

theorem State.sameBut_raise (i : Irq) : (s.raise i).mp.SameButStatus s.mp := Eq.refl _

theorem State.sameBut_raiseIf (c : Bool) (i : Irq) : (s.raiseIf c i).mp.SameButStatus s.mp := by
  unfold State.raiseIf
  split <;> exact Eq.refl _

theorem State.sameBut_deriveOwn : s.deriveOwn.mp.SameButStatus s.mp := s.mp_deriveOwn

theorem State.sameBut_abandonCommands : s.abandonCommands.mp.SameButStatus s.mp := State.sameBut_raiseIf _ _

theorem State.sameBut_expireHead : s.expireHead.mp.SameButStatus s.mp := by
  unfold State.expireHead
  split
  · exact .rfl
  · split <;> exact Eq.refl _

theorem State.sameBut_countHead (b : Option (Fin 16)) : (s.countHead b).mp.SameButStatus s.mp := by
  unfold State.countHead
  split
  · exact .rfl
  · split
    · exact State.sameBut_expireHead
    · exact .rfl

theorem State.sameBut_reportWin (o : CmdOutcome) : (s.reportWin o).mp.SameButStatus s.mp := by
  unfold State.reportWin
  split
  · exact .rfl
  · exact .rfl
  · split <;> exact Eq.refl _

theorem State.sameBut_notifyOwn (e : Entry) : (s.notifyOwn e).mp.SameButStatus s.mp := by
  unfold State.notifyOwn
  rw [← State.notifyWaitRestore_mp s e.cls]
  exact State.sameBut_raiseIf _ _

theorem State.sameBut_notificationStage (r : EpochRecord) (o : CmdOutcome) (e : Entry) : (s.notificationStage r o e).mp.SameButStatus s.mp := by
  unfold State.notificationStage
  split
  · exact (State.sameBut_notifyOwn e).trans (State.sameBut_reportWin o)
  · exact State.sameBut_notifyOwn e

theorem State.sameBut_directiveStage : s.directiveStage.mp.SameButStatus s.mp := State.directiveStage_requestsOf.2.2

theorem State.sameBut_reconcile : s.reconcile.mp.SameButStatus s.mp := State.reconcile_requestsOf.2.2

theorem State.sameBut_engineSoftReset : s.engineSoftReset.mp.SameButStatus s.mp := State.judgeMonitor_mp _

theorem State.sameBut_moveTo (p : Participation) : (s.moveTo p).mp.SameButStatus s.mp := Eq.refl _

theorem State.sameBut_fall (c : Cause) : (s.fall c).mp.SameButStatus s.mp := Eq.refl _

theorem State.sameBut_joinStep : s.joinStep.mp.SameButStatus s.mp := Eq.refl _

theorem State.sameBut_freeze (src : LoadSource) (f : Frozen) : (s.freeze src f).mp.SameButStatus s.mp := by
  rw [State.freeze_eq]
  exact (State.offer_mp _ _).trans (State.frozenBeforeStart_mp _ _ _)

theorem Mp.SameButStatus.sound {g : Bool} {m n : Mp} (same : n.SameButStatus m) (sound : m.Sound g) : n.Sound g := by
  rw [same]
  exact sound

/-! ## Captures and leaves -/

/-- A unit that is not ARMED is in shape in the group and outside it. -/
theorem Mp.Sound.of_not_armed {g h : Bool} {m : Mp} (sound : m.Sound g) (idle : m.snapState ≠ .armed) : m.Sound h :=
  ⟨⟨sound.1.1, sound.1.2.1, fun armed => absurd armed idle⟩, sound.2⟩

theorem Mp.Sound.anywhere {g : Bool} {m : Mp} (sound : m.Sound false) : m.Sound g :=
  sound.of_not_armed fun armed => by cases sound.1.2.2 armed

theorem Mp.Sound.inside {g : Bool} {m : Mp} (sound : m.Sound g) : m.Sound true := ⟨⟨sound.1.1, sound.1.2.1, fun _ => rfl⟩, sound.2⟩

/-- After a capture of what is ARMED nothing is. -/
theorem sound_captureIfArmed {g h : Bool} (k : CaptureKind) (p : Participation) (mark : Bool) (sound : s.mp.Sound g) :
    (s.captureIfArmed k p mark).mp.Sound h := by
  unfold State.captureIfArmed
  split
  · exact State.sound_capture k p mark sound.2
  · next idle => exact sound.of_not_armed idle

theorem sound_leaveGroup (dest : Participation) (sound : s.mp.Sound s.participation.inGroup) : (s.leaveGroup dest).mp.Sound false := by
  unfold State.leaveGroup
  split
  · rw [State.leave, State.clearTable_mp]
    exact sound_captureIfArmed _ _ _ (State.sameBut_abandonCommands.sound sound)
  · next outside => simpa [outside] using sound

theorem sound_setApart (dest : Participation) (c : Cause) (sound : s.mp.Sound s.participation.inGroup) : (s.setApart dest c).mp.Sound false :=
  (State.offer_mp _ _).sound (sound_leaveGroup dest sound)

theorem sound_syncLoss (sound : s.mp.Sound s.participation.inGroup) : s.syncLoss.mp.Sound false :=
  (State.offer_mp _ _).sound (sound_leaveGroup .listening sound)

theorem sound_applyRecord (full : Bool) (r : EpochRecord) (sound : s.mp.Sound true) : (s.applyRecord full r).mp.Sound true := by
  have stage : ({ s with gtu := (s.applyTable full r).1 } : State).directiveStage.mp.Sound true := State.sameBut_directiveStage.sound sound
  unfold State.applyRecord
  dsimp only
  refine sound_captureIfArmed (g := true) _ _ _ ((State.sameBut_notificationStage _ _ _).sound ?_)
  split
  · exact stage
  · exact sound

theorem sound_found (r : EpochRecord) (sound : s.mp.Sound true) : (s.found r).mp.Sound true := by
  refine State.sameBut_reconcile.sound (sound_captureIfArmed (g := true) _ _ _ ?_)
  exact (State.sameBut_notifyOwn (s := { s with gtu := s.gtu.found s.area r }) s.ownEntry).sound sound

/-- The port after a judgement: in shape outside the group, or inside it with the station in it. -/
def State.SoundJudged (t : State) : Prop := t.mp.Sound false ∨ (t.mp.Sound true ∧ t.participation.inGroup = true)

theorem State.SoundJudged.sound (judged : t.SoundJudged) : t.mp.Sound t.participation.inGroup := by
  rcases judged with outside | ⟨inside, group⟩
  · exact outside.anywhere
  · rwa [group]

theorem sound_inGroup (sound : t.mp.Sound true) {p : Participation} (is : t.pc.participation = p) (group : p.inGroup = true) : t.SoundJudged :=
  .inr ⟨sound, by rw [State.participation, is, group]⟩

theorem soundJudged_outcome {r : EpochRecord} (outcome : Outcome r s t) (sound : s.mp.Sound s.participation.inGroup) : t.SoundJudged := by
  have port {v : State} (counts : v.Counts s) : v.mp = s.mp := by rw [counts.rest]
  have same {v : State} (counts : v.Counts s) : v.mp.Sound v.participation.inGroup := by rw [port counts, counts.participation]; exact sound
  have inside {v : State} (counts : v.Counts s) : v.mp.Sound true := (same counts).inside
  cases outcome with
  | counts _ counts p =>
    rcases p with p | p
    · rw [p] at sound
      exact .inl (by rw [port counts]; exact sound)
    · exact sound_inGroup (p := .learning) (inside counts) (counts.participation.trans p) rfl
  | apart _ counts _ _ _ => exact .inl (sound_setApart _ _ (same counts))
  | sync _ counts _ => exact .inl (sound_syncLoss (same counts))
  | learns _ counts _ => exact sound_inGroup (p := .learning) ((State.sameBut_moveTo _).sound (inside counts)) rfl rfl
  | founds _ counts _ => exact sound_inGroup (p := .inStep) (sound_found r (inside counts)) (by simp) rfl
  | applies _ counts p =>
    exact sound_inGroup (p := .learning) (sound_applyRecord false r (inside counts)) (by rw [State.applyRecord_pc]; exact counts.participation.trans p) rfl
  | joins _ counts _ =>
    exact sound_inGroup (p := .inStep) ((State.sameBut_reconcile.trans State.sameBut_joinStep).sound (sound_applyRecord false r (inside counts))) (by simp) rfl
  | falls _ counts _ _ => exact sound_inGroup (p := .learning) ((State.sameBut_fall _).sound (inside counts)) (by simp) rfl
  | splits _ counts _ _ =>
    exact sound_inGroup (p := .learning) (sound_applyRecord false r ((State.sameBut_fall _).sound (inside counts))) (by simp) rfl
  | inStep _ counts p =>
    exact sound_inGroup (p := .inStep) (sound_applyRecord true r (inside counts)) (by rw [State.applyRecord_pc]; exact counts.participation.trans p) rfl

theorem sound_deliver (r : EpochRecord) (sound : s.mp.Sound s.participation.inGroup) : (s.deliver r).mp.Sound (s.deliver r).participation.inGroup :=
  deliver_keeps (P := fun u => u.mp.Sound u.participation.inGroup) r (fun law => law) (fun _ _ outcome law => (soundJudged_outcome outcome law).sound)
    (fun u b law => by rw [State.participation, State.countHead_pc]; exact (State.sameBut_countHead b).sound law) sound

/-! ## The soft reset -/

theorem Mp.sound_softReset {g : Bool} {m : Mp} (sound : m.Sound g) : m.softReset.Sound g := by
  unfold Mp.softReset Mp.softDiscard
  split
  · exact Mp.sound_of_kept rfl rfl rfl rfl rfl rfl rfl rfl (Mp.sound_discard (g := g) (x := .idle) sound.2 (by decide) fun armed => by cases armed)
  · exact Mp.sound_of_kept rfl rfl rfl rfl rfl rfl rfl rfl sound

theorem sound_portSoftReset {g h : Bool} (sound : s.mp.Sound g) : s.portSoftReset.mp.Sound h :=
  sound_captureIfArmed (g := g) _ _ _ (Mp.sound_softReset sound)

theorem sound_cardSoftReset {g h : Bool} (clearsFirst : Bool) (sound : s.mp.Sound g) : (s.cardSoftReset clearsFirst).mp.Sound h := by
  cases clearsFirst with
  | true => exact State.sameBut_engineSoftReset.sound (sound_portSoftReset sound)
  | false => exact sound_portSoftReset (s := s.engineSoftReset.commandsSoftReset) (State.sameBut_engineSoftReset.sound sound)

theorem State.sameBut_softWithdraw : s.softWithdraw.mp.SameButStatus s.mp := by
  unfold State.softWithdraw
  split
  · exact .rfl
  · exact State.offer_mp _ _

theorem outside_of_unstarted {p : Participation} (unbegun : unstarted p = true) : p.inGroup = false := by cases p <;> first | rfl | cases unbegun

/-- Every move keeps the snapshot unit in shape and the windows bounded. -/
theorem Move.sound (move : Move s t) (law : Started s ∧ s.mp.Sound s.participation.inGroup) : Started t ∧ t.mp.Sound t.participation.inGroup := by
  obtain ⟨started, sound⟩ := law
  refine ⟨move.started started, ?_⟩
  have same (port : t.mp.SameButStatus s.mp) (pc : t.pc = s.pc) : t.mp.Sound t.participation.inGroup := by
    rw [State.participation, pc]
    exact port.sound sound
  have outside (port : t.mp.SameButStatus s.mp) (left : s.participation.inGroup = false) : t.mp.Sound t.participation.inGroup := by
    rw [left] at sound
    exact port.sound sound.anywhere
  cases move with
  | port m kept => exact kept sound
  | deliver r => exact sound_deliver r sound
  | release straps reset => exact outside (by simp only [State.sampleLines_mp]; exact .rfl) (by rw [reset]; rfl)
  | loadFails c reads => exact outside (Mp.sameBut_raise _ _) (by rw [started.2.2.2.2.resolve_left reads]; rfl)
  | freeze src f before _ =>
    refine outside (State.sameBut_freeze src f) ?_
    rcases before with reads | p
    · rw [started.2.2.2.2.resolve_left reads]
      rfl
    · rw [p]
      rfl
  | filter n f => exact same State.sameBut_deriveOwn (by simp)
  | silence timer silent _ => exact same State.sameBut_deriveOwn (by simp)
  | submit k => rw [State.submit_eq]; exact sound
  | acknowledge x => rw [State.acknowledge_eq]; exact sound
  | expireHead => exact same State.sameBut_expireHead (by simp)
  | enters d i _ => exact same (s.engineOnly_sequenceEnters d i).mp (by simp)
  | completes d _ => exact same (s.engineOnly_sequenceCompletes d).mp (by simp)
  | fault f => exact same (s.engineOnly_engineFault f).mp (by simp)
  | rejoin apart => exact outside (Mp.sameBut_raise _ _) (by rcases apart with p | p <;> rw [p] <;> rfl)
  | softReset clearsFirst _ =>
    refine State.sameBut_softWithdraw.sound ?_
    rw [State.participationSoftReset_mp]
    exact sound_cardSoftReset clearsFirst sound
  | resume _ => exact same (State.runQueue_mp _ _) (by simp)
  | restart _ => exact same State.sameBut_reconcile (by simp)
  | stop => exact same (State.judgeMonitor_mp _) (by simp)
  | latch _ => exact same (by simp only [State.epochBegins_mp, State.latch_mp]; exact .rfl) (by simp)
  | _ => exact sound

/-! ## The counters -/

/-- The counters and the sync history within their limits. -/
def Pc.Bounded (p : Pc) : Prop :=
  p.syncHistory.length ≤ 8 ∧ (p.participation.inGroup = true → (p.syncHistory.filter id).length < 3) ∧
    (p.participation = .listening →
      p.cleanCount < 8 ∧ p.cleanCount ≤ p.syncHistory.length ∧ ∀ v ∈ p.syncHistory.take p.cleanCount, v = false) ∧
    p.verifyCount < 16 ∧ p.noNarratorCount < 16

theorem countersBounded_iff : CountersBounded s ↔ s.pc.Bounded := Iff.rfl

/-- Outside LISTENING and the group the history's length and the learning counters alone are bounded. -/
theorem Pc.Bounded.elsewhere {p q : Pc} (bounded : p.Bounded) (history : q.syncHistory.length ≤ 8) (verify : q.verifyCount = p.verifyCount)
    (silent : q.noNarratorCount = p.noNarratorCount) (outside : q.participation.inGroup = false) (other : q.participation ≠ .listening) : q.Bounded := by
  obtain ⟨-, -, -, verifies, hears⟩ := bounded
  refine ⟨history, fun inside => ?_, fun listening => absurd listening other, verify ▸ verifies, silent ▸ hears⟩
  rw [outside] at inside
  cases inside

/-- In LISTENING the clean epochs counted stand in the history. -/
theorem Pc.bounded_counting {p : Pc} (participation : p.participation = .listening) (history : p.syncHistory.length ≤ 8) (few : p.cleanCount < 8)
    (counted : p.cleanCount ≤ p.syncHistory.length) (clean : ∀ v ∈ p.syncHistory.take p.cleanCount, v = false) (verify : p.verifyCount < 16)
    (silent : p.noNarratorCount < 16) : p.Bounded := by
  refine ⟨history, fun inside => ?_, fun _ => ⟨few, counted, clean⟩, verify, silent⟩
  rw [participation] at inside
  cases inside

theorem Pc.bounded_listening {p : Pc} (participation : p.participation = .listening) (history : p.syncHistory = []) (clean : p.cleanCount = 0)
    (verify : p.verifyCount = 0) (silent : p.noNarratorCount = 0) : p.Bounded :=
  Pc.bounded_counting participation (by simp [history]) (by simp [clean]) (by simp [clean]) (by simp [clean]) (by simp [verify]) (by simp [silent])

/-- In the group the history is what counts. -/
theorem Pc.bounded_inGroup {p : Pc} (inside : p.participation.inGroup = true) (history : p.syncHistory.length ≤ 8)
    (few : (p.syncHistory.filter id).length < 3) (verify : p.verifyCount < 16) (silent : p.noNarratorCount < 16) : p.Bounded := by
  refine ⟨history, fun _ => few, fun listening => ?_, verify, silent⟩
  rw [listening] at inside
  cases inside

/-- The history after `r`, of clean records as far as was counted. -/
theorem clean_history {h : List Bool} {c : Nat} (few : c < 8) (counted : c ≤ h.length) (clean : ∀ v ∈ h.take c, v = false) :
    c + 1 ≤ ((false :: h).take 8).length ∧ ∀ v ∈ ((false :: h).take 8).take (c + 1), v = false := by
  refine ⟨by simp; omega, fun v listed => ?_⟩
  rw [List.take_take, Nat.min_eq_left (by omega), List.take_succ_cons, List.mem_cons] at listed
  exact listed.elim id (clean v)

/-- The history of a judged record, with no more than 8 verdicts. -/
theorem State.enterHistory_length (r : EpochRecord) : (s.enterHistory r).pc.syncHistory.length ≤ 8 := by
  show ((r.faults.any :: s.pc.syncHistory).take 8).length ≤ 8
  rw [List.length_take]
  exact Nat.min_le_left _ _

theorem bounded_setApart {dest : Participation} (c : Cause) (outside : dest.inGroup = false) (other : dest ≠ .listening) (history : s.pc.syncHistory.length ≤ 8)
    (verify : s.pc.verifyCount < 16) (silent : s.pc.noNarratorCount < 16) : (s.setApart dest c).pc.Bounded := by
  rw [State.setApart_pc]
  refine ⟨history, fun inside => ?_, fun listening => absurd listening other, verify, silent⟩
  rw [show Participation.inGroup _ = false from outside] at inside
  cases inside

theorem bounded_judgeListening (r : EpochRecord) (p : s.participation = .listening) (law : s.pc.Bounded) :
    ((s.enterHistory r).judgeListening r).pc.Bounded := by
  obtain ⟨length, -, clean, verify, silent⟩ := law
  obtain ⟨few, counted, cleanSoFar⟩ := clean p
  have history := s.enterHistory_length r
  by_cases dirty : r.faults.any = true ∨ r.presence s.sl.ownPos = true
  · rw [State.judgeListening_dirty (s := s.enterHistory r) dirty]
    exact Pc.bounded_counting (p := ((s.enterHistory r).countClean 0).pc) p history (Nat.succ_pos _) (Nat.zero_le _) (by simp [State.countClean]) verify silent
  · have framed : r.faults.any = false := by simpa using fun faulted => dirty (.inl faulted)
    have absent : r.presence s.sl.ownPos = false := by simpa using fun present => dirty (.inr present)
    obtain ⟨longer, cleanNow⟩ := clean_history few counted cleanSoFar
    have verdicts : (s.enterHistory r).pc.syncHistory = (false :: s.pc.syncHistory).take 8 := by rw [State.enterHistory_pc, framed]; rfl
    by_cases more : s.pc.cleanCount + 1 < 8
    · rw [State.judgeListening_counts (s := s.enterHistory r) framed absent more]
      refine Pc.bounded_counting (p := ((s.enterHistory r).countClean (s.pc.cleanCount + 1)).pc) p history more ?_ ?_ verify silent
      · show s.pc.cleanCount + 1 ≤ (s.enterHistory r).pc.syncHistory.length
        rwa [verdicts]
      · show ∀ v ∈ (s.enterHistory r).pc.syncHistory.take (s.pc.cleanCount + 1), v = false
        rwa [verdicts]
    · have many : 8 ≤ s.pc.cleanCount + 1 := Nat.not_lt.mp more
      by_cases agrees : r.digestVerdict = .noNarrator ∨ r.digestVerdict = .consistent ∧ r.digestTrue = (s.enterHistory r).ownDigest
      · rw [State.judgeListening_learns (s := s.enterHistory r) framed absent many agrees]
        have none_faulted : (s.enterHistory r).pc.syncHistory.filter id = [] := by
          rw [verdicts, List.filter_eq_nil_iff]
          intro v listed
          have short : ((false :: s.pc.syncHistory).take 8).length ≤ s.pc.cleanCount + 1 := by
            rw [List.length_take]
            exact (Nat.min_le_left _ _).trans many
          rw [← List.take_of_length_le short] at listed
          simp [cleanNow v listed]
        have few_faulted : ((s.enterHistory r).pc.syncHistory.filter id).length < 3 := by rw [none_faulted]; exact Nat.succ_pos _
        exact Pc.bounded_inGroup rfl history few_faulted (Nat.succ_pos _) (Nat.succ_pos _)
      · rw [State.judgeListening_isolates (s := s.enterHistory r) framed absent many (fun silent => agrees (.inl silent))
          (fun consistent same => agrees (.inr ⟨consistent, same⟩))]
        exact bounded_setApart _ rfl (by decide) history verify silent

theorem bounded_judgeLearning (r : EpochRecord) (p : s.participation = .learning) (few : (s.enterHistory r).faultedVerdicts < 3) (law : s.pc.Bounded) :
    ((s.enterHistory r).judgeLearning r).pc.Bounded := by
  obtain ⟨-, -, -, verify, silent⟩ := law
  have history := s.enterHistory_length r
  have learning : (s.enterHistory r).pc.participation = .learning := p
  obtain ⟨faulted, isolates, applies⟩ := State.judgeLearning_pc (s := s.enterHistory r) (r := r)
  have bounded {q : Pc} (is : q.syncHistory = (s.enterHistory r).pc.syncHistory) (inside : q.participation.inGroup = true) (verify : q.verifyCount < 16)
      (silent : q.noNarratorCount < 16) : q.Bounded :=
    Pc.bounded_inGroup inside (is ▸ history) (is ▸ few) verify silent
  cases faults : r.faults.any with
  | true =>
    rw [faulted faults]
    exact bounded rfl (by rw [learning]; rfl) (Nat.succ_pos _) (Nat.succ_pos _)
  | false =>
    by_cases agrees : r.digestVerdict = .consistent → r.digestTrue = (s.enterHistory r).ownDigest
    · obtain ⟨joins, learns⟩ := applies faults agrees
      by_cases enough : 16 ≤ ((s.enterHistory r).learned r).1 ∨ 16 ≤ ((s.enterHistory r).learned r).2
      · rw [joins enough]
        exact bounded rfl rfl (Nat.succ_pos _) (Nat.succ_pos _)
      · obtain ⟨fewer, heard⟩ := not_or.mp enough
        rw [learns (Nat.not_le.mp fewer) (Nat.not_le.mp heard)]
        exact bounded rfl (by rw [learning]; rfl) (Nat.not_le.mp fewer) (Nat.not_le.mp heard)
    · obtain ⟨consistent, differs⟩ := Classical.not_imp.mp agrees
      rw [State.judgeLearning_isolates (s := s.enterHistory r) faults consistent differs]
      exact bounded_setApart _ rfl (by decide) history verify silent

theorem bounded_judgeInStep (r : EpochRecord) (p : s.participation = .inStep) (few : (s.enterHistory r).faultedVerdicts < 3) (law : s.pc.Bounded) :
    ((s.enterHistory r).judgeInStep r).pc.Bounded := by
  obtain ⟨-, -, -, verify, silent⟩ := law
  have history := s.enterHistory_length r
  have inStep : (s.enterHistory r).pc.participation = .inStep := p
  unfold State.judgeInStep
  split
  · rw [State.fall_pc]
    exact Pc.bounded_inGroup rfl history few (Nat.succ_pos _) (Nat.succ_pos _)
  split
  · exact bounded_setApart _ rfl (by decide) history verify silent
  split
  · rw [State.applyRecord_pc, State.fall_pc]
    exact Pc.bounded_inGroup rfl history few (Nat.succ_pos _) (Nat.succ_pos _)
  · rw [State.applyRecord_pc]
    exact Pc.bounded_inGroup (by rw [inStep]; rfl) history few verify silent

theorem bounded_judge (r : EpochRecord) (timed : s.participation.timed = true) (law : s.pc.Bounded) : (s.judge r).pc.Bounded := by
  obtain ⟨history, -, -, verify, silent⟩ := id law
  cases drive : r.driveFault with
  | true =>
    rw [State.judge_drive drive]
    exact bounded_setApart _ rfl (by decide) history verify silent
  | false =>
    cases foreign : r.foreign s.sl.ownPos with
    | true =>
      rw [State.judge_foreign drive foreign]
      exact bounded_setApart _ rfl (by decide) history verify silent
    | false =>
      rcases timed_iff.mp timed with p | g
      · rw [State.judge_listening drive foreign p]
        exact bounded_judgeListening r p law
      · by_cases many : 3 ≤ (s.enterHistory r).faultedVerdicts
        · rw [State.judge_sync drive foreign g many, State.syncLoss_pc]
          exact Pc.bounded_listening rfl rfl rfl rfl rfl
        · have few := Nat.not_le.mp many
          cases p : s.participation <;> rw [p] at g <;> try cases g
          · rw [State.judge_learning drive foreign few p]
            exact bounded_judgeLearning r p few law
          · rw [State.judge_inStep drive foreign few p]
            exact bounded_judgeInStep r p few law

theorem bounded_deliver (r : EpochRecord) (law : s.pc.Bounded) : (s.deliver r).pc.Bounded := by
  by_cases timed : s.participation.timed = true
  · rw [State.deliver_pc timed]
    exact bounded_judge (s := s.seen r) r timed law
  · by_cases apart : s.participation = .isolated ∨ s.participation = .conflict
    · rw [State.deliver_apart apart]
      exact law
    · rw [State.deliver_deaf (by simpa [Participation.receiving, timed] using apart)]
      exact law

theorem bounded_enterListening : s.enterListening.pc.Bounded := Pc.bounded_listening rfl rfl rfl rfl rfl

/-- Every move keeps the counters within their limits. -/
theorem Move.counters (move : Move s t) (law : s.pc.Bounded) : t.pc.Bounded := by
  obtain ⟨history, -, -, verify, silent⟩ := id law
  cases move with
  | deliver r => exact bounded_deliver r law
  | release straps _ =>
    simp only [State.sampleLines_pc, State.enterLoading_pc]
    exact law.elsewhere history rfl rfl rfl nofun
  | loadFails c _ => exact law.elsewhere (q := (s.loadFails c).pc) history rfl rfl rfl nofun
  | freeze src f _ _ =>
    rw [State.freeze_eq, State.offer_pc]
    exact bounded_enterListening
  | rejoin _ => exact bounded_enterListening
  | softReset clearsFirst _ =>
    have card : (s.cardSoftReset clearsFirst).pc.Bounded := by rwa [State.cardSoftReset_pc]
    rw [State.softWithdraw_pc]
    unfold State.participationSoftReset
    split
    · exact Pc.bounded_listening rfl rfl rfl rfl rfl
    · exact Pc.bounded_listening rfl rfl rfl rfl rfl
    · exact bounded_enterListening
    all_goals exact card
  | submit k => rw [State.submit_eq]; exact law
  | acknowledge x => rw [State.acknowledge_eq]; exact law
  | clock _ _ _ => exact law
  | port _ _ => exact law
  | wire _ _ _ => exact law
  | loader _ _ _ _ _ => exact law
  | pins _ => exact law
  | wtrExpires _ => exact law
  | waited _ _ _ => exact law
  | setEngine _ _ => exact law
  | latch _ => rwa [State.epochBegins_pc, State.latch_pc]
  | filter _ _ => rwa [State.deriveOwn_pc]
  | silence _ _ _ => rwa [State.deriveOwn_pc]
  | expireHead => rwa [State.expireHead_pc]
  | enters _ _ _ => rwa [State.sequenceEnters_pc]
  | completes _ _ => rwa [State.sequenceCompletes_pc]
  | fault _ => rwa [State.engineFault_pc]
  | resume _ => rwa [State.runQueue_pc]
  | restart _ => rwa [State.reconcile_pc]
  | stop => rwa [State.engineStop_pc]

theorem State.FullyReset.sound (reset : t.FullyReset) : (Started t ∧ t.mp.Sound t.participation.inGroup) ∧ t.pc.Bounded := by
  refine ⟨⟨reset.started, ?_⟩, ?_⟩ <;> obtain ⟨low, since, deaf, pins, now, choices, pending, rfl⟩ := reset
  · exact ⟨⟨⟨nofun, nofun⟩, ⟨nofun, nofun⟩, nofun⟩, Nat.zero_le _, Nat.zero_le _, Nat.zero_le _, rfl, rfl, rfl, rfl⟩
  · exact ⟨Nat.zero_le _, nofun, nofun, Nat.succ_pos _, Nat.succ_pos _⟩

end

/-- Settles O60, by the moves. -/
theorem stepKeepsWindowsAndCounters : Obligations.StepKeepsWindowsAndCounters := by
  intro s t lawful steps
  obtain ⟨started, -, -, -, -, -, -, -, -, -, -, unit, windows, counters, -⟩ := lawful
  obtain ⟨⟨-, unitAfter, windowsAfter⟩, countersAfter⟩ :=
    step_keeps (P := fun s => (Started s ∧ s.mp.Sound s.participation.inGroup) ∧ s.pc.Bounded) State.FullyReset.sound
      (fun move law => ⟨move.sound law.1, move.counters law.2⟩) ⟨⟨started, unit, windows⟩, counters⟩ steps
  exact ⟨unitAfter, windowsAfter, countersAfter⟩

end Sys2Proof.Machine
end

section
/-! SUPPORT. The monitor's law (R111, R112, R114), kept by every move. -/

namespace Sys2Proof.Machine

open Sys2Proof.Safety

/-- The monitor's law but for its activity: the silence timer and TX-SILENT only while active, and the own condition its sources give. -/
structure State.MonitorCalm (s : State) : Prop where
  timer : s.cm.silenceTimer.isSome = true → s.cm.monitorActive = true
  silent : s.cm.txSilent = true → s.cm.monitorActive = true
  own : s.cm.own = s.ownConditionNow

section
variable {s t : State}

theorem monitorJudged_iff : MonitorJudged s ↔ s.cm.monitorActive = s.monitorCalled ∧ s.MonitorCalm :=
  ⟨fun ⟨active, timer, silent, own⟩ => ⟨active, timer, silent, own⟩, fun ⟨active, timer, silent, own⟩ => ⟨active, timer, silent, own⟩⟩

/-! ## What the laws read -/

theorem State.area_congr (config : t.sl.config = s.sl.config) : t.area = s.area := by unfold State.area; rw [config]

theorem State.ownRole_congr (config : t.sl.config = s.sl.config) (own : t.sl.ownPos = s.sl.ownPos) : t.ownRole = s.ownRole := by
  unfold State.ownRole
  rw [State.area_congr config, own]

theorem State.lineEnabled_congr (config : t.sl.config = s.sl.config) (n : Fin 4) : t.lineEnabled n = s.lineEnabled n := by
  unfold State.lineEnabled State.frozen
  rw [State.area_congr config, config]

theorem State.monitorCalled_congr (actuated : t.ae.actuated = s.ae.actuated) (moving : t.ae.engine.moving = s.ae.engine.moving)
    (config : t.sl.config = s.sl.config) (own : t.sl.ownPos = s.sl.ownPos) : t.monitorCalled = s.monitorCalled := by
  unfold State.monitorCalled State.silenceThreshold State.frozen
  rw [State.area_congr config, State.ownRole_congr config own, actuated, moving, config]

/-- The own condition reads the configuration, the filtered levels and TX-SILENT. -/
theorem State.ownConditionNow_same (config : t.sl.config = s.sl.config) (filtered : ∀ n, (t.filter n).filtered = (s.filter n).filtered)
    (silent : t.cm.txSilent = s.cm.txSilent) : t.ownConditionNow = s.ownConditionNow := by
  unfold State.ownConditionNow
  simp only [State.lineEnabled_congr config, filtered, silent]

theorem calm_congr (cm : t.cm = s.cm) (config : t.sl.config = s.sl.config) (calm : s.MonitorCalm) : t.MonitorCalm := by
  have own : t.ownConditionNow = s.ownConditionNow :=
    State.ownConditionNow_same config (fun n => by rw [State.filter, State.filter, cm]) (by rw [cm])
  exact ⟨by rw [cm]; exact calm.timer, by rw [cm]; exact calm.silent, by rw [cm, own]; exact calm.own⟩

theorem judged_congr (cm : t.cm = s.cm) (actuated : t.ae.actuated = s.ae.actuated) (moving : t.ae.engine.moving = s.ae.engine.moving)
    (config : t.sl.config = s.sl.config) (own : t.sl.ownPos = s.sl.ownPos) (law : MonitorJudged s) : MonitorJudged t := by
  obtain ⟨active, calm⟩ := monitorJudged_iff.mp law
  refine monitorJudged_iff.mpr ⟨?_, calm_congr cm config calm⟩
  rw [cm, State.monitorCalled_congr actuated moving config own]
  exact active

/-- The laws of the monitor read the monitor, the engine and the loader alone. -/
theorem judged_still (ae : t.ae = s.ae) (cm : t.cm = s.cm) (sl : t.sl = s.sl) (law : MonitorJudged s) : MonitorJudged t :=
  judged_congr cm (by rw [ae]) (by rw [ae]) (by rw [sl]) (by rw [sl]) law

/-! ## Judgements and derivations -/

theorem State.monitorCalled_deriveOwn : s.deriveOwn.monitorCalled = s.monitorCalled :=
  State.monitorCalled_congr (by simp) (by simp) (by simp) (by simp)

/-- A derivation of the own condition is all a state misses whose timer and TX-SILENT are in order. -/
theorem calm_deriveOwn (timer : s.cm.silenceTimer.isSome = true → s.cm.monitorActive = true)
    (silent : s.cm.txSilent = true → s.cm.monitorActive = true) : s.deriveOwn.MonitorCalm := by
  refine ⟨?_, ?_, by rw [State.deriveOwn_own, State.ownConditionNow_deriveOwn]⟩ <;> rw [State.deriveOwn_cm]
  · exact timer
  · exact silent

theorem judged_deriveOwn (active : s.cm.monitorActive = s.monitorCalled) (timer : s.cm.silenceTimer.isSome = true → s.cm.monitorActive = true)
    (silent : s.cm.txSilent = true → s.cm.monitorActive = true) : MonitorJudged s.deriveOwn := by
  refine monitorJudged_iff.mpr ⟨?_, calm_deriveOwn timer silent⟩
  rw [State.monitorCalled_deriveOwn, State.deriveOwn_cm]
  exact active

theorem State.monitorCalled_judgeMonitor : s.judgeMonitor.monitorCalled = s.monitorCalled :=
  State.monitorCalled_congr (by simp) (by simp) (by simp) (by simp)

/-- A judgement of the activity keeps the timer and TX-SILENT in order. -/
theorem inOrder_judgeMonitor (timer : s.cm.silenceTimer.isSome = true → s.cm.monitorActive = true)
    (silent : s.cm.txSilent = true → s.cm.monitorActive = true) :
    (s.judgeMonitor.cm.silenceTimer.isSome = true → s.judgeMonitor.cm.monitorActive = true) ∧
      (s.judgeMonitor.cm.txSilent = true → s.judgeMonitor.cm.monitorActive = true) := by
  unfold State.judgeMonitor
  split
  · exact ⟨timer, silent⟩
  split
  · exact ⟨fun _ => rfl, fun _ => rfl⟩
  · rw [State.deriveOwn_cm]
    exact ⟨nofun, nofun⟩

/-- The judgement of the activity is all a calm monitor misses. -/
theorem judged_judgeMonitor (calm : s.MonitorCalm) : MonitorJudged s.judgeMonitor := by
  obtain ⟨timer, silent⟩ := inOrder_judgeMonitor calm.timer calm.silent
  refine ⟨by rw [State.judgeMonitor_active, State.monitorCalled_judgeMonitor], timer, silent, ?_⟩
  unfold State.judgeMonitor
  split
  · exact calm.own
  split
  · exact calm.own
  · rw [State.deriveOwn_own, State.ownConditionNow_deriveOwn]

/-- The freeze takes the parameters over and judges anew. -/
theorem judged_takeParameters (timer : s.cm.silenceTimer.isSome = true → s.cm.monitorActive = true)
    (silent : s.cm.txSilent = true → s.cm.monitorActive = true) : MonitorJudged s.takeParameters := by
  obtain ⟨timer, silent⟩ := inOrder_judgeMonitor (s := allLines.foldl State.judgeLine s) timer silent
  exact judged_deriveOwn (by rw [State.judgeMonitor_active, State.monitorCalled_judgeMonitor]) timer silent

/-- Lines judged before the freeze change no filtered level, the holdoff being 100 ms (R109). -/
theorem State.judgedFilter_unfrozen (unfrozen : s.sl.config = none) (n : Fin 4) : (s.judgedFilter n).filtered = (s.filter n).filtered := by
  have holdoff : s.holdoff (s.filter n).filtered (s.raw n) ≠ 0 := by
    simp [State.holdoff, State.setHoldoff, State.clearHoldoff, State.frozen, unfrozen, ms]
  unfold State.judgedFilter
  simp only [holdoff, if_false]
  split <;> rfl

theorem judged_sampleLines (unfrozen : s.sl.config = none) (law : MonitorJudged s) : MonitorJudged s.sampleLines := by
  obtain ⟨active, timer, silent, own⟩ := law
  have levels (n : Fin 4) : (s.sampleLines.filter n).filtered = (s.filter n).filtered := by
    rw [State.sampleLines, State.filter_judgeLines]
    exact State.judgedFilter_unfrozen unfrozen n
  have called : s.sampleLines.monitorCalled = s.monitorCalled := State.monitorCalled_congr (by simp) (by simp) (by simp) (by simp)
  have derived : s.sampleLines.ownConditionNow = s.ownConditionNow := State.ownConditionNow_same (by simp) levels rfl
  exact ⟨active.trans called.symm, timer, silent, own.trans derived.symm⟩

/-! ## The engine's operations -/

theorem calm_ae (a : Ae) (calm : s.MonitorCalm) : ({ s with ae := a } : State).MonitorCalm := calm_congr (s := s) rfl rfl calm

theorem calm_completed (d : Directive) (calm : s.MonitorCalm) : (s.completed d).MonitorCalm :=
  calm_congr (s.completed_cm d) (by rw [State.completed_sl]) calm

theorem judged_engineFault (f : FaultRecord) (calm : s.MonitorCalm) : MonitorJudged (s.engineFault f) :=
  judged_judgeMonitor (calm_congr (s := s) rfl rfl calm)

/-- Records entered by a moving engine leave the monitor as judged. -/
theorem judged_entered {a : Ae} (same : s.ae.SameAccounts a) (moving : s.ae.engine.moving = true) (law : MonitorJudged s) :
    MonitorJudged { s with ae := a } := by
  obtain ⟨active, calm⟩ := monitorJudged_iff.mp law
  refine monitorJudged_iff.mpr ⟨?_, calm_ae a calm⟩
  have before : s.monitorCalled = false := by simp [State.monitorCalled, moving]
  have after : ({ s with ae := a } : State).monitorCalled = false := by
    have still : a.engine.moving = true := by rw [same.engine, moving]
    simp [State.monitorCalled, still]
  rw [after]
  exact active.trans before

theorem judged_runQueue {l : List Directive} (calm : s.MonitorCalm) : MonitorJudged (s.runQueue l) := by
  induction l generalizing s with
  | nil => exact judged_judgeMonitor (calm_ae _ calm)
  | cons d rest ih =>
    cases entry : s.dirEntry d with
    | none =>
      rw [State.runQueue_none s d rest entry]
      exact ih (calm_completed d (calm_ae _ calm))
    | some i =>
      have begun : MonitorJudged (s.sequenceBegins d rest) := judged_judgeMonitor (calm_ae _ calm)
      have moving : (s.sequenceBegins d rest).ae.engine.moving = true := by rw [State.sequenceBegins_ae]; rfl
      have same := Ae.sameAccounts_enter s.steps s.pins.fb s.now i (s.sequenceBegins d rest).ae
      obtain ⟨⟨a, ending⟩, enters⟩ : ∃ e, (s.sequenceBegins d rest).ae.enter s.steps s.pins.fb s.now i = e := ⟨_, rfl⟩
      rw [enters] at same
      have entered : MonitorJudged { s.sequenceBegins d rest with ae := a } := judged_entered same moving begun
      have equations := State.runQueue_of_enter (rest := rest) (a := a) entry
      cases ending with
      | waits =>
        rw [equations.1 enters]
        exact entered
      | loops j =>
        rw [equations.2.1 j enters]
        exact judged_engineFault _ (monitorJudged_iff.mp entered).2
      | completes =>
        rw [equations.2.2 enters]
        exact ih (calm_completed d (monitorJudged_iff.mp entered).2)

theorem judged_sequenceCompletes (d : Directive) (calm : s.MonitorCalm) : MonitorJudged (s.sequenceCompletes d) := by
  by_cases holding : s.ae.engine = .holding
  · rw [State.sequenceCompletes_holding holding]
    exact judged_judgeMonitor (calm_congr (s := s.completed d) rfl rfl (calm_completed d calm))
  · rw [State.sequenceCompletes_not_holding holding]
    exact judged_runQueue (calm_completed d calm)

theorem judged_sequenceEnters (d : Directive) (i : Nat) (moving : s.ae.engine.moving = true) (law : MonitorJudged s) :
    MonitorJudged (s.sequenceEnters d i) := by
  have same := Ae.sameAccounts_enter s.steps s.pins.fb s.now i s.ae
  obtain ⟨⟨a, ending⟩, enters⟩ : ∃ e, s.ae.enter s.steps s.pins.fb s.now i = e := ⟨_, rfl⟩
  rw [enters] at same
  have entered : MonitorJudged { s with ae := a } := judged_entered same moving law
  have equations := State.sequenceEnters_of_enter (s := s) (d := d) (i := i) (a := a)
  cases ending with
  | waits =>
    rw [equations.1 enters]
    exact entered
  | loops j =>
    rw [equations.2.1 j enters]
    exact judged_engineFault _ (monitorJudged_iff.mp entered).2
  | completes =>
    rw [equations.2.2 enters]
    exact judged_sequenceCompletes d (monitorJudged_iff.mp entered).2

theorem judged_offer (d : Directive) (law : MonitorJudged s) : MonitorJudged (s.offer d) := by
  have calm := (monitorJudged_iff.mp law).2
  by_cases idle : s.ae.engine = .idle
  · rw [State.offer_idle s d idle]
    exact judged_runQueue (calm_ae _ calm)
  by_cases out : s.ae.engine.out = true
  · rwa [State.offer_out s d out]
  have queues : s.ae.engine.queues = true := by cases e : s.ae.engine <;> simp_all [Engine.out, Engine.queues]
  cases coalesces : s.ae.coalesces d with
  | true =>
    rw [State.offer_coalesces s d queues coalesces]
    exact judged_congr (s := s) rfl rfl rfl rfl rfl law
  | false =>
    by_cases room : s.ae.queue.length < queueDepth
    · rw [State.offer_appends s d queues coalesces room]
      exact judged_congr (s := s) rfl rfl rfl rfl rfl law
    · rw [State.offer_overflows s d queues coalesces room]
      exact judged_engineFault _ calm

theorem judged_asks (asks : Asks s t) (law : MonitorJudged s) : MonitorJudged t :=
  asks.keep (P := MonitorJudged) judged_still judged_offer law

theorem judged_cardSoftReset (clearsFirst : Bool) (calm : s.MonitorCalm) : MonitorJudged (s.cardSoftReset clearsFirst) := by
  have port : s.portSoftReset.MonitorCalm := calm_congr (by simp) (by simp) calm
  cases clearsFirst with
  | true => exact judged_still rfl rfl rfl (judged_judgeMonitor (calm_ae _ port) : MonitorJudged s.portSoftReset.engineSoftReset)
  | false =>
    have reset : MonitorJudged s.engineSoftReset := judged_judgeMonitor (calm_ae _ calm)
    exact judged_still (s := s.engineSoftReset) (by simp [State.cardSoftReset]) (by simp [State.cardSoftReset]) (by simp [State.cardSoftReset]) reset

theorem moving_eq_of_exchanges {e f : Engine} (exchanges : e.Exchanges f) : f.moving = e.moving := by
  rcases exchanges with ⟨rfl, rfl⟩ | ⟨rfl, rfl⟩ | ⟨rfl, rfl⟩ <;> rfl

/-- Every move keeps the monitor judged, for a station whose start-up and engine are in order. -/
theorem Move.monitor (move : Move s t) (law : (Started s ∧ s.ae.Balanced) ∧ MonitorJudged s) : (Started t ∧ t.ae.Balanced) ∧ MonitorJudged t := by
  obtain ⟨⟨started, balanced⟩, judged⟩ := law
  refine ⟨⟨move.started started, move.balanced balanced⟩, ?_⟩
  obtain ⟨active, calm⟩ := monitorJudged_iff.mp judged
  cases move with
  | deliver r => exact judged_asks (asks_deliver r) judged
  | release straps reset =>
    have unfrozen : s.sl.config = none := (started_before started (by rw [reset]; rfl)).2.2
    have released : MonitorJudged (s.setSl (s.sl.released straps s.now)).enterLoading := by
      obtain ⟨-, timer, silent, own⟩ := judged
      refine ⟨?_, timer, silent, own.trans (State.ownConditionNow_same rfl (fun _ => rfl) rfl).symm⟩
      have uncalled (u : State) (config : u.sl.config = none) : u.monitorCalled = false := by
        simp [State.monitorCalled, State.silenceThreshold, State.frozen, config]
      rw [uncalled _ (by exact unfrozen)]
      exact active.trans (uncalled s unfrozen)
    exact judged_sampleLines unfrozen released
  | loader l config own _ _ => exact judged_congr (s := s) rfl rfl rfl config own judged
  | loadFails c _ => exact judged_congr (s := s) rfl rfl rfl rfl rfl judged
  | freeze src f before _ =>
    have taken : MonitorJudged (({ s with sl := s.sl.freeze src f }).takeRoles f.area).takeParameters :=
      judged_takeParameters (by rw [State.takeRoles_cm]; exact calm.timer) (by rw [State.takeRoles_cm]; exact calm.silent)
    rw [State.freeze_eq, State.frozenBeforeStart]
    refine judged_offer _ (judged_still ?_ ?_ ?_ taken)
    · rw [State.raise_ae, State.enterListening_ae]
    · rw [State.raise_cm, State.enterListening_cm]
    · rw [State.raise_sl, State.enterListening_sl]
  | filter n f => exact judged_deriveOwn active calm.timer calm.silent
  | silence timer silent runs =>
    have on : s.cm.monitorActive = true := runs.elim id calm.timer
    exact judged_deriveOwn active (fun _ => on) (fun _ => on)
  | submit k => rw [State.submit_eq]; exact judged_still rfl rfl rfl judged
  | acknowledge x => rw [State.acknowledge_eq]; exact judged_still rfl rfl rfl judged
  | expireHead => exact judged_still (by simp) (by simp) (by simp) judged
  | waited _ _ _ => exact judged_congr (s := s) rfl rfl rfl rfl rfl judged
  | enters d i running => exact judged_sequenceEnters d i (balanced.moving ▸ running) judged
  | completes d _ => exact judged_sequenceCompletes d calm
  | fault f => exact judged_engineFault f calm
  | softReset clearsFirst _ =>
    refine judged_asks asks_softWithdraw ?_
    exact judged_still (by simp) (by simp) (by simp) (judged_cardSoftReset clearsFirst calm)
  | setEngine e exchanges => exact judged_congr (s := s) rfl rfl (moving_eq_of_exchanges exchanges) rfl rfl judged
  | resume _ => exact judged_runQueue calm
  | restart out =>
    have still : s.ae.engine.moving = false := by cases e : s.ae.engine <;> simp_all [Engine.out, Engine.moving]
    exact judged_asks asks_reconcile (judged_congr (s := s) rfl rfl still.symm rfl rfl judged)
  | stop => exact judged_judgeMonitor (calm_ae _ calm)
  | latch _ => exact judged_still (by simp) (by simp) (by simp) judged
  | _ => exact judged_still rfl rfl rfl judged

end

end Sys2Proof.Machine
end

section
/-! SUPPORT. The table outside the group (R41, R60), the command table in shape (R119, R120), and the restore slot and timer (R129 to R131), kept by every
move. -/

namespace Sys2Proof.Machine

open Sys2Proof.Safety

section
variable {s t : State}

/-! ## The table cleared outside the group -/

@[simp] theorem State.clearTable_gtu : s.clearTable.gtu = Gtu.cleared (blockRole s.area) := by
  rw [State.clearTable, State.notifyWaitRestore_gtu]

theorem State.leaveGroup_gtu (dest : Participation) :
    (s.leaveGroup dest).gtu = if s.participation.inGroup = true then Gtu.cleared (blockRole s.area) else s.gtu := by
  unfold State.leaveGroup
  split
  · rw [State.leave, State.clearTable_gtu, State.area_congr (s := s) (by simp)]
  · rfl

theorem State.setApart_gtu (dest : Participation) (c : Cause) : (s.setApart dest c).gtu = (s.leaveGroup dest).gtu := by simp [State.setApart]

theorem State.syncLoss_gtu : s.syncLoss.gtu = (s.leaveGroup .listening).gtu := by simp [State.syncLoss]

/-- A station that leaves the group, or was outside it, holds the cleared table. -/
theorem held_leaveGroup (dest : Participation) (law : TableHeldInGroup s) : (s.leaveGroup dest).gtu = Gtu.cleared (blockRole s.area) := by
  rw [State.leaveGroup_gtu]
  split
  · rfl
  · next outside => exact law (by simpa using outside)

theorem held_of_inGroup {p : Participation} (is : t.pc.participation = p) (inside : p.inGroup = true) : TableHeldInGroup t := by
  intro outside
  rw [State.participation, is, inside] at outside
  cases outside

theorem held_of_cleared (cleared : t.gtu = Gtu.cleared (blockRole s.area)) (sl : t.sl = s.sl) : TableHeldInGroup t := by
  intro _
  rw [cleared, State.area_congr (by rw [sl])]

theorem held_of_same (gtu : t.gtu = s.gtu) (pc : t.pc = s.pc) (sl : t.sl = s.sl) (law : TableHeldInGroup s) : TableHeldInGroup t := by
  intro outside
  rw [gtu, State.area_congr (s := s) (by rw [sl])]
  exact law (by rwa [State.participation, pc] at outside)

theorem held_outcome {r : EpochRecord} (outcome : Outcome r s t) (law : TableHeldInGroup s) : TableHeldInGroup t := by
  have counted {u : State} (counts : u.Counts s) : TableHeldInGroup u := by
    intro outside
    rw [counts.rest]
    exact law (by rwa [counts.participation] at outside)
  cases outcome with
  | counts _ counts _ => exact counted counts
  | apart u counts dest c _ =>
    exact held_of_cleared (s := u) (by rw [State.setApart_gtu]; exact held_leaveGroup dest (counted counts)) (by simp)
  | sync u counts _ => exact held_of_cleared (s := u) (by rw [State.syncLoss_gtu]; exact held_leaveGroup .listening (counted counts)) (by simp)
  | learns _ _ _ => exact held_of_inGroup (p := .learning) rfl rfl
  | founds _ _ _ => exact held_of_inGroup (p := .inStep) (by simp) rfl
  | applies _ counts p => exact held_of_inGroup (p := .learning) (by rw [State.applyRecord_pc]; exact counts.participation.trans p) rfl
  | joins _ _ _ => exact held_of_inGroup (p := .inStep) (by simp) rfl
  | falls _ _ _ _ => exact held_of_inGroup (p := .learning) (by simp) rfl
  | splits _ _ _ _ => exact held_of_inGroup (p := .learning) (by simp) rfl
  | inStep _ counts p => exact held_of_inGroup (p := .inStep) (by rw [State.applyRecord_pc]; exact counts.participation.trans p) rfl

theorem held_deliver (r : EpochRecord) (law : TableHeldInGroup s) : TableHeldInGroup (s.deliver r) :=
  deliver_keeps (P := TableHeldInGroup) r (fun law => law) (fun _ _ outcome law => held_outcome outcome law)
    (fun _ _ law => held_of_same (by simp) (by simp) (by simp) law) law

/-- Outside the group the requested state of a cleared table is RELEASED already. -/
theorem held_reconcile (law : TableHeldInGroup s) : TableHeldInGroup s.reconcile := by
  intro outside
  rw [State.participation, State.reconcile_pc] at outside
  have cleared := law outside
  rw [State.area_congr (s := s) (by rw [State.reconcile_sl])]
  unfold State.reconcile
  split
  · next p => rw [show s.pc.participation = _ from p] at outside; cases outside
  · next p => rw [show s.pc.participation = _ from p] at outside; cases outside
  iterate 3
    · split
      · exact cleared
      · rw [State.offerWithdraw, State.offer_gtu]
        exact cleared
  all_goals
    rw [State.setRequested_gtu, cleared]
    rfl

theorem State.participationSoftReset_gtu : s.participationSoftReset.gtu =
    if s.participation.inGroup = true then Gtu.cleared (blockRole s.area) else s.gtu := by
  unfold State.participationSoftReset
  split <;> next p => simp [p, Participation.inGroup]

theorem State.participationSoftReset_participation : s.participationSoftReset.participation =
    if s.participation.inGroup = true then .listening else s.participation := by
  unfold State.participationSoftReset
  split <;> next p => rw [p]; rfl

/-- The state a soft reset leaves before WITHDRAW is offered. -/
theorem held_participationSoftReset (law : TableHeldInGroup s) : TableHeldInGroup s.participationSoftReset := by
  refine held_of_cleared (s := s) ?_ (by simp)
  rw [State.participationSoftReset_gtu]
  split
  · rfl
  · next outside => exact law (by simpa using outside)

theorem State.freeze_gtu (src : LoadSource) (f : Frozen) : (s.freeze src f).gtu = Gtu.cleared (blockRole f.area) := by
  rw [State.freeze_eq, State.offer_gtu, State.frozenBeforeStart, State.raise_gtu, State.enterListening_gtu, State.takeParameters_gtu]
  rfl

theorem State.freeze_area (src : LoadSource) (f : Frozen) : (s.freeze src f).area = f.area := by
  rw [State.area, State.freeze_sl]
  rfl

/-- Every move keeps the table cleared outside the group. -/
theorem Move.held (move : Move s t) (law : Started s ∧ TableHeldInGroup s) : Started t ∧ TableHeldInGroup t := by
  obtain ⟨started, held⟩ := law
  refine ⟨move.started started, ?_⟩
  have same (gtu : t.gtu = s.gtu) (pc : t.pc = s.pc) (sl : t.sl = s.sl) : TableHeldInGroup t := held_of_same gtu pc sl held
  have cleared (outside : s.participation.inGroup = false) (gtu : t.gtu = s.gtu) (config : t.sl.config = s.sl.config) : TableHeldInGroup t := by
    intro _
    rw [gtu, State.area_congr config]
    exact held outside
  cases move with
  | deliver r => exact held_deliver r held
  | release straps reset => exact cleared (by rw [reset]; rfl) (by simp) (by simp [Sl.released])
  | loader l config _ _ _ =>
    intro outside
    rw [State.area_congr (s := s) config]
    exact held outside
  | loadFails c reads =>
    refine cleared ?_ rfl rfl
    obtain ⟨-, -, -, -, phase⟩ := started
    rw [phase.resolve_left reads]
    rfl
  | freeze src f _ _ =>
    intro _
    rw [State.freeze_gtu, State.freeze_area]
  | rejoin apart => exact cleared (by rcases apart with p | p <;> rw [p] <;> rfl) rfl rfl
  | softReset clearsFirst _ =>
    have card : TableHeldInGroup (s.cardSoftReset clearsFirst) := held_of_same (by simp) (by simp) (by simp) held
    exact held_of_same (by simp) (by simp) (by simp) (held_participationSoftReset card)
  | restart _ => exact held_reconcile (s := s.setEngine .idle) held
  | submit k => rw [State.submit_eq]; exact held
  | acknowledge x => rw [State.acknowledge_eq]; exact held
  | clock _ _ _ => exact held
  | port _ _ => exact held
  | wire _ _ _ => exact held
  | pins _ => exact held
  | wtrExpires _ => exact held
  | waited _ _ _ => exact held
  | setEngine _ _ => exact held
  | _ => exact same (by simp) (by simp) (by simp)

theorem blockRole_nil : blockRole [] = fun _ => .empty := by
  funext n
  simp [blockRole, blockRoleCode, byteAt]

theorem State.FullyReset.held (reset : t.FullyReset) : Started t ∧ TableHeldInGroup t := by
  refine ⟨reset.started, ?_⟩
  obtain ⟨low, since, deaf, pins, now, choices, pending, rfl⟩ := reset
  intro _
  show Gtu.cleared (fun _ => .empty) = Gtu.cleared (blockRole [])
  rw [blockRole_nil]

end

end Sys2Proof.Machine
end

section
/-! SUPPORT. The command table in shape (R119, R120), and the restore slot and the wait-to-restore timer (R129 to R131), kept by every move. -/

namespace Sys2Proof.Machine

open Sys2Proof.Safety

/-- A command table in shape, for a station that is IN_STEP or not. -/
structure TableShaped (inStep : Bool) (l : List CmdRecord) : Prop where
  room : l.length ≤ tableDepth
  tags : (l.map CmdRecord.tag).Nodup
  made : settleHead inStep l = l

/-- The timer runs or the slot is full only while the class is WAIT-RESTORE, and never both. -/
structure Cu.RestoreFits (cls : Cls) (c : Cu) : Prop where
  waits : c.wtrTimer.isSome = true ∨ c.restoreFull = true → cls = .waitRestore
  once : ¬(c.wtrTimer.isSome = true ∧ c.restoreFull = true)

section
variable {s t : State}

theorem tableShaped_iff : CommandTableShaped s ↔ TableShaped (s.participation = .inStep) s.cu.table :=
  ⟨fun ⟨room, tags, made⟩ => ⟨room, tags, made⟩, fun ⟨room, tags, made⟩ => ⟨room, tags, made⟩⟩

theorem restoreFits_iff : RestoreOnlyInWaitRestore s ↔ s.cu.RestoreFits s.ownEntry.cls :=
  ⟨fun ⟨waits, once⟩ => ⟨waits, once⟩, fun ⟨waits, once⟩ => ⟨waits, once⟩⟩

/-! ## The command table -/

/-- A table whose head has been made is in shape. -/
theorem shaped_settleHead {b : Bool} {l : List CmdRecord} (room : l.length ≤ tableDepth) (tags : (l.map CmdRecord.tag).Nodup) :
    TableShaped b (settleHead b l) := by
  have same : (settleHead b l).map CmdRecord.tag = l.map CmdRecord.tag := map_settleHead (fun _ _ => rfl) l
  refine ⟨?_, by rwa [same], settleHead_settleHead l⟩
  have length := congrArg List.length same
  rw [List.length_map, List.length_map] at length
  rwa [length]

/-- Changes that keep the records' tags are in shape once the head is made. -/
theorem TableShaped.change {b b' : Bool} {l l' : List CmdRecord} (shaped : TableShaped b l) (tags : l'.map CmdRecord.tag = l.map CmdRecord.tag) :
    TableShaped b' (settleHead b' l') := by
  have length := congrArg List.length tags
  rw [List.length_map, List.length_map] at length
  exact shaped_settleHead (by rw [length]; exact shaped.room) (by rw [tags]; exact shaped.tags)

theorem TableShaped.move {b b' : Bool} {l : List CmdRecord} (shaped : TableShaped b l) : TableShaped b' (settleHead b' l) := shaped.change rfl

theorem CmdRecord.finishOpen_tag (o : CmdOutcome) (c : CmdRecord) : (c.finishOpen o).tag = c.tag := by
  unfold CmdRecord.finishOpen
  split <;> rfl

theorem CmdRecord.finishOpen_state (o : CmdOutcome) (c : CmdRecord) : (c.finishOpen o).state = .done := by
  unfold CmdRecord.finishOpen
  split
  · assumption
  · rfl

theorem map_tag_finishTag (x : Fin 16) (o : CmdOutcome) (l : List CmdRecord) : (finishTag x o l).map CmdRecord.tag = l.map CmdRecord.tag := by
  rw [finishTag, List.map_map]
  refine List.map_congr_left fun c _ => ?_
  simp only [Function.comp_apply]
  split
  · exact c.finishOpen_tag o
  · rfl

theorem map_tag_countTag (x : Fin 16) (l : List CmdRecord) : (countTag x l).map CmdRecord.tag = l.map CmdRecord.tag := by
  rw [countTag, List.map_map]
  refine List.map_congr_left fun c _ => ?_
  simp only [Function.comp_apply]
  split <;> rfl

theorem shaped_expireHead (shaped : CommandTableShaped s) : CommandTableShaped s.expireHead := by
  unfold State.expireHead
  split
  · exact shaped
  · split
    · exact tableShaped_iff.mpr ((tableShaped_iff.mp shaped).change (map_tag_finishTag _ _ _))
    · exact shaped

theorem shaped_countHead (b : Option (Fin 16)) (shaped : CommandTableShaped s) : CommandTableShaped (s.countHead b) := by
  unfold State.countHead
  split
  · exact shaped
  · split
    · exact shaped_expireHead (tableShaped_iff.mpr ((tableShaped_iff.mp shaped).change (map_tag_countTag _ _)))
    · exact shaped

theorem shaped_reportWin (o : CmdOutcome) (shaped : CommandTableShaped s) : CommandTableShaped (s.reportWin o) := by
  unfold State.reportWin
  split
  · exact shaped
  · exact shaped
  · split
    · exact tableShaped_iff.mpr ((tableShaped_iff.mp shaped).change (map_tag_finishTag _ _ _))
    · exact shaped

/-- A table of DONE records alone is in shape in every participation state. -/
theorem TableShaped.of_done {b b' : Bool} {l : List CmdRecord} (shaped : TableShaped b l) (done : ∀ c ∈ l, c.state = .done) : TableShaped b' l :=
  ⟨shaped.room, shaped.tags, settleHead_of_done done⟩

/-- The table abandoned: every record is DONE. -/
theorem State.abandonCommands_table : s.abandonCommands.cu.table = s.cu.table.map (CmdRecord.finishOpen .abandoned) := by
  rw [State.abandonCommands, State.raiseIf_cu, State.setTable_cu]
  refine settleHead_of_done fun c listed => ?_
  obtain ⟨d, -, rfl⟩ := List.mem_map.mp listed
  exact d.finishOpen_state _

theorem State.abandonCommands_cu : s.abandonCommands.cu = { s.cu with table := s.cu.table.map (CmdRecord.finishOpen .abandoned) } := by
  rw [← State.abandonCommands_table, State.abandonCommands, State.raiseIf_cu]
  rfl

theorem shaped_abandoned {b b' : Bool} {l : List CmdRecord} (shaped : TableShaped b l) : TableShaped b' (l.map (CmdRecord.finishOpen .abandoned)) := by
  have tags : (l.map (CmdRecord.finishOpen .abandoned)).map CmdRecord.tag = l.map CmdRecord.tag := by
    rw [List.map_map]
    exact List.map_congr_left fun c _ => c.finishOpen_tag _
  refine ⟨by rw [List.length_map]; exact shaped.room, by rw [tags]; exact shaped.tags, settleHead_of_done fun c listed => ?_⟩
  obtain ⟨d, -, rfl⟩ := List.mem_map.mp listed
  exact d.finishOpen_state _

theorem State.enterWaitRestore_table : s.enterWaitRestore.cu.table = s.cu.table := by
  unfold State.enterWaitRestore
  split <;> rfl

theorem State.notifyWaitRestore_table (before : Cls) : (s.notifyWaitRestore before).cu.table = s.cu.table := by
  unfold State.notifyWaitRestore
  split
  · split <;> rfl
  · split
    · exact State.enterWaitRestore_table
    · rfl

theorem State.notifyOwn_table (e : Entry) : (s.notifyOwn e).cu.table = s.cu.table := by
  rw [State.notifyOwn, State.raiseIf_cu, State.notifyWaitRestore_table]

theorem State.clearTable_table : s.clearTable.cu.table = s.cu.table := by rw [State.clearTable, State.notifyWaitRestore_table]

theorem State.leaveGroup_table (dest : Participation) : (s.leaveGroup dest).cu.table =
    if s.participation.inGroup = true then s.cu.table.map (CmdRecord.finishOpen .abandoned) else s.cu.table := by
  unfold State.leaveGroup
  split
  · rw [State.leave, State.clearTable_table, State.captureIfArmed_cu, State.abandonCommands_table]
  · rfl

/-- After the leaving actions the table is in shape for a station that is not IN_STEP. -/
theorem shaped_leaveGroup (dest : Participation) (shaped : CommandTableShaped s) : TableShaped false (s.leaveGroup dest).cu.table := by
  rw [State.leaveGroup_table]
  split
  · exact shaped_abandoned (tableShaped_iff.mp shaped)
  · next outside =>
    have notInStep : decide (s.participation = .inStep) = false := by
      refine decide_eq_false fun p => outside ?_
      rw [p]
      rfl
    rw [← notInStep]
    exact tableShaped_iff.mp shaped

theorem State.notificationStage_table_shaped (r : EpochRecord) (o : CmdOutcome) (e : Entry) (shaped : CommandTableShaped s) :
    CommandTableShaped (s.notificationStage r o e) := by
  have reported : CommandTableShaped (if r.ownWin = true then s.reportWin o else s) := by
    split
    · exact shaped_reportWin o shaped
    · exact shaped
  rw [State.notificationStage, tableShaped_iff, State.notifyOwn_table, State.participation, State.notifyOwn_pc]
  exact tableShaped_iff.mp reported

theorem shaped_of_same (table : t.cu.table = s.cu.table) (pc : t.pc = s.pc) (shaped : CommandTableShaped s) : CommandTableShaped t := by
  rw [tableShaped_iff, table, State.participation, pc]
  exact tableShaped_iff.mp shaped

theorem shaped_applyRecord (full : Bool) (r : EpochRecord) (shaped : CommandTableShaped s) : CommandTableShaped (s.applyRecord full r) := by
  unfold State.applyRecord
  dsimp only
  refine shaped_of_same (by rw [State.captureIfArmed_cu]) (by rw [State.captureIfArmed_pc]) (State.notificationStage_table_shaped r _ _ ?_)
  split
  · exact shaped_of_same (s := s) (by simp) (by simp) shaped
  · exact shaped

theorem shaped_joinStep (shaped : CommandTableShaped s) : CommandTableShaped s.joinStep :=
  tableShaped_iff.mpr (tableShaped_iff.mp shaped).move

theorem shaped_fall (c : Cause) (shaped : CommandTableShaped s) : CommandTableShaped (s.fall c) :=
  tableShaped_iff.mpr (tableShaped_iff.mp shaped).move

theorem shaped_found (r : EpochRecord) (shaped : CommandTableShaped s) : CommandTableShaped (s.found r) := by
  have noted : CommandTableShaped (({ s with gtu := s.gtu.found s.area r }).notifyOwn s.ownEntry) :=
    shaped_of_same (s := s) (by rw [State.notifyOwn_table]) (by rw [State.notifyOwn_pc]) shaped
  exact shaped_of_same (by rw [State.found, State.reconcile_cu, State.captureIfArmed_cu])
    (by rw [State.found, State.reconcile_pc, State.captureIfArmed_pc]) (shaped_joinStep noted)

/-- A table in shape for a station that is not IN_STEP. -/
theorem shaped_elsewhere {p : Participation} (is : t.pc.participation = p) (other : p ≠ .inStep) (shaped : TableShaped false t.cu.table) :
    CommandTableShaped t := by
  rw [tableShaped_iff, State.participation, is, decide_eq_false other]
  exact shaped

theorem shaped_outcome {r : EpochRecord} (outcome : Outcome r s t) (shaped : CommandTableShaped s) : CommandTableShaped t := by
  have counted {u : State} (counts : u.Counts s) : CommandTableShaped u := by
    rw [tableShaped_iff, counts.participation, counts.rest]
    exact tableShaped_iff.mp shaped
  cases outcome with
  | counts _ counts _ => exact counted counts
  | apart u counts dest c apart =>
    refine shaped_elsewhere (p := dest) (by simp) (by rcases apart with rfl | rfl <;> decide) ?_
    have left := shaped_leaveGroup dest (counted counts)
    simpa [State.setApart] using left
  | sync u counts _ =>
    refine shaped_elsewhere (p := .listening) (by simp) (by decide) ?_
    have left := shaped_leaveGroup .listening (counted counts)
    simpa [State.syncLoss] using left
  | learns u counts p =>
    refine shaped_elsewhere (p := .learning) rfl (by decide) ?_
    have before := tableShaped_iff.mp (counted counts)
    rwa [counts.participation, p] at before
  | founds _ counts _ => exact shaped_found r (counted counts)
  | applies _ counts _ => exact shaped_applyRecord false r (counted counts)
  | joins _ counts _ =>
    exact shaped_of_same (by rw [State.reconcile_cu]) (by rw [State.reconcile_pc]) (shaped_joinStep (shaped_applyRecord false r (counted counts)))
  | falls _ counts c _ => exact shaped_fall c (counted counts)
  | splits _ counts c _ => exact shaped_applyRecord false r (shaped_fall c (counted counts))
  | inStep _ counts _ => exact shaped_applyRecord true r (counted counts)

theorem shaped_deliver (r : EpochRecord) (shaped : CommandTableShaped s) : CommandTableShaped (s.deliver r) :=
  deliver_keeps (P := CommandTableShaped) r (fun law => law) (fun _ _ outcome law => shaped_outcome outcome law) (fun _ b law => shaped_countHead b law) shaped

theorem shaped_submit (k : Nat) (shaped : CommandTableShaped s) : CommandTableShaped (s.submit k).2 := by
  unfold State.submit
  split
  · exact shaped
  split
  · exact shaped
  · next room =>
    split
    · exact shaped
    · obtain ⟨length, tags, -⟩ := shaped
      obtain ⟨passed, -, found, -, free⟩ := freeTag_free (Nat.not_le.mp room) s.cu.nextTag
      refine tableShaped_iff.mpr (shaped_settleHead ?_ ?_)
      · rw [List.length_append, List.length_singleton]
        exact Nat.not_le.mp room
      · rw [List.map_append, List.map_singleton]
        refine List.Nodup.append tags (List.nodup_singleton _) fun x listed new => ?_
        obtain ⟨c, mem, rfl⟩ := List.mem_map.mp listed
        exact free c mem ((List.mem_singleton.mp new).trans found)

theorem shaped_acknowledge (x : Fin 16) (shaped : CommandTableShaped s) : CommandTableShaped (s.acknowledge x).2 := by
  unfold State.acknowledge
  split
  · exact shaped
  · split
    · obtain ⟨length, tags, -⟩ := shaped
      exact tableShaped_iff.mpr (shaped_settleHead ((List.length_filter_le _ _).trans length) (tags.sublist (List.filter_sublist.map _)))
    · exact shaped

/-! ## The restore slot and the timer -/

theorem ownEntry_congr (gtu : t.gtu = s.gtu) (own : t.sl.ownPos = s.sl.ownPos) : t.ownEntry = s.ownEntry := by
  unfold State.ownEntry
  rw [gtu, own]

/-- A change of the requested state leaves the own entry. -/
theorem ownEntry_requests (requests : t.RequestsOf s) (sl : t.sl = s.sl) : t.ownEntry = s.ownEntry := by
  unfold State.ownEntry
  rw [requests.1, sl]
  rfl

/-- Nothing runs and nothing is full. -/
theorem restoreFits_none {cls : Cls} {c : Cu} (timer : c.wtrTimer = none) (slot : c.restoreFull = false) : c.RestoreFits cls :=
  ⟨fun either => by rw [timer, slot] at either; simp at either, fun both => by rw [timer] at both; simp at both⟩

theorem Cu.RestoreFits.none {cls : Cls} {c : Cu} (fits : c.RestoreFits cls) (other : cls ≠ .waitRestore) : c.wtrTimer = .none ∧ c.restoreFull = false := by
  constructor
  · cases timer : c.wtrTimer with
    | none => rfl
    | some due => exact absurd (fits.waits (.inl (by rw [timer]; rfl))) other
  · cases slot : c.restoreFull with
    | false => rfl
    | true => exact absurd (fits.waits (.inr slot)) other

/-- The notification makes the slot and the timer fit the class the own entry has now. -/
theorem restoreFits_notify {before : Cls} (fits : s.cu.RestoreFits before) : (s.notifyWaitRestore before).cu.RestoreFits s.ownEntry.cls := by
  unfold State.notifyWaitRestore
  split
  · next was =>
    split
    · next now => rw [now, ← was]; exact fits
    · exact restoreFits_none rfl rfl
  · next was =>
    split
    · next now =>
      rw [now]
      unfold State.enterWaitRestore
      split
      · exact ⟨fun _ => rfl, fun both => by simp at both⟩
      · exact ⟨fun _ => rfl, fun both => by simp at both⟩
    · obtain ⟨timer, slot⟩ := fits.none was
      exact restoreFits_none timer slot

theorem restoreFits_reportWin {cls : Cls} (o : CmdOutcome) (fits : s.cu.RestoreFits cls) : (s.reportWin o).cu.RestoreFits cls := by
  unfold State.reportWin
  split
  · exact fits
  · exact ⟨fun either => fits.waits (either.imp_right fun full => by cases full), fun both => by cases both.2⟩
  · split
    · exact ⟨fits.waits, fits.once⟩
    · exact fits

theorem restore_notifyOwn {e : Entry} (fits : s.cu.RestoreFits e.cls) : RestoreOnlyInWaitRestore (s.notifyOwn e) := by
  rw [restoreFits_iff, ownEntry_congr (s := s) (by simp) (by simp), State.notifyOwn, State.raiseIf_cu]
  exact restoreFits_notify fits

theorem restore_of_same (timer : t.cu.wtrTimer = s.cu.wtrTimer) (slot : t.cu.restoreFull = s.cu.restoreFull) (own : t.ownEntry = s.ownEntry)
    (law : RestoreOnlyInWaitRestore s) : RestoreOnlyInWaitRestore t := by
  rw [RestoreOnlyInWaitRestore, timer, slot, own]
  exact law

theorem restore_clearTable (law : RestoreOnlyInWaitRestore s) : RestoreOnlyInWaitRestore s.clearTable := by
  have noted := restoreFits_notify (s := { s with gtu := Gtu.cleared (blockRole s.area) }) (before := s.ownEntry.cls) (restoreFits_iff.mp law)
  rw [restoreFits_iff, State.clearTable, ownEntry_congr (s := { s with gtu := Gtu.cleared (blockRole s.area) }) (by simp) (by simp)]
  exact noted

theorem restore_leaveGroup (dest : Participation) (law : RestoreOnlyInWaitRestore s) : RestoreOnlyInWaitRestore (s.leaveGroup dest) := by
  unfold State.leaveGroup
  split
  · refine restore_clearTable (restore_of_same (s := s) ?_ ?_ (ownEntry_congr (by simp) (by simp)) law)
    · rw [State.captureIfArmed_cu, State.abandonCommands_cu]
    · rw [State.captureIfArmed_cu, State.abandonCommands_cu]
  · exact law

theorem restore_captureIfArmed (k : CaptureKind) (p : Participation) (mark : Bool) (law : RestoreOnlyInWaitRestore s) :
    RestoreOnlyInWaitRestore (s.captureIfArmed k p mark) :=
  restore_of_same (by rw [State.captureIfArmed_cu]) (by rw [State.captureIfArmed_cu]) (ownEntry_congr (by simp) (by simp)) law

theorem restore_applyRecord (full : Bool) (r : EpochRecord) (law : RestoreOnlyInWaitRestore s) : RestoreOnlyInWaitRestore (s.applyRecord full r) := by
  have reported {u : State} (same : u.cu = s.cu) (o : CmdOutcome) :
      (if r.ownWin = true then u.reportWin o else u).cu.RestoreFits s.ownEntry.cls := by
    have fits : u.cu.RestoreFits s.ownEntry.cls := by rw [same]; exact restoreFits_iff.mp law
    split
    · exact restoreFits_reportWin o fits
    · exact fits
  unfold State.applyRecord
  dsimp only
  refine restore_captureIfArmed _ _ _ ?_
  have unchanged : (if full = true then ({ s with gtu := (s.applyTable full r).1 } : State).directiveStage
      else { s with gtu := (s.applyTable full r).1 }).cu = s.cu := by
    split
    · rw [State.directiveStage_cu]
    · rfl
  unfold State.notificationStage
  exact restore_notifyOwn (reported unchanged _)

theorem restore_requests (requests : t.RequestsOf s) (cu : t.cu = s.cu) (sl : t.sl = s.sl) (law : RestoreOnlyInWaitRestore s) :
    RestoreOnlyInWaitRestore t :=
  restore_of_same (by rw [cu]) (by rw [cu]) (ownEntry_requests requests sl) law

theorem restore_joinStep (law : RestoreOnlyInWaitRestore s) : RestoreOnlyInWaitRestore s.joinStep :=
  restore_of_same rfl rfl (ownEntry_congr (by simp) (by simp)) law

theorem restore_fall (c : Cause) (law : RestoreOnlyInWaitRestore s) : RestoreOnlyInWaitRestore (s.fall c) :=
  restore_of_same rfl rfl (ownEntry_congr (by simp) (by simp)) law

theorem restore_reconcile (law : RestoreOnlyInWaitRestore s) : RestoreOnlyInWaitRestore s.reconcile :=
  restore_requests State.reconcile_requestsOf (by simp) (by simp) law

theorem restore_found (r : EpochRecord) (law : RestoreOnlyInWaitRestore s) : RestoreOnlyInWaitRestore (s.found r) := by
  have noted := restore_notifyOwn (s := { s with gtu := s.gtu.found s.area r }) (e := s.ownEntry) (restoreFits_iff.mp law)
  exact restore_reconcile (restore_captureIfArmed _ _ _ (restore_joinStep noted))

theorem restore_outcome {r : EpochRecord} (outcome : Outcome r s t) (law : RestoreOnlyInWaitRestore s) : RestoreOnlyInWaitRestore t := by
  have counted {u : State} (counts : u.Counts s) : RestoreOnlyInWaitRestore u := by
    rw [counts.rest]
    exact law
  cases outcome with
  | counts _ counts _ => exact counted counts
  | apart u counts dest c _ =>
    exact restore_of_same (by simp [State.setApart]) (by simp [State.setApart]) (ownEntry_congr (State.setApart_gtu dest c) (by simp))
      (restore_leaveGroup dest (counted counts))
  | sync u counts _ =>
    exact restore_of_same (by simp [State.syncLoss]) (by simp [State.syncLoss]) (ownEntry_congr State.syncLoss_gtu (by simp))
      (restore_leaveGroup .listening (counted counts))
  | learns u counts _ => exact restore_of_same (s := u) rfl rfl rfl (counted counts)
  | founds _ counts _ => exact restore_found r (counted counts)
  | applies _ counts _ => exact restore_applyRecord false r (counted counts)
  | joins _ counts _ => exact restore_reconcile (restore_joinStep (restore_applyRecord false r (counted counts)))
  | falls _ counts c _ => exact restore_fall c (counted counts)
  | splits _ counts c _ => exact restore_applyRecord false r (restore_fall c (counted counts))
  | inStep _ counts _ => exact restore_applyRecord true r (counted counts)

theorem State.expireHead_restore : s.expireHead.cu.wtrTimer = s.cu.wtrTimer ∧ s.expireHead.cu.restoreFull = s.cu.restoreFull := by
  unfold State.expireHead
  split
  · exact ⟨rfl, rfl⟩
  · split <;> exact ⟨rfl, rfl⟩

theorem restore_expireHead (law : RestoreOnlyInWaitRestore s) : RestoreOnlyInWaitRestore s.expireHead :=
  restore_of_same State.expireHead_restore.1 State.expireHead_restore.2 (ownEntry_congr (by simp) (by simp)) law

theorem restore_countHead (b : Option (Fin 16)) (law : RestoreOnlyInWaitRestore s) : RestoreOnlyInWaitRestore (s.countHead b) := by
  unfold State.countHead
  split
  · exact law
  · split
    · exact restore_expireHead (restore_of_same rfl rfl rfl law)
    · exact law

theorem restore_deliver (r : EpochRecord) (law : RestoreOnlyInWaitRestore s) : RestoreOnlyInWaitRestore (s.deliver r) :=
  deliver_keeps (P := RestoreOnlyInWaitRestore) r (fun law => law) (fun _ _ outcome law => restore_outcome outcome law)
    (fun _ b law => restore_countHead b law) law

/-- Outside the group nothing waits to be restored. -/
theorem restore_outside (held : TableHeldInGroup s) (outside : s.participation.inGroup = false) (law : RestoreOnlyInWaitRestore s) :
    s.cu.wtrTimer = none ∧ s.cu.restoreFull = false := by
  refine (restoreFits_iff.mp law).none ?_
  rw [State.ownEntry, held outside, Gtu.entry_cleared]
  exact nofun

theorem restore_none (timer : t.cu.wtrTimer = none) (slot : t.cu.restoreFull = false) : RestoreOnlyInWaitRestore t :=
  restoreFits_iff.mpr (restoreFits_none timer slot)

theorem State.submit_restore (k : Nat) : (s.submit k).2.cu.wtrTimer = s.cu.wtrTimer ∧ (s.submit k).2.cu.restoreFull = s.cu.restoreFull := by
  unfold State.submit
  split
  · exact ⟨rfl, rfl⟩
  · split
    · exact ⟨rfl, rfl⟩
    · split <;> exact ⟨rfl, rfl⟩

theorem State.acknowledge_restore (x : Fin 16) :
    (s.acknowledge x).2.cu.wtrTimer = s.cu.wtrTimer ∧ (s.acknowledge x).2.cu.restoreFull = s.cu.restoreFull := by
  unfold State.acknowledge
  split
  · exact ⟨rfl, rfl⟩
  · split <;> exact ⟨rfl, rfl⟩

/-- The command unit after a soft reset: all but the next tag is as after a full reset (R132). -/
theorem State.cardSoftReset_cu (clearsFirst : Bool) : (s.cardSoftReset clearsFirst).cu = { Cu.reset with nextTag := s.cu.nextTag } := by
  cases clearsFirst <;> simp [State.cardSoftReset]

/-- A cleared command unit is left so by the participation's part. -/
theorem State.participationSoftReset_cu (timer : s.cu.wtrTimer = none) (slot : s.cu.restoreFull = false) : s.participationSoftReset.cu = s.cu := by
  have stays (before : Cls) (u : State) (cu : u.cu = s.cu) (cls : u.ownEntry.cls = .none) : (u.notifyWaitRestore before).cu = s.cu := by
    unfold State.notifyWaitRestore
    simp only [cls, reduceCtorEq, if_false]
    split
    · rw [State.leaveWaitRestore_cu, cu, ← timer, ← slot]
    · exact cu
  have cleared : s.clearTable.cu = s.cu := stays _ _ rfl (by rw [State.ownEntry, Gtu.entry_cleared]; rfl)
  unfold State.participationSoftReset
  split
  · rw [State.setCause_cu, State.enterListening_cu, cleared]
  · rw [State.setCause_cu, State.enterListening_cu, cleared]
  · rw [State.enterListening_cu]
  all_goals rfl

theorem State.softReset_cu (clearsFirst : Bool) :
    (s.cardSoftReset clearsFirst).participationSoftReset.cu = { Cu.reset with nextTag := s.cu.nextTag } := by
  rw [State.participationSoftReset_cu (by rw [State.cardSoftReset_cu]; rfl) (by rw [State.cardSoftReset_cu]; rfl), State.cardSoftReset_cu]

/-! ## Every move -/

theorem Move.commands (move : Move s t) (law : (Started s ∧ TableHeldInGroup s) ∧ CommandTableShaped s ∧ RestoreOnlyInWaitRestore s) :
    (Started t ∧ TableHeldInGroup t) ∧ CommandTableShaped t ∧ RestoreOnlyInWaitRestore t := by
  obtain ⟨⟨started, held⟩, shaped, restore⟩ := law
  refine ⟨move.held ⟨started, held⟩, ?_⟩
  have same (cu : t.cu = s.cu) (pc : t.pc = s.pc) (own : t.ownEntry = s.ownEntry) : CommandTableShaped t ∧ RestoreOnlyInWaitRestore t :=
    ⟨shaped_of_same (by rw [cu]) pc shaped, restore_of_same (by rw [cu]) (by rw [cu]) own restore⟩
  have outside (before : s.participation.inGroup = false) (cu : t.cu = s.cu) (p : t.participation ≠ .inStep) :
      CommandTableShaped t ∧ RestoreOnlyInWaitRestore t := by
    obtain ⟨timer, slot⟩ := restore_outside held before restore
    refine ⟨shaped_elsewhere rfl p ?_, restore_none (by rw [cu, timer]) (by rw [cu, slot])⟩
    have table := tableShaped_iff.mp shaped
    rwa [decide_eq_false (fun inStep => by rw [inStep] at before; cases before), ← cu] at table
  have loading (reads : s.sl.phase ≠ .ended) : s.participation = .loading := by
    obtain ⟨-, -, -, -, phase⟩ := started
    exact phase.resolve_left reads
  cases move with
  | deliver r => exact ⟨shaped_deliver r shaped, restore_deliver r restore⟩
  | release straps reset =>
    refine outside (by rw [reset]; rfl) (by simp) ?_
    rw [State.participation, State.sampleLines_pc]
    exact nofun
  | loader l _ own _ _ => exact same rfl rfl (ownEntry_congr rfl own)
  | loadFails c reads => exact outside (by rw [loading reads]; rfl) rfl nofun
  | freeze src f before _ =>
    refine outside ?_ (by simp) ?_
    · rcases before with reads | p
      · rw [loading reads]
        rfl
      · rw [p]
        rfl
    · rw [State.participation, State.freeze_eq, State.offer_pc]
      exact nofun
  | rejoin apart => exact outside (by rcases apart with p | p <;> rw [p] <;> rfl) rfl nofun
  | softReset clearsFirst _ =>
    have cleared : ((s.cardSoftReset clearsFirst).participationSoftReset.softWithdraw).cu = { Cu.reset with nextTag := s.cu.nextTag } := by
      rw [State.softWithdraw_cu, State.softReset_cu]
    refine ⟨tableShaped_iff.mpr ?_, restore_none (by rw [cleared]; rfl) (by rw [cleared]; rfl)⟩
    rw [cleared]
    exact ⟨Nat.zero_le _, List.nodup_nil, rfl⟩
  | submit k =>
    obtain ⟨timer, slot⟩ := s.submit_restore k
    exact ⟨shaped_submit k shaped, restore_of_same timer slot (ownEntry_congr (by rw [State.submit_eq]) (by rw [State.submit_eq])) restore⟩
  | acknowledge x =>
    obtain ⟨timer, slot⟩ := s.acknowledge_restore x
    exact ⟨shaped_acknowledge x shaped, restore_of_same timer slot (ownEntry_congr (by rw [State.acknowledge_eq]) (by rw [State.acknowledge_eq])) restore⟩
  | expireHead => exact ⟨shaped_expireHead shaped, restore_expireHead restore⟩
  | wtrExpires runs =>
    refine ⟨shaped, restoreFits_iff.mpr ⟨fun _ => (restoreFits_iff.mp restore).waits (.inl runs), fun both => by cases both.1⟩⟩
  | restart _ => exact ⟨shaped_of_same (s := s) (by simp) (by simp) shaped, restore_reconcile (s := s.setEngine .idle) restore⟩
  | latch _ =>
    exact ⟨shaped_of_same (s := s) (by simp) (by simp) shaped, restore_of_same (s := s) (by simp) (by simp) (ownEntry_congr (by simp) (by simp)) restore⟩
  | clock _ _ _ => exact ⟨shaped, restore⟩
  | port _ _ => exact ⟨shaped, restore⟩
  | wire _ _ _ => exact ⟨shaped, restore⟩
  | pins _ => exact ⟨shaped, restore⟩
  | waited _ _ _ => exact ⟨shaped, restore⟩
  | setEngine _ _ => exact ⟨shaped, restore⟩
  | _ => exact same (by simp) (by simp) (ownEntry_congr (by simp) (by simp))

theorem State.FullyReset.commands (reset : t.FullyReset) : (Started t ∧ TableHeldInGroup t) ∧ CommandTableShaped t ∧ RestoreOnlyInWaitRestore t := by
  refine ⟨reset.held, ?_, ?_⟩ <;> obtain ⟨low, since, deaf, pins, now, choices, pending, rfl⟩ := reset
  · exact ⟨Nat.zero_le _, List.nodup_nil, rfl⟩
  · exact restore_none rfl rfl

theorem State.FullyReset.monitor (reset : t.FullyReset) : (Started t ∧ t.ae.Balanced) ∧ MonitorJudged t := by
  refine ⟨⟨reset.started, reset.balanced⟩, ?_⟩
  obtain ⟨low, since, deaf, pins, now, choices, pending, rfl⟩ := reset
  exact ⟨by rfl, nofun, nofun, by rfl⟩

end

/-- Settles O59, by the moves. -/
theorem stepKeepsMonitorAndCommands : Obligations.StepKeepsMonitorAndCommands := by
  intro s t lawful steps
  obtain ⟨started, held, -, -, -, -, -, accounts, out, shaped, monitor, -, -, -, restore⟩ := lawful
  have commands := step_keeps (P := fun s => (Started s ∧ TableHeldInGroup s) ∧ CommandTableShaped s ∧ RestoreOnlyInWaitRestore s)
    State.FullyReset.commands Move.commands ⟨⟨started, held⟩, shaped, restore⟩ steps
  have judged := step_keeps (P := fun s => (Started s ∧ s.ae.Balanced) ∧ MonitorJudged s) State.FullyReset.monitor Move.monitor
    ⟨⟨started, balanced_iff.mpr ⟨accounts, out⟩⟩, monitor⟩ steps
  exact ⟨judged.2, commands.2⟩

end Sys2Proof.Machine
end

section
/-! SUPPORT. What offers read: two states alike in the engine, the monitor, the loader, the pins and the clock give alike answers to an offer. With it, leaving
the group (R47 to R51, R54 to R56). -/

namespace Sys2Proof.Machine

open Sys2Proof.Safety

/-- Two states agree in all an offer reads. -/
structure State.Alike (t s : State) : Prop where
  ae : t.ae = s.ae
  cm : t.cm = s.cm
  sl : t.sl = s.sl
  pins : t.pins = s.pins
  now : t.now = s.now

section
variable {s t : State}

theorem State.Alike.calls (alike : t.Alike s) : t.monitorCalled = s.monitorCalled :=
  State.monitorCalled_congr (by rw [alike.ae]) (by rw [alike.ae]) (by rw [alike.sl]) (by rw [alike.sl])

theorem State.Alike.due (alike : t.Alike s) : t.silenceDue = s.silenceDue := by
  unfold State.silenceDue State.silenceThreshold State.frozen
  rw [State.area_congr (s := s) (by rw [alike.sl]), alike.sl, alike.now]

theorem alike_ae {a b : Ae} (ae : a = b) (alike : t.Alike s) : ({ t with ae := a } : State).Alike { s with ae := b } :=
  ⟨ae, alike.cm, alike.sl, alike.pins, alike.now⟩

theorem alike_cm {a b : Cm} (cm : a = b) (alike : t.Alike s) : ({ t with cm := a } : State).Alike { s with cm := b } :=
  ⟨alike.ae, cm, alike.sl, alike.pins, alike.now⟩

theorem alike_raiseIf (b : Bool) (i : Irq) (alike : t.Alike s) : (t.raiseIf b i).Alike (s.raiseIf b i) := by
  refine ⟨?_, ?_, ?_, ?_, ?_⟩ <;> simp [alike.ae, alike.cm, alike.sl, alike.pins, alike.now]

theorem alike_raise (i : Irq) (alike : t.Alike s) : (t.raise i).Alike (s.raise i) := ⟨alike.ae, alike.cm, alike.sl, alike.pins, alike.now⟩

theorem alike_deriveOwn (alike : t.Alike s) : t.deriveOwn.Alike s.deriveOwn := by
  have own : t.ownConditionNow = s.ownConditionNow :=
    State.ownConditionNow_same (by rw [alike.sl]) (fun n => by rw [State.filter, State.filter, alike.cm]) (by rw [alike.cm])
  refine ⟨?_, by rw [State.deriveOwn_cm, State.deriveOwn_cm, own, alike.cm], ?_, ?_, ?_⟩ <;> simp [alike.ae, alike.sl, alike.pins, alike.now]

theorem alike_judgeMonitor (alike : t.Alike s) : t.judgeMonitor.Alike s.judgeMonitor := by
  have due : (State.silenceDue t) = s.silenceDue := alike.due
  unfold State.judgeMonitor
  rw [alike.calls, alike.cm]
  split
  · exact alike
  split
  · exact alike_cm (by rw [due]) alike
  · exact alike_deriveOwn (alike_cm rfl alike)

theorem alike_engineFault (f : FaultRecord) (alike : t.Alike s) : (t.engineFault f).Alike (s.engineFault f) :=
  alike_judgeMonitor (alike_raise .engine (alike_ae (by rw [alike.ae]) alike))

theorem alike_completed (d : Directive) (alike : t.Alike s) : (t.completed d).Alike (s.completed d) := by
  unfold State.completed
  rw [alike.ae]
  exact alike_raiseIf _ _ (alike_ae rfl alike)

theorem alike_sequenceBegins (d : Directive) (rest : List Directive) (alike : t.Alike s) : (t.sequenceBegins d rest).Alike (s.sequenceBegins d rest) :=
  alike_judgeMonitor (alike_ae (by rw [alike.ae]) alike)

theorem alike_runQueue (l : List Directive) (alike : t.Alike s) : (t.runQueue l).Alike (s.runQueue l) := by
  induction l generalizing s t with
  | nil => exact alike_judgeMonitor (alike_ae (by rw [alike.ae]) alike)
  | cons d rest ih =>
    have entries : t.dirEntry d = s.dirEntry d := by rw [State.dirEntry, State.dirEntry, alike.sl]
    cases entry : s.dirEntry d with
    | none =>
      rw [State.runQueue_none s d rest entry, State.runQueue_none t d rest (entries.trans entry)]
      exact ih (alike_completed d (alike_ae (by rw [alike.ae]) alike))
    | some i =>
      have begun := alike_sequenceBegins d rest alike
      have steps : t.steps = s.steps := by rw [State.steps, State.steps, alike.sl]
      obtain ⟨⟨a, ending⟩, enters⟩ : ∃ e, (s.sequenceBegins d rest).ae.enter s.steps s.pins.fb s.now i = e := ⟨_, rfl⟩
      have same : (t.sequenceBegins d rest).ae.enter t.steps t.pins.fb t.now i = (a, ending) := by
        rw [begun.ae, steps, alike.pins, alike.now, enters]
      have first := State.runQueue_of_enter (rest := rest) (a := a) entry
      have second := State.runQueue_of_enter (rest := rest) (a := a) (entries.trans entry)
      cases ending with
      | waits =>
        rw [first.1 enters, second.1 same]
        exact alike_ae rfl begun
      | loops j =>
        rw [first.2.1 j enters, second.2.1 j same]
        exact alike_engineFault _ (alike_ae rfl begun)
      | completes =>
        rw [first.2.2 enters, second.2.2 same]
        exact ih (alike_completed d (alike_ae rfl begun))

/-- Alike states answer an offer alike. -/
theorem alike_offer (d : Directive) (alike : t.Alike s) : (t.offer d).Alike (s.offer d) := by
  have ae := alike.ae
  by_cases idle : s.ae.engine = .idle
  · rw [State.offer_idle s d idle, State.offer_idle t d (by rw [ae, idle])]
    exact alike_runQueue _ (alike_ae (by rw [ae]) alike)
  by_cases out : s.ae.engine.out = true
  · rwa [State.offer_out s d out, State.offer_out t d (by rw [ae, out])]
  have queues : s.ae.engine.queues = true := by cases e : s.ae.engine <;> simp_all [Engine.out, Engine.queues]
  cases coalesces : s.ae.coalesces d with
  | true =>
    rw [State.offer_coalesces s d queues coalesces, State.offer_coalesces t d (by rw [ae, queues]) (by rw [ae, coalesces])]
    exact alike_ae (by rw [ae]) alike
  | false =>
    by_cases room : s.ae.queue.length < queueDepth
    · rw [State.offer_appends s d queues coalesces room, State.offer_appends t d (by rw [ae, queues]) (by rw [ae, coalesces]) (by rw [ae]; exact room)]
      exact alike_ae (by rw [ae]) alike
    · rw [State.offer_overflows s d queues coalesces room,
        State.offer_overflows t d (by rw [ae, queues]) (by rw [ae, coalesces]) (by rw [ae]; exact room), ae]
      exact alike_engineFault _ alike

/-! ## Leaving the group -/

/-- The directive WITHDRAW names is that of the own role. -/
theorem State.withdrawDirective_congr (sl : t.sl = s.sl) : t.withdrawDirective = s.withdrawDirective := by
  unfold State.withdrawDirective
  rw [State.ownRole_congr (s := s) (by rw [sl]) (by rw [sl])]

theorem alike_offerWithdraw (alike : t.Alike s) : t.offerWithdraw.Alike (s.offer s.withdrawDirective) := by
  rw [State.offerWithdraw, State.withdrawDirective_congr alike.sl]
  exact alike_offer _ alike

theorem alike_setApart (dest : Participation) (c : Cause) : (s.setApart dest c).Alike (s.offer s.withdrawDirective) :=
  alike_offerWithdraw ⟨by simp, by simp, by simp, by simp, by simp⟩

theorem alike_syncLoss : s.syncLoss.Alike (s.offer s.withdrawDirective) :=
  alike_offerWithdraw ⟨by simp, by simp, by simp, by simp, by simp⟩

theorem State.raiseIf_raised {b : Bool} {i j : Irq} (raised : s.mp.raised i = true) : (s.raiseIf b j).mp.raised i = true := by
  unfold State.raiseIf
  split
  · exact Mp.raised_raise raised
  · exact raised

theorem State.captureIfArmed_raised {k : CaptureKind} {p : Participation} {mark : Bool} {i : Irq} (raised : s.mp.raised i = true) :
    (s.captureIfArmed k p mark).mp.raised i = true := by
  unfold State.captureIfArmed
  split
  · exact Mp.raised_raise raised
  · exact raised

/-- Some record waits, and CMDDONE is raised when it is abandoned. -/
theorem State.abandonCommands_raised (waits : ∃ d ∈ s.cu.table, d.state ≠ .done) : s.abandonCommands.mp.raised .cmddone = true := by
  have head : (headOf s.cu.table).isSome = true := by
    rw [headOf, List.find?_isSome]
    simpa using waits
  rw [State.abandonCommands, head]
  exact Mp.raised_raise_self _ .cmddone

/-- The unit's state and its buffer after a capture of what was ARMED, or as they were. -/
theorem State.captureIfArmed_unit (k : CaptureKind) (p : Participation) (mark : Bool) :
    (s.mp.snapState = .armed → (s.captureIfArmed k p mark).mp.snapState = .ready ∧
      (s.captureIfArmed k p mark).mp.discardTimer = some (s.now + discardTime) ∧
      (s.captureIfArmed k p mark).mp.snapshot = some ⟨k, mark, p, s.gtu.sliceIndex, s.gtu.waitList, s.gtu.entries⟩) ∧
    (s.mp.snapState ≠ .armed → (s.captureIfArmed k p mark) = s) := by
  refine ⟨fun armed => ?_, fun other => if_neg other⟩
  rw [State.captureIfArmed, if_pos armed]
  exact ⟨rfl, rfl, rfl⟩

theorem State.leave_unit (dest : Participation) :
    (s.mp.snapState = .armed → (s.leave dest).mp.snapState = .ready ∧ (s.leave dest).mp.discardTimer = some (s.now + discardTime) ∧
      (s.leave dest).mp.snapshot = some ⟨.leave, true, dest, s.gtu.sliceIndex, s.gtu.waitList, s.gtu.entries⟩) ∧
    (s.mp.snapState ≠ .armed → (s.leave dest).mp.snapState = s.mp.snapState ∧ (s.leave dest).mp.snapshot = s.mp.snapshot) := by
  have port : s.abandonCommands.mp.SameButStatus s.mp := State.sameBut_abandonCommands
  have state : s.abandonCommands.mp.snapState = s.mp.snapState := by rw [port]
  have gtu : s.abandonCommands.gtu = s.gtu := by simp [State.abandonCommands]
  obtain ⟨captures, leaves⟩ := s.abandonCommands.captureIfArmed_unit .leave dest true
  rw [State.leave, State.clearTable_mp]
  refine ⟨fun armed => ?_, fun other => ?_⟩
  · rw [gtu, State.abandonCommands_now] at captures
    exact captures (state.trans armed)
  · rw [leaves (fun armed => other (state.symm.trans armed)), port]
    exact ⟨rfl, rfl⟩

theorem State.clearTable_restore :
    (s.ownEntry.cls = .waitRestore → s.clearTable.cu.wtrTimer = none ∧ s.clearTable.cu.restoreFull = false) ∧
    (s.ownEntry.cls ≠ .waitRestore → s.clearTable.cu.wtrTimer = s.cu.wtrTimer ∧ s.clearTable.cu.restoreFull = s.cu.restoreFull) := by
  have cleared : ({ s with gtu := Gtu.cleared (blockRole s.area) } : State).ownEntry.cls ≠ .waitRestore := by
    rw [State.ownEntry, Gtu.entry_cleared]
    exact nofun
  rw [State.clearTable]
  refine ⟨fun was => ?_, fun other => ?_⟩
  · rw [State.notifyWaitRestore, if_pos was, if_neg cleared]
    exact ⟨rfl, rfl⟩
  · rw [State.notifyWaitRestore, if_neg other, if_neg cleared]
    exact ⟨rfl, rfl⟩

/-- What the leaving actions toward `p` leave of `s` in `t` (R55). -/
structure State.Left (s : State) (p : Participation) (t : State) : Prop where
  table : t.cu.table = s.cu.table.map (CmdRecord.finishOpen .abandoned)
  told : (∃ d ∈ s.cu.table, d.state ≠ .done) → t.mp.raised .cmddone = true
  cleared : t.gtu = Gtu.cleared (blockRole s.area)
  restored : s.ownEntry.cls = .waitRestore → t.cu.wtrTimer = none ∧ t.cu.restoreFull = false
  other : s.ownEntry.cls ≠ .waitRestore → t.cu.wtrTimer = s.cu.wtrTimer ∧ t.cu.restoreFull = s.cu.restoreFull
  captured : s.mp.snapState = .armed → t.mp.snapState = .ready ∧ t.mp.discardTimer = some (s.now + discardTime) ∧
    t.mp.snapshot = some ⟨.leave, true, p, s.gtu.sliceIndex, s.gtu.waitList, s.gtu.entries⟩
  kept : s.mp.snapState ≠ .armed → t.mp.snapState = s.mp.snapState ∧ t.mp.snapshot = s.mp.snapshot

theorem left_leave (p : Participation) : s.Left p (s.leave p) := by
  obtain ⟨captured, kept⟩ := s.leave_unit p
  let u := s.abandonCommands.captureIfArmed .leave p true
  have cu : u.cu = { s.cu with table := s.cu.table.map (CmdRecord.finishOpen .abandoned) } := by
    rw [State.captureIfArmed_cu, State.abandonCommands_cu]
  have own : u.ownEntry = s.ownEntry := ownEntry_congr (by simp [u, State.abandonCommands]) (by simp [u])
  obtain ⟨restored, other⟩ := u.clearTable_restore
  rw [own] at restored other
  refine ⟨?_, fun waits => ?_, ?_, restored, fun differs => ?_, captured, kept⟩
  · rw [State.leave, State.clearTable_table]
    show u.cu.table = _
    rw [cu]
  · rw [State.leave, State.clearTable_mp]
    exact State.captureIfArmed_raised (State.abandonCommands_raised waits)
  · rw [State.leave, State.clearTable_gtu, State.area_congr (s := s) (by simp)]
  · obtain ⟨timer, slot⟩ := other differs
    rw [cu] at timer slot
    exact ⟨timer, slot⟩

/-- What has been left stays left, whatever is raised and offered after it. -/
theorem State.Left.after {p : Participation} {u : State} (left : s.Left p t) (cu : u.cu = t.cu) (gtu : u.gtu = t.gtu) (port : u.mp.SameButStatus t.mp)
    (told : t.mp.raised .cmddone = true → u.mp.raised .cmddone = true) : s.Left p u := by
  refine ⟨by rw [cu, left.table], fun waits => told (left.told waits), gtu.trans left.cleared, ?_, ?_, ?_, ?_⟩
  · rw [cu]
    exact left.restored
  · rw [cu]
    exact left.other
  · rw [port]
    exact left.captured
  · rw [port]
    exact left.kept

theorem State.leaveGroup_inside (dest : Participation) (inside : s.participation.inGroup = true) : s.leaveGroup dest = s.leave dest := if_pos inside

theorem State.leaveGroup_outside (dest : Participation) (outside : s.participation.inGroup = false) : s.leaveGroup dest = s :=
  if_neg (by simp [outside])

theorem left_setApart (dest : Participation) (c : Cause) (inside : s.participation.inGroup = true) : s.Left dest (s.setApart dest c) := by
  refine (left_leave dest).after ?_ ?_ ?_ fun told => ?_
  · simp [State.setApart, State.leaveGroup_inside dest inside]
  · rw [State.setApart_gtu, State.leaveGroup_inside dest inside]
  · rw [← State.leaveGroup_inside dest inside]
    exact State.offer_mp _ _
  · rw [← State.leaveGroup_inside dest inside] at told
    exact State.offer_raised _ _ (Mp.raised_raise told)

theorem left_syncLoss (inside : s.participation.inGroup = true) : s.Left .listening s.syncLoss := by
  refine (left_leave .listening).after ?_ ?_ ?_ fun told => ?_
  · simp [State.syncLoss, State.leaveGroup_inside .listening inside]
  · rw [State.syncLoss_gtu, State.leaveGroup_inside .listening inside]
  · rw [← State.leaveGroup_inside .listening inside]
    exact State.offer_mp _ _
  · rw [← State.leaveGroup_inside .listening inside] at told
    exact State.offer_raised _ _ (Mp.raised_raise told)

theorem State.setApart_vbi (dest : Participation) (c : Cause) : (s.setApart dest c).vbi = { s.vbi with epochTimer := none } := by simp [State.setApart]

theorem State.syncLoss_vbi (inside : s.participation.inGroup = true) (on : s.vbi.receiver ≠ .off) : s.syncLoss.vbi = s.vbi := by
  have timed : (s.leaveGroup .listening).participation.timed = true := by
    rw [State.participation, State.leaveGroup_pc]
    exact timed_iff.mpr (.inr inside)
  rw [State.syncLoss, State.offerWithdraw_vbi, State.setCause_vbi, State.raise_vbi,
    State.enterListening_vbi_timed (by rwa [State.leaveGroup_vbi]) timed, State.leaveGroup_vbi]

end

theorem finishOpen_abandoned_eq :
    CmdRecord.finishOpen .abandoned = fun d => if d.state = .done then d else { d with state := .done, outcome := some .abandoned } := rfl

/-- Settles O28. -/
theorem leavingTheGroup : Obligations.LeavingTheGroup := by
  intro s dest c out waited withdraw left
  have leaves {p : Participation} {t : State} (law : s.Left p t) : left p t :=
    ⟨law.table, law.told, law.cleared, law.restored, law.other, law.captured, law.kept⟩
  refine ⟨State.setApart_pc dest c, State.setApart_vbi dest c, ?_, (alike_setApart dest c).ae, ?_, fun inside => leaves (left_setApart dest c inside),
    fun outside => ⟨?_, ?_, ?_⟩, fun inside on => ⟨leaves (left_syncLoss inside), State.syncLoss_vbi inside on, alike_syncLoss.ae, ?_⟩⟩
  · exact State.offer_raised (i := .part) _ _ (Mp.raised_raise_self (s.leaveGroup dest).mp .part)
  · refine ⟨s.setApart_sl dest c, s.setApart_pins dest c, s.setApart_now dest c, ?_, s.setApart_pending dest c⟩
    simp [State.setApart, State.offerWithdraw]
  · rw [State.setApart_gtu, State.leaveGroup_outside dest outside]
  · simp [State.setApart, State.leaveGroup_outside dest outside]
  · have port : (s.setApart dest c).mp.SameButStatus (s.leaveGroup dest).mp := State.offer_mp _ _
    rw [port, State.leaveGroup_outside dest outside]
  · exact State.offer_raised (i := .part) _ _ (Mp.raised_raise_self (s.leaveGroup .listening).enterListening.mp .part)

end Sys2Proof.Machine
end

section
/-! SUPPORT. The soft reset (R58, R80, R117, R132, R154, R176): its part in every block, and the flags that stand after it. -/

namespace Sys2Proof.Machine

open Sys2Proof.Safety

section
variable {s t : State}

/-! ## Flags no engine operation raises -/

theorem Mp.raised_raise_other (m : Mp) {i j : Irq} (other : i ≠ j) : (m.raise j).raised i = m.raised i := by
  unfold Mp.raised Mp.raise
  rw [BitVec.getLsbD_or]
  have clear : j.mask.getLsbD i.index = false := by cases i <;> cases j <;> first | rfl | exact absurd rfl other
  rw [clear, Bool.or_false]

theorem State.deriveOwn_raised_other {i : Irq} (other : i ≠ .cond) : s.deriveOwn.mp.raised i = s.mp.raised i := by
  unfold State.deriveOwn
  split
  · rfl
  · exact Mp.raised_raise_other _ other

theorem State.judgeMonitor_raised_other {i : Irq} (other : i ≠ .cond) : s.judgeMonitor.mp.raised i = s.mp.raised i := by
  unfold State.judgeMonitor
  split
  · rfl
  split
  · rfl
  · exact State.deriveOwn_raised_other other

theorem State.engineFault_raised_other (f : FaultRecord) {i : Irq} (cond : i ≠ .cond) (engine : i ≠ .engine) :
    (s.engineFault f).mp.raised i = s.mp.raised i :=
  (State.judgeMonitor_raised_other cond).trans (Mp.raised_raise_other _ engine)

theorem State.completed_raised_other (d : Directive) {i : Irq} (engine : i ≠ .engine) : (s.completed d).mp.raised i = s.mp.raised i := by
  unfold State.completed State.raiseIf
  split
  · exact Mp.raised_raise_other _ engine
  · rfl

theorem State.runQueue_raised_other (l : List Directive) {i : Irq} (cond : i ≠ .cond) (engine : i ≠ .engine) :
    (s.runQueue l).mp.raised i = s.mp.raised i := by
  induction l generalizing s with
  | nil => exact State.judgeMonitor_raised_other cond
  | cons d rest ih =>
    unfold State.runQueue
    split
    · exact ih.trans (State.completed_raised_other d engine)
    · have begun : (s.sequenceBegins d rest).mp.raised i = s.mp.raised i := State.judgeMonitor_raised_other cond
      dsimp only
      split
      · exact begun
      · exact (State.engineFault_raised_other _ cond engine).trans begun
      · exact (ih.trans (State.completed_raised_other d engine)).trans begun

theorem State.offer_raised_other (d : Directive) {i : Irq} (cond : i ≠ .cond) (engine : i ≠ .engine) : (s.offer d).mp.raised i = s.mp.raised i := by
  rcases s.offer_cases d with ⟨-, runs⟩ | ⟨-, -, coalesces⟩ | ⟨-, -, appends⟩ | ⟨-, overflows⟩ | ⟨-, discards⟩
  · rw [runs]
    exact State.runQueue_raised_other _ cond engine
  · rw [coalesces]
  · rw [appends]
  · rw [overflows]
    exact State.engineFault_raised_other _ cond engine
  · rw [discards]

/-! ## ENGINE, raised by a failure alone where no fallback is taken -/

theorem Ae.act_fallback (fb : BitVec 8) (now : Ticks) (i : Nat) (r : StepRecord) (a : Ae) : (a.act fb now i r).1.fallbackTaken = a.fallbackTaken := by
  unfold Ae.act
  split
  · rfl
  · rfl
  · rfl
  · dsimp only
    unfold Ae.loadRetry
    split_ifs <;> rfl
  · rfl

theorem Ae.enterUpTo_fallback (steps : List StepRecord) (fb : BitVec 8) (now : Ticks) (n i : Nat) (a : Ae) :
    (a.enterUpTo steps fb now n i).1.fallbackTaken = a.fallbackTaken := by
  induction n generalizing i a with
  | zero => rfl
  | succ n ih =>
    cases record : steps[i]? with
    | none => simp only [Ae.enterUpTo, record]
    | some r =>
      have acts := Ae.act_fallback fb now i r { a with stepCount := a.stepCount + 1, stepIndex := some i }
      obtain ⟨⟨b, done⟩, result⟩ : ∃ b, ({ a with stepCount := a.stepCount + 1, stepIndex := some i } : Ae).act fb now i r = b := ⟨_, rfl⟩
      rw [result] at acts
      cases done with
      | false =>
        rw [Ae.enterUpTo_waits record fb now n a b result]
        exact acts
      | true =>
        rw [Ae.enterUpTo_done record fb now n a b result]
        split
        · exact acts
        · exact (ih r.nextIndex.toNat b).trans acts

/-- A queue run from an engine with ENGINE not raised raises it exactly when it fails. -/
theorem State.runQueue_raises_engine {l : List Directive} (quiet : s.mp.raised .engine = false) (noFallback : s.ae.fallbackTaken = false) :
    (s.runQueue l).mp.raised .engine = true ↔ (s.runQueue l).ae.engine = .faulted := by
  induction l generalizing s with
  | nil =>
    rw [State.runQueue_nil, State.engineRests_ae, State.engineRests, State.judgeMonitor_raised_other (by decide)]
    exact ⟨fun raised => absurd (quiet.symm.trans raised) (by decide), nofun⟩
  | cons d rest ih =>
    have unraised {u : State} (quiet : u.mp.raised .engine = false) (noFallback : u.ae.fallbackTaken = false) :
        (u.completed d).mp.raised .engine = false := by
      rw [State.completed, noFallback]
      exact quiet
    cases entry : s.dirEntry d with
    | none =>
      rw [State.runQueue_none s d rest entry]
      exact ih (unraised (u := { s with ae := { s.ae with queue := rest } }) quiet noFallback) (by rw [State.completed_ae]; exact noFallback)
    | some i =>
      have begun : (s.sequenceBegins d rest).mp.raised .engine = false := by
        rw [State.sequenceBegins, State.judgeMonitor_raised_other (by decide)]
        exact quiet
      have fallback := Ae.enterUpTo_fallback s.steps s.pins.fb s.now (entryLimit - (s.sequenceBegins d rest).ae.stepCount) i (s.sequenceBegins d rest).ae
      have same := Ae.sameAccounts_enter s.steps s.pins.fb s.now i (s.sequenceBegins d rest).ae
      obtain ⟨⟨a, ending⟩, enters⟩ : ∃ e, (s.sequenceBegins d rest).ae.enter s.steps s.pins.fb s.now i = e := ⟨_, rfl⟩
      rw [← Ae.enter, enters] at fallback
      rw [enters] at same
      have none_taken : a.fallbackTaken = false := fallback.trans (by rw [State.sequenceBegins_ae])
      have equations := State.runQueue_of_enter (rest := rest) (a := a) entry
      cases ending with
      | waits =>
        rw [equations.1 enters]
        have running : a.engine = .running := same.engine.trans (by rw [State.sequenceBegins_ae])
        exact ⟨fun raised => absurd (begun.symm.trans raised) (by decide), fun faulted => absurd (running.symm.trans faulted) (by decide)⟩
      | loops j =>
        rw [equations.2.1 j enters]
        exact ⟨fun _ => by rw [State.engineFault_ae], fun _ => State.judgeMonitor_raised (i := .engine) _ (Mp.raised_raise_self _ .engine)⟩
      | completes =>
        rw [equations.2.2 enters]
        exact ih (unraised (u := { s.sequenceBegins d rest with ae := a }) begun none_taken) (by rw [State.completed_ae]; exact none_taken)

/-! ## COND, raised by a change of the own condition -/

/-- The own condition with TX-SILENT cleared. -/
def State.ownUnsilenced (s : State) : Condition := ({ s with cm := { s.cm with txSilent := false } }).ownConditionNow

/-- COND tells whether the own condition has changed from `a`: an engine operation changes it once at most, to what its sources give without TX-SILENT. -/
structure State.CondTells (a base : Condition) (s : State) : Prop where
  stands : s.ownUnsilenced = base
  raised : s.mp.raised .cond = true → s.cm.own = base ∧ base ≠ a
  quiet : s.mp.raised .cond = false → s.cm.own = a

variable {a base : Condition}

theorem State.ownUnsilenced_congr (filters : t.cm.filters = s.cm.filters) (sl : t.sl = s.sl) : t.ownUnsilenced = s.ownUnsilenced := by
  refine State.ownConditionNow_same (by rw [sl]) (fun n => ?_) rfl
  show (t.cm.filters[n]).filtered = (s.cm.filters[n]).filtered
  rw [filters]

theorem State.CondTells.same (tells : s.CondTells a base) (cm : t.cm = s.cm) (sl : t.sl = s.sl)
    (raised : t.mp.raised .cond = s.mp.raised .cond) : t.CondTells a base :=
  ⟨(State.ownUnsilenced_congr (by rw [cm]) sl).trans tells.stands, by rw [cm, raised]; exact tells.raised, by rw [cm, raised]; exact tells.quiet⟩

theorem condTells_judgeMonitor (tells : s.CondTells a base) : s.judgeMonitor.CondTells a base := by
  have stands : s.judgeMonitor.ownUnsilenced = base := (State.ownUnsilenced_congr (by simp) (by simp)).trans tells.stands
  unfold State.judgeMonitor at *
  split
  · exact tells
  split
  · exact ⟨tells.stands, tells.raised, tells.quiet⟩
  · let u : State := { s with cm := { s.cm with monitorActive := false, silenceTimer := none, txSilent := false } }
    have now : u.ownConditionNow = base := (State.ownConditionNow_same rfl (fun _ => rfl) rfl).trans tells.stands
    have own : u.deriveOwn.cm.own = base := by rw [State.deriveOwn_own, now]
    refine ⟨(State.ownUnsilenced_congr (by rw [State.deriveOwn_cm]) (by simp)).trans tells.stands, fun raised => ⟨own, ?_⟩, fun quiet => ?_⟩
    · by_cases same : u.ownConditionNow = u.cm.own
      · rw [State.deriveOwn_eq u same.symm] at raised
        exact (tells.raised raised).2
      · cases before : s.mp.raised .cond with
        | true => exact (tells.raised before).2
        | false =>
          rw [now] at same
          rw [← tells.quiet before]
          exact same
    · have before : s.mp.raised .cond = false := by
        cases before : s.mp.raised .cond with
        | true => exact absurd (quiet.symm.trans (State.deriveOwn_raised u before)) (by decide)
        | false => rfl
      by_cases same : u.ownConditionNow = u.cm.own
      · rw [State.deriveOwn_eq u same.symm]
        exact tells.quiet before
      · have raised : u.deriveOwn.mp.raised .cond = true := by
          rw [State.deriveOwn, if_neg same]
          exact Mp.raised_raise_self _ .cond
        exact absurd (quiet.symm.trans raised) (by decide)

theorem condTells_completed (d : Directive) (tells : s.CondTells a base) : (s.completed d).CondTells a base :=
  tells.same (by simp) (by simp) (State.completed_raised_other d (by decide))

theorem condTells_engineFault (f : FaultRecord) (tells : s.CondTells a base) : (s.engineFault f).CondTells a base :=
  condTells_judgeMonitor (tells.same rfl rfl (Mp.raised_raise_other s.mp (by decide)))

theorem condTells_runQueue (l : List Directive) (tells : s.CondTells a base) : (s.runQueue l).CondTells a base := by
  induction l generalizing s with
  | nil => exact condTells_judgeMonitor (tells.same rfl rfl rfl)
  | cons d rest ih =>
    unfold State.runQueue
    split
    · exact ih (condTells_completed d (tells.same rfl rfl rfl))
    · have begun : (s.sequenceBegins d rest).CondTells a base := condTells_judgeMonitor (tells.same rfl rfl rfl)
      dsimp only
      split
      · exact begun.same rfl rfl rfl
      · exact condTells_engineFault _ (begun.same rfl rfl rfl)
      · exact ih (condTells_completed d (begun.same rfl rfl rfl))

theorem condTells_offer (d : Directive) (tells : s.CondTells a base) : (s.offer d).CondTells a base := by
  rcases s.offer_cases d with ⟨-, runs⟩ | ⟨-, -, coalesces⟩ | ⟨-, -, appends⟩ | ⟨-, overflows⟩ | ⟨-, discards⟩
  · rw [runs]
    exact condTells_runQueue _ (tells.same rfl rfl rfl)
  · rw [coalesces]
    exact tells.same rfl rfl rfl
  · rw [appends]
    exact tells.same rfl rfl rfl
  · rw [overflows]
    exact condTells_engineFault _ tells
  · rw [discards]
    exact tells

/-! ## The parts of a soft reset -/

/-- The port after its soft reset, but for the interrupt status. -/
def State.softPort (s : State) : Mp := { s.mp with
  cmdsub := .none, cmdack := .none
  snapState := if s.mp.snapState = .armed then .ready else .idle
  snapPtr := if s.mp.snapState = .armed then 0 else s.mp.snapPtr
  snapTaken := if s.mp.snapState = .idle then s.mp.snapTaken else false
  discardTimer := if s.mp.snapState = .armed then some (s.now + ms 250) else none
  snapshot := if s.mp.snapState = .armed then
      some { kind := .soft, notInStep := true, participation := .listening, sliceIndex := s.gtu.sliceIndex, waitList := s.gtu.waitList,
             entries := s.gtu.entries }
    else none }

theorem State.portSoftReset_port (unit : SnapshotUnitShaped s) : s.portSoftReset.mp.SameButStatus s.softPort := by
  obtain ⟨buffer, timer, -⟩ := unit
  unfold Mp.SameButStatus State.portSoftReset State.captureIfArmed State.softPort
  cases state : s.mp.snapState with
  | idle =>
    rw [state] at buffer timer
    have none_held : s.mp.snapshot = none := Option.not_isSome_iff_eq_none.mp fun held => by cases buffer.mp held
    have none_due : s.mp.discardTimer = none := Option.not_isSome_iff_eq_none.mp fun due => by cases timer.mp due
    simp [Mp.softReset, Mp.softDiscard, state, none_held, none_due]
  | armed =>
    simp [Mp.softReset, Mp.softDiscard, state, State.capture, Mp.raise]
    rfl
  | ready => simp [Mp.softReset, Mp.softDiscard, Mp.discard, state]

/-- Of the flags SNAP alone stands after the port's soft reset, for an ARMED unit. -/
theorem State.portSoftReset_raised (i : Irq) : s.portSoftReset.mp.raised i = true ↔ i = .snap ∧ s.mp.snapState = .armed := by
  have state : (s.setMp s.mp.softReset).mp.snapState = .armed ↔ s.mp.snapState = .armed := by
    show s.mp.softReset.snapState = .armed ↔ _
    unfold Mp.softReset Mp.softDiscard
    split
    · next ready => simp [Mp.discard, ready]
    · exact Iff.rfl
  have clear : s.mp.softReset.raised i = false := by simp [Mp.softReset, Mp.raised]
  unfold State.portSoftReset State.captureIfArmed
  split
  · next armed =>
    have port : ((s.setMp s.mp.softReset).capture .soft .listening true).mp.raised i = (s.mp.softReset.raise .snap).raised i := rfl
    rw [port]
    by_cases snap : i = .snap
    · subst snap
      simp [Mp.raised_raise_self, state.mp armed]
    · simp [Mp.raised_raise_other _ snap, clear, snap]
  · next other =>
    have idle : s.mp.snapState ≠ .armed := fun armed => other (state.mpr armed)
    simp [clear, idle]

theorem alike_engineSoftReset (alike : t.Alike s) : t.engineSoftReset.Alike s.engineSoftReset :=
  alike_judgeMonitor (alike_ae (by rw [alike.ae]) alike)

theorem alike_cardSoftReset (clearsFirst : Bool) : (s.cardSoftReset clearsFirst).Alike s.engineSoftReset := by
  cases clearsFirst with
  | true =>
    have port : s.portSoftReset.Alike s := ⟨by simp, by simp, by simp, by simp, by simp⟩
    obtain ⟨ae, cm, sl, pins, now⟩ := alike_engineSoftReset port
    exact ⟨ae, cm, sl, pins, now⟩
  | false => exact ⟨by simp [State.cardSoftReset], by simp [State.cardSoftReset], by simp, by simp, by simp⟩

theorem alike_softReset (clearsFirst : Bool) : (s.cardSoftReset clearsFirst).participationSoftReset.Alike s.engineSoftReset := by
  obtain ⟨ae, cm, -, -, -⟩ := alike_cardSoftReset (s := s) clearsFirst
  exact ⟨by simpa using ae, by simpa using cm, by simp, by simp, by simp⟩

theorem State.engineSoftReset_raised_other {i : Irq} (other : i ≠ .cond) : s.engineSoftReset.mp.raised i = s.mp.raised i :=
  State.judgeMonitor_raised_other other

/-- The port of a soft reset, but for the interrupt status. -/
theorem State.cardSoftReset_port (clearsFirst : Bool) (unit : SnapshotUnitShaped s) : (s.cardSoftReset clearsFirst).mp.SameButStatus s.softPort := by
  cases clearsFirst with
  | true => exact State.sameBut_engineSoftReset.trans (s.portSoftReset_port unit)
  | false =>
    have port : s.engineSoftReset.commandsSoftReset.mp.SameButStatus s.mp := State.sameBut_engineSoftReset
    have shaped : SnapshotUnitShaped s.engineSoftReset.commandsSoftReset := by
      rw [SnapshotUnitShaped, port, State.participation, State.commandsSoftReset_pc, State.engineSoftReset_pc]
      exact unit
    have soft : s.engineSoftReset.commandsSoftReset.softPort.SameButStatus s.softPort := by
      unfold State.softPort
      rw [port, State.commandsSoftReset_now, State.engineSoftReset_now, State.commandsSoftReset_gtu, State.engineSoftReset_gtu]
      exact Eq.refl _
    exact (State.portSoftReset_port shaped).trans soft

/-- Of the flags but COND, SNAP alone stands after the parts of a soft reset, for an ARMED unit. -/
theorem State.cardSoftReset_raised (clearsFirst : Bool) {i : Irq} (other : i ≠ .cond) :
    (s.cardSoftReset clearsFirst).mp.raised i = true ↔ i = .snap ∧ s.mp.snapState = .armed := by
  cases clearsFirst with
  | true =>
    show s.portSoftReset.engineSoftReset.mp.raised i = true ↔ _
    rw [State.engineSoftReset_raised_other other]
    exact s.portSoftReset_raised i
  | false =>
    have port : s.engineSoftReset.commandsSoftReset.mp.SameButStatus s.mp := State.sameBut_engineSoftReset
    have armed : s.engineSoftReset.commandsSoftReset.mp.snapState = s.mp.snapState := by rw [port]
    rw [← armed]
    exact State.portSoftReset_raised i

/-- After the status is cleared COND tells what changes from here on. -/
theorem condTells_portSoftReset : s.portSoftReset.CondTells s.cm.own s.ownUnsilenced := by
  have clear : s.portSoftReset.mp.raised .cond = false := by
    cases raised : s.portSoftReset.mp.raised .cond with
    | true => cases ((s.portSoftReset_raised .cond).mp raised).1
    | false => rfl
  exact ⟨State.ownUnsilenced_congr (by simp) (by simp), fun raised => absurd (clear.symm.trans raised) (by decide), fun _ => by simp⟩

theorem condTells_engineSoftReset (tells : s.CondTells a base) : s.engineSoftReset.CondTells a base :=
  condTells_judgeMonitor (tells.same rfl rfl rfl)

/-- A judgement of the activity leaves the own condition, or makes it what its sources give without TX-SILENT. -/
theorem State.judgeMonitor_own : s.judgeMonitor.cm.own = s.cm.own ∨ s.judgeMonitor.cm.own = s.ownUnsilenced := by
  unfold State.judgeMonitor
  split
  · exact .inl rfl
  split
  · exact .inl rfl
  · refine .inr ?_
    rw [State.deriveOwn_own]
    exact State.ownConditionNow_same rfl (fun _ => rfl) rfl

/-- COND after a soft reset, by whether its parts clear the status first. -/
theorem condTells_cardSoftReset (clearsFirst : Bool) :
    (s.cardSoftReset clearsFirst).CondTells (if clearsFirst then s.cm.own else s.engineSoftReset.cm.own) s.ownUnsilenced := by
  cases clearsFirst with
  | true => exact (condTells_engineSoftReset condTells_portSoftReset).same rfl rfl rfl
  | false =>
    have tells := condTells_portSoftReset (s := s.engineSoftReset.commandsSoftReset)
    have base : s.engineSoftReset.commandsSoftReset.ownUnsilenced = s.ownUnsilenced := State.ownUnsilenced_congr (by simp [State.engineSoftReset]) (by simp)
    rw [base] at tells
    exact tells

/-! ## WITHDRAW after a soft reset -/

theorem State.participationSoftReset_unconfigured : s.participationSoftReset.participation = .unconfigured ↔ s.participation = .unconfigured := by
  rw [State.participationSoftReset_participation]
  cases p : s.participation <;> simp [Participation.inGroup]

/-- The station after a soft reset, before the write of the command itself is entered. -/
def State.softened (clearsFirst : Bool) (s : State) : State := (s.cardSoftReset clearsFirst).participationSoftReset.softWithdraw

theorem State.softened_unconfigured (clearsFirst : Bool) (p : s.participation = .unconfigured) :
    s.softened clearsFirst = (s.cardSoftReset clearsFirst).participationSoftReset := by
  refine if_pos (State.participationSoftReset_unconfigured.mpr ?_)
  rwa [State.participation, State.cardSoftReset_pc]

theorem State.softened_configured (clearsFirst : Bool) (p : s.participation ≠ .unconfigured) :
    s.softened clearsFirst = (s.cardSoftReset clearsFirst).participationSoftReset.offerWithdraw := by
  refine if_neg fun now => p ?_
  have before := State.participationSoftReset_unconfigured.mp now
  rwa [State.participation, State.cardSoftReset_pc] at before

theorem State.engineSoftReset_ae : s.engineSoftReset.ae = { s.ae.abandoned with
    engine := .idle, actuated := if s.ae.engine.moving then .unknown else s.ae.actuated, fault := { s.ae.fault with cause := .none },
    fallbackTaken := false, retryCount := 0, retryOwner := none, stepIndex := none, stepCount := 0 } := by
  rw [State.engineSoftReset, State.judgeMonitor_ae]

theorem alike_softened_unconfigured (clearsFirst : Bool) (p : s.participation = .unconfigured) : (s.softened clearsFirst).Alike s.engineSoftReset := by
  rw [State.softened_unconfigured clearsFirst p]
  exact alike_softReset clearsFirst

theorem alike_softened_configured (clearsFirst : Bool) (p : s.participation ≠ .unconfigured) :
    (s.softened clearsFirst).Alike (s.engineSoftReset.offer s.withdrawDirective) := by
  rw [State.softened_configured clearsFirst p, ← State.withdrawDirective_congr s.engineSoftReset_sl]
  exact alike_offerWithdraw (alike_softReset clearsFirst)

/-- What holds of the parts, and is kept by an offer, holds after a soft reset. -/
theorem softened_keeps {P : State → Prop} (clearsFirst : Bool) (offer : ∀ (u : State) (d : Directive), P u → P (u.offer d))
    (law : P (s.cardSoftReset clearsFirst).participationSoftReset) : P (s.softened clearsFirst) := by
  unfold State.softened State.softWithdraw
  split
  · exact law
  · exact offer _ _ law

theorem State.softened_raised (clearsFirst : Bool) {i : Irq} (cond : i ≠ .cond) (engine : i ≠ .engine) :
    (s.softened clearsFirst).mp.raised i = true ↔ i = .snap ∧ s.mp.snapState = .armed := by
  refine softened_keeps (P := fun u => u.mp.raised i = true ↔ i = .snap ∧ s.mp.snapState = .armed) clearsFirst (fun u d law => ?_) ?_
  · rwa [State.offer_raised_other d cond engine]
  · rw [State.participationSoftReset_mp]
    exact State.cardSoftReset_raised clearsFirst cond

/-- ENGINE stands after a soft reset exactly when WITHDRAW has failed. -/
theorem State.softened_raised_engine (clearsFirst : Bool) :
    (s.softened clearsFirst).mp.raised .engine = true ↔ (s.softened clearsFirst).ae.engine = .faulted := by
  have ae := (alike_softReset (s := s) clearsFirst).ae
  have quiet : (s.cardSoftReset clearsFirst).participationSoftReset.mp.raised .engine = false := by
    rw [State.participationSoftReset_mp]
    cases raised : (s.cardSoftReset clearsFirst).mp.raised .engine with
    | true => cases ((State.cardSoftReset_raised clearsFirst (by decide)).mp raised).1
    | false => rfl
  have idle : (s.cardSoftReset clearsFirst).participationSoftReset.ae.engine = .idle := by rw [ae, State.engineSoftReset_ae]
  by_cases p : s.participation = .unconfigured
  · rw [State.softened_unconfigured clearsFirst p, quiet, idle]
    exact ⟨nofun, nofun⟩
  · rw [State.softened_configured clearsFirst p, State.offerWithdraw, State.offer_idle _ _ idle]
    refine State.runQueue_raises_engine quiet ?_
    show (s.cardSoftReset clearsFirst).participationSoftReset.ae.fallbackTaken = false
    rw [ae, State.engineSoftReset_ae]

theorem State.softened_port (clearsFirst : Bool) (unit : SnapshotUnitShaped s) : (s.softened clearsFirst).mp.SameButStatus s.softPort :=
  softened_keeps (P := fun u => u.mp.SameButStatus s.softPort) clearsFirst (fun u d law => (u.offer_mp d).trans law)
    (by rw [State.participationSoftReset_mp]; exact State.cardSoftReset_port clearsFirst unit)

/-- COND after a soft reset: not raised where the own condition is the one before it, and raised where WITHDRAW has changed it. -/
theorem State.softened_cond (clearsFirst : Bool) :
    ((s.softened clearsFirst).cm.own = s.cm.own → (s.softened clearsFirst).mp.raised .cond = false) ∧
    ((s.softened clearsFirst).cm.own ≠ s.engineSoftReset.cm.own → (s.softened clearsFirst).mp.raised .cond = true) := by
  let u := (s.cardSoftReset clearsFirst).participationSoftReset
  have parts : u.CondTells (if clearsFirst then s.cm.own else s.engineSoftReset.cm.own) s.ownUnsilenced :=
    (condTells_cardSoftReset (s := s) clearsFirst).same (by simp [u]) (by simp [u]) (by simp [u])
  have tells := softened_keeps clearsFirst (fun v d law => condTells_offer d law) parts
  have reset : u.cm = s.engineSoftReset.cm := (alike_softReset clearsFirst).cm
  have monotone : (s.softened clearsFirst).mp.raised .cond = false → u.mp.raised .cond = false := fun quiet => by
    cases before : u.mp.raised .cond with
    | false => rfl
    | true =>
      have stands := softened_keeps (P := fun v => v.mp.raised .cond = true) clearsFirst (fun v d law => v.offer_raised d law) before
      exact absurd (quiet.symm.trans stands) (by decide)
  refine ⟨fun unchanged => ?_, fun changed => ?_⟩
  · by_contra standing
    obtain ⟨own, differs⟩ := tells.raised (by simpa using standing)
    have before : s.cm.own = s.ownUnsilenced := unchanged.symm.trans own
    cases clearsFirst with
    | true => exact differs before.symm
    | false =>
      have engine : s.engineSoftReset.cm.own = s.ownUnsilenced := by
        rcases State.judgeMonitor_own (s := { s with ae := s.engineSoftReset.ae }) with kept | derived
        · rw [State.engineSoftReset_ae] at kept
          exact kept.trans before
        · rw [State.engineSoftReset_ae] at derived
          exact derived
      exact differs engine.symm
  · by_contra quiet
    have clear : (s.softened clearsFirst).mp.raised .cond = false := by simpa using quiet
    have own := tells.quiet clear
    have earlier := parts.quiet (monotone clear)
    exact changed (own.trans (earlier.symm.trans (by rw [reset])))

/-! ## The answer -/

theorem State.softResetTaken_eq (notLoading : s.participation ≠ .loading) :
    s.softResetTaken = some (State.softened (Config.softResetClearsStatusFirst s.choices) { s with choices := s.choices + 1 }) :=
  if_neg notLoading

theorem State.softened_vbi_of_parts (clearsFirst : Bool) : (s.softened clearsFirst).vbi = (s.cardSoftReset clearsFirst).participationSoftReset.vbi := by
  simp [State.softened]

/-- The VBI is not touched: the receiver runs on, and the epoch timer where it ran (R22, R58). -/
theorem State.softened_vbi (clearsFirst : Bool) (started : Started s) : (s.softened clearsFirst).vbi = s.vbi := by
  let c := s.cardSoftReset clearsFirst
  have vbi : c.vbi = s.vbi := by simp [c]
  have listens {u : State} (same : u.vbi = s.vbi) (p : u.participation.timed = true) (begun : unstarted s.participation = false) :
      u.enterListening.vbi = s.vbi := by
    obtain ⟨on, -, -, -⟩ := started_begun started begun
    rw [State.enterListening_vbi_timed (by rwa [same]) p, same]
  rw [State.softened_vbi_of_parts]
  have participation : c.participation = s.participation := by rw [State.participation, State.cardSoftReset_pc]; rfl
  have cleared : c.clearTable.participation = s.participation := by rw [← participation, State.participation, State.clearTable_pc]; rfl
  show c.participationSoftReset.vbi = s.vbi
  unfold State.participationSoftReset
  split
  · next p =>
    rw [participation] at p
    exact listens (by simp [vbi]) (by rw [cleared, p]; rfl) (by rw [p]; rfl)
  · next p =>
    rw [participation] at p
    exact listens (by simp [vbi]) (by rw [cleared, p]; rfl) (by rw [p]; rfl)
  · next p =>
    rw [participation] at p
    exact listens vbi (by rw [participation, p]; rfl) (by rw [p]; rfl)
  all_goals exact vbi

theorem State.participationSoftReset_pc : s.participationSoftReset.pc =
    if s.participation.inGroup = true then
      { s.pc with participation := .listening, cause := .soft, cleanCount := 0, verifyCount := 0, noNarratorCount := 0, syncHistory := [] }
    else if s.participation = .listening then { s.pc with cleanCount := 0, verifyCount := 0, noNarratorCount := 0, syncHistory := [] }
    else s.pc := by
  unfold State.participationSoftReset
  split
  case h_3 p =>
    simp only [p, Participation.inGroup, State.enterListening, reduceCtorEq, decide_false, Bool.or_self, Bool.false_eq_true, if_false, if_true]
    rw [← show s.pc.participation = .listening from p]
  all_goals next p => simp [p, Participation.inGroup, State.enterListening]

theorem State.softened_pc (clearsFirst : Bool) : (s.softened clearsFirst).pc = s.participationSoftReset.pc := by
  rw [State.softened, State.softWithdraw_pc, State.participationSoftReset_pc, State.participationSoftReset_pc, State.participation, State.cardSoftReset_pc]
  rfl

theorem State.softened_gtu (clearsFirst : Bool) : (s.softened clearsFirst).gtu = s.participationSoftReset.gtu := by
  have stays : (s.softened clearsFirst).gtu = (s.cardSoftReset clearsFirst).participationSoftReset.gtu :=
    softened_keeps (P := fun u => u.gtu = (s.cardSoftReset clearsFirst).participationSoftReset.gtu) clearsFirst
      (fun u d law => by rw [State.offer_gtu, law]) rfl
  rw [stays, State.participationSoftReset_gtu, State.participationSoftReset_gtu, State.participation, State.cardSoftReset_pc, State.cardSoftReset_gtu,
    State.area_congr (s := s) (by simp)]
  rfl

theorem State.softened_cu (clearsFirst : Bool) : (s.softened clearsFirst).cu = { Cu.reset with nextTag := s.cu.nextTag } := by
  rw [State.softened, State.softWithdraw_cu, State.softReset_cu]

/-- What a soft reset leaves, in the words of the state it finds. -/
theorem State.softened_rest (clearsFirst : Bool) : (s.softened clearsFirst).sl = s.sl ∧ (s.softened clearsFirst).pins = s.pins ∧
    (s.softened clearsFirst).now = s.now ∧ (s.softened clearsFirst).choices = s.choices ∧ (s.softened clearsFirst).pending = s.pending ∧
    (s.softened clearsFirst).cm.filters = s.cm.filters := by
  refine ⟨by simp [State.softened], by simp [State.softened], by simp [State.softened], by simp [State.softened], by simp [State.softened], ?_⟩
  refine softened_keeps (P := fun u => u.cm.filters = s.cm.filters) clearsFirst (fun u d law => (u.filters_offer d).trans law) ?_
  rw [(alike_softReset clearsFirst).cm, State.engineSoftReset, State.filters_judgeMonitor]

end

/-- Settles O13. -/
theorem softReset : Obligations.SoftReset := by
  refine ⟨?_, fun s => ?_⟩
  · intro s takes notLoading started unit withdraw
    let b := Config.softResetClearsStatusFirst s.choices
    let v : State := { s with choices := s.choices + 1 }
    let u := v.softened b
    have begun : Started v := started
    have shaped : SnapshotUnitShaped v := unit
    have engine : v.engineSoftReset.Alike s.engineSoftReset := alike_engineSoftReset ⟨rfl, rfl, rfl, rfl, rfl⟩
    obtain ⟨sl, pins, now, choices, pending, filters⟩ := v.softened_rest b
    have port : u.mp.SameButStatus v.softPort := v.softened_port b shaped
    have pc : u.pc = v.participationSoftReset.pc := v.softened_pc b
    have gtu : u.gtu = v.participationSoftReset.gtu := v.softened_gtu b
    rw [State.participationSoftReset_pc] at pc
    rw [State.participationSoftReset_gtu] at gtu
    have flag (i : Irq) (cond : i ≠ .cond) (other : i ≠ .engine) : u.mp.raised i = true ↔ i = .snap ∧ s.mp.snapState = .armed :=
      v.softened_raised b cond other
    have clear (i : Irq) (cond : i ≠ .cond) (other : i ≠ .engine) (snap : i ≠ .snap) : u.mp.raised i = false := by
      simpa [snap] using flag i cond other
    obtain ⟨quiet, told⟩ := v.softened_cond b
    refine ⟨{ u with mp := u.mp.controlled 3#4 .accepted }, exec_control_taken rfl takes (State.softResetTaken_eq notLoading),
      fun p => ?_, fun p => ?_, v.softened_cu b, ?_, ⟨?_, ?_, ?_, v.softened_raised_engine b, quiet, fun changed => told (engine.cm ▸ changed), ?_⟩,
      fun p => ?_, fun p => ?_, fun p => ?_, filters, v.softened_vbi b begun, sl, pins, now, choices, pending⟩
    · have alike := alike_softened_unconfigured (s := v) b p
      exact ⟨alike.ae.trans engine.ae, alike.cm.trans engine.cm⟩
    · have alike := alike_softened_configured (s := v) b p
      have offered := alike_offer v.withdrawDirective engine
      exact ⟨alike.ae.trans offered.ae, alike.cm.trans offered.cm⟩
    · show u.mp.controlled 3#4 .accepted = _
      rw [port]
      rfl
    · exact clear .part (by decide) (by decide) (by decide)
    · exact clear .owncover (by decide) (by decide) (by decide)
    · exact clear .cmddone (by decide) (by decide) (by decide)
    · exact (flag .snap (by decide) (by decide)).trans (by simp)
    · have inside : v.participation.inGroup = true := by
        rcases p with p | p <;> exact (congrArg Participation.inGroup p)
      rw [if_pos inside] at pc gtu
      exact ⟨pc, gtu⟩
    · have outside : ¬v.participation.inGroup = true := by rw [show v.participation = _ from p]; decide
      rw [if_neg outside, if_pos (show v.participation = .listening from p)] at pc
      rw [if_neg outside] at gtu
      exact ⟨pc, gtu⟩
    · have outside : ¬v.participation.inGroup = true ∧ v.participation ≠ .listening := by
        rcases p with p | p | p <;> rw [show v.participation = _ from p] <;> decide
      rw [if_neg outside.1, if_neg outside.2] at pc
      rw [if_neg outside.1] at gtu
      exact ⟨pc, gtu⟩
  · have moving : s.ae.engine.moving = true ↔ s.ae.engine = .running ∨ s.ae.engine = .holding := by cases s.ae.engine <;> decide
    rw [State.engineSoftReset_ae]
    simp only [moving, Ae.abandoned]

end Sys2Proof.Machine
end

section
/-! SUPPORT. The head of the command table over a delivered record (R119, R124, R125, R127): what the record's win, its leaving move and the head count
make of the table. -/

namespace Sys2Proof.Machine

open Sys2Proof.Safety

section
variable {b : Bool} {c d : CmdRecord} {l l' : List CmdRecord}

/-! ## Tables that differ in the place of the head alone -/

theorem CmdRecord.behind_of_done (done : c.state = .done) : c.behind = c := CmdRecord.behind_eq_self_iff.mpr (.inl done)

theorem CmdRecord.behind_state_done : c.behind.state = .done ↔ c.state = .done := by
  unfold CmdRecord.behind
  split
  · rfl
  · next open' => exact ⟨nofun, fun done => absurd done open'⟩

/-- A DONE record is told from all others. -/
theorem CmdRecord.eq_of_behind (same : c.behind = d.behind) (done : d.state = .done) : c = d := by
  rw [CmdRecord.behind_of_done done] at same
  rwa [CmdRecord.behind_of_done (CmdRecord.behind_state_done.mp (same ▸ done))] at same

theorem CmdRecord.behind_place (open' : c.state ≠ .done) : CmdRecord.behind { c with state := headState b } = c.behind := by
  have notDone : headState b ≠ .done := by cases b <;> decide
  simp [CmdRecord.behind, open', notDone]

/-- Making the head changes nothing but its place. -/
theorem map_behind_settleHead : ∀ l : List CmdRecord, (settleHead b l).map CmdRecord.behind = l.map CmdRecord.behind
  | [] => rfl
  | c :: l => by
    by_cases done : c.state = .done
    · rw [settleHead_cons_done done, List.map_cons, List.map_cons, map_behind_settleHead l]
    · rw [settleHead_cons_open done, List.map_cons, List.map_cons, CmdRecord.behind_place done, List.map_map,
        show CmdRecord.behind ∘ CmdRecord.behind = CmdRecord.behind from funext fun _ => CmdRecord.behind_behind]

theorem settleHead_map_behind : ∀ l : List CmdRecord, settleHead b (l.map CmdRecord.behind) = settleHead b l
  | [] => rfl
  | c :: l => by
    by_cases done : c.state = .done
    · rw [List.map_cons, CmdRecord.behind_of_done done, settleHead_cons_done done, settleHead_cons_done done, settleHead_map_behind l]
    · have placed : ({ c.behind with state := headState b } : CmdRecord) = { c with state := headState b } := by
        unfold CmdRecord.behind
        rw [if_neg done]
      rw [List.map_cons, settleHead_cons_open (fun d => done (CmdRecord.behind_state_done.mp d)), settleHead_cons_open done, List.map_map, placed,
        show CmdRecord.behind ∘ CmdRecord.behind = CmdRecord.behind from funext fun _ => CmdRecord.behind_behind]

/-- The made table looks past the place of the head. -/
theorem settleHead_congr (same : l.map CmdRecord.behind = l'.map CmdRecord.behind) : settleHead b l = settleHead b l' := by
  rw [← settleHead_map_behind l, same, settleHead_map_behind]

/-- A change of the records that looks past the place of the head. -/
def PlaceBlind (f : CmdRecord → CmdRecord) : Prop := ∀ c : CmdRecord, (f c.behind).behind = (f c).behind

theorem PlaceBlind.map {f : CmdRecord → CmdRecord} (blind : PlaceBlind f) (same : l.map CmdRecord.behind = l'.map CmdRecord.behind) :
    (l.map f).map CmdRecord.behind = (l'.map f).map CmdRecord.behind := by
  have past (k : List CmdRecord) : (k.map f).map CmdRecord.behind = ((k.map CmdRecord.behind).map f).map CmdRecord.behind := by
    rw [List.map_map, List.map_map, List.map_map]
    exact List.map_congr_left fun c _ => (blind c).symm
  rw [past l, past l', same]

/-! ## The head -/

theorem headOf_eq_none : headOf l = none ↔ ∀ c ∈ l, c.state = .done := by simp [headOf]

theorem headOf_open (head : headOf l = some c) : c ∈ l ∧ c.state ≠ .done :=
  ⟨List.mem_of_find?_eq_some head, by simpa using List.find?_some head⟩

theorem headOf_cons_done (done : c.state = .done) : headOf (c :: l) = headOf l := by simp [headOf, done]

theorem headOf_cons_open (open' : c.state ≠ .done) : headOf (c :: l) = some c := by simp [headOf, open']

theorem headOf_settleHead : ∀ l : List CmdRecord, headOf (settleHead b l) = (headOf l).map fun c => { c with state := headState b }
  | [] => rfl
  | c :: l => by
    have notDone : headState b ≠ .done := by cases b <;> decide
    by_cases done : c.state = .done
    · rw [settleHead_cons_done done, headOf_cons_done done, headOf_cons_done done, headOf_settleHead l]
    · rw [settleHead_cons_open done, headOf_cons_open (c := { c with state := headState b }) notDone, headOf_cons_open done]
      rfl

/-- The head of a table that differs in the place of the head alone is the same record, up to its place. -/
theorem headOf_congr (same : l.map CmdRecord.behind = l'.map CmdRecord.behind) (head : headOf l = some c) :
    ∃ d, headOf l' = some d ∧ d.tag = c.tag ∧ d.headCount = c.headCount := by
  have made := congrArg headOf (settleHead_congr (b := true) same)
  rw [headOf_settleHead, headOf_settleHead, head] at made
  cases head' : headOf l' with
  | none =>
    rw [head'] at made
    cases made
  | some d =>
    rw [head'] at made
    have fields := Option.some.inj made
    exact ⟨d, rfl, (congrArg CmdRecord.tag fields).symm, (congrArg CmdRecord.headCount fields).symm⟩

theorem openTag_iff {x : Fin 16} : openTag x l = true ↔ ∃ c ∈ l, c.tag = x ∧ c.state ≠ .done := by simp [openTag]

theorem openTag_congr {x : Fin 16} (same : l.map CmdRecord.behind = l'.map CmdRecord.behind) : openTag x l = openTag x l' := by
  have past (k : List CmdRecord) : openTag x k = openTag x (k.map CmdRecord.behind) := by
    have tag (c : CmdRecord) : c.behind.tag = c.tag := by
      unfold CmdRecord.behind
      split <;> rfl
    rw [Bool.eq_iff_iff, openTag_iff, openTag_iff]
    simp [tag, CmdRecord.behind_state_done]
  rw [past l, past l', same]

/-! ## The count -/

/-- What the count makes of the record `h`, the head: one more, or EXPIRED at 64. -/
def CmdRecord.countedAs (h c : CmdRecord) : CmdRecord :=
  if c.tag = h.tag then
    if h.headCount + 1 < 64 then { c with headCount := c.headCount + 1 }
    else { c with headCount := c.headCount + 1, state := .done, outcome := some .expired }
  else c

theorem countedAs_blind (h : CmdRecord) : PlaceBlind h.countedAs := fun c => by
  unfold CmdRecord.countedAs CmdRecord.behind
  by_cases done : c.state = .done <;> by_cases tag : c.tag = h.tag <;> by_cases few : h.headCount + 1 < 64 <;> simp [done, tag, few]

theorem finishTag_blind (x : Fin 16) (o : CmdOutcome) : PlaceBlind fun c => if c.tag = x then c.finishOpen o else c := fun c => by
  unfold CmdRecord.finishOpen CmdRecord.behind
  by_cases done : c.state = .done <;> by_cases tag : c.tag = x <;> simp [done, tag, CmdRecord.finish]

theorem countTag_state (x : Fin 16) (c : CmdRecord) : (if c.tag = x then { c with headCount := c.headCount + 1 } else c).state = c.state := by
  split <;> rfl

theorem headOf_countTag {h : CmdRecord} (head : headOf l = some h) : headOf (countTag h.tag l) = some { h with headCount := h.headCount + 1 } := by
  have found : l.find? ((fun c => decide (c.state ≠ .done)) ∘ fun c => if c.tag = h.tag then { c with headCount := c.headCount + 1 } else c) = some h := by
    rw [← head, headOf]
    congr 1
    funext c
    rw [Function.comp_apply, countTag_state]
  rw [headOf, countTag, List.find?_map, found]
  simp

/-- The count keeps the made table made. -/
theorem settleHead_countTag (x : Fin 16) : ∀ {l : List CmdRecord}, settleHead b l = l → settleHead b (countTag x l) = countTag x l
  | [], _ => rfl
  | c :: l, made => by
    have cons : countTag x (c :: l) = (if c.tag = x then { c with headCount := c.headCount + 1 } else c) :: countTag x l := rfl
    rw [cons, settleHead_cons_eq_self_iff, countTag_state]
    refine (settleHead_cons_eq_self_iff.mp made).imp (fun ⟨done, rest⟩ => ⟨done, settleHead_countTag x rest⟩) fun ⟨state, behind⟩ => ⟨state, fun d listed => ?_⟩
    obtain ⟨e, mem, rfl⟩ := List.mem_map.mp listed
    rw [countTag_state]
    exact behind e mem

end

section
variable {s u : State} {r : EpochRecord} {h : CmdRecord}

theorem State.expireHead_none (none_open : headOf s.cu.table = none) : s.expireHead = s := by simp [State.expireHead, none_open]

theorem State.expireHead_few (head : headOf s.cu.table = some h) (few : h.headCount < 64) : s.expireHead = s := by
  simp [State.expireHead, head, expiryCount, Nat.not_le.mpr few]

theorem State.expireHead_expires (head : headOf s.cu.table = some h) (many : 64 ≤ h.headCount) :
    s.expireHead = (s.setTable (finishTag h.tag .expired s.cu.table)).raise .cmddone := by
  simp [State.expireHead, head, expiryCount, many]

theorem State.countHead_other {x : Fin 16} (other : s.cu.headTag ≠ some x) : s.countHead (some x) = s := by
  rw [State.countHead, if_neg other]

theorem State.countHead_head (head : headOf s.cu.table = some h) : s.countHead (some h.tag) = (s.setTable (countTag h.tag s.cu.table)).expireHead := by
  rw [State.countHead, if_pos (by rw [Cu.headTag, head]; rfl)]

theorem State.countHead_none_open (none_open : headOf s.cu.table = none) (before : Option (Fin 16)) : s.countHead before = s := by
  cases before with
  | none => rfl
  | some x => exact State.countHead_other (by rw [Cu.headTag, none_open]; exact nofun)

/-- The head of the counted table, made. -/
theorem headOf_counted (head : headOf s.cu.table = some h) : headOf (s.setTable (countTag h.tag s.cu.table)).cu.table =
    some { h with headCount := h.headCount + 1, state := headState (s.participation = .inStep) } := by
  rw [State.setTable_cu, headOf_settleHead, headOf_countTag head]
  rfl

/-- The counted head's table, with the expiry of R125. -/
theorem State.countHead_table (head : headOf s.cu.table = some h) (tags : (s.cu.table.map CmdRecord.tag).Nodup) :
    (s.countHead (some h.tag)).cu.table = settleHead (s.participation = .inStep) (s.cu.table.map h.countedAs) := by
  obtain ⟨mem, open'⟩ := headOf_open head
  rw [State.countHead_head head]
  by_cases few : h.headCount + 1 < 64
  · rw [State.expireHead_few (headOf_counted head) few, State.setTable_cu]
    exact congrArg _ (List.map_congr_left fun c _ => by simp [CmdRecord.countedAs, few])
  · rw [State.expireHead_expires (headOf_counted head) (Nat.not_lt.mp few), State.raise_cu, State.setTable_cu]
    refine (settleHead_congr ((finishTag_blind h.tag .expired).map (map_behind_settleHead (countTag h.tag s.cu.table)))).trans (congrArg _ ?_)
    rw [countTag, List.map_map]
    refine List.map_congr_left fun c listed => ?_
    by_cases tag : c.tag = h.tag
    · obtain rfl := eq_of_tag_eq tags listed mem tag
      simp [CmdRecord.countedAs, few, CmdRecord.finishOpen, CmdRecord.finish, open']
    · simp [CmdRecord.countedAs, tag]

theorem State.countHead_raises (head : headOf s.cu.table = some h) (many : 64 ≤ h.headCount + 1) :
    (s.countHead (some h.tag)).mp.raised .cmddone = true := by
  rw [State.countHead_head head, State.expireHead_expires (headOf_counted head) many]
  exact Mp.raised_raise_self _ _

/-! ## The win -/

/-- The record's win is reported for a record that waits. -/
def State.Wins (r : EpochRecord) (s : State) : Prop :=
  r.ownWin = true ∧ r.faults.any = false ∧ ∃ x : Fin 16, s.cu.offered = .command x ∧ openTag x s.cu.table = true

theorem State.reportWin_other (o : CmdOutcome) (other : ∀ x : Fin 16, s.cu.offered = .command x → openTag x s.cu.table = false) :
    (s.reportWin o).cu.table = s.cu.table := by
  unfold State.reportWin
  split
  · rfl
  · rfl
  · next x offered => rw [other x offered, if_neg Bool.false_ne_true]

theorem State.reportWin_wins (o : CmdOutcome) {x : Fin 16} (offered : s.cu.offered = .command x) (waits : openTag x s.cu.table = true) :
    s.reportWin o = (s.setTable (finishTag x o s.cu.table)).raise .cmddone := by
  simp [State.reportWin, offered, waits]

/-- The state that an applied record's notifications find: the table and the requested state alone have changed. -/
structure State.Notified (full : Bool) (r : EpochRecord) (s v : State) : Prop where
  applied : ∃ (o : CmdOutcome) (e : Entry), s.applyRecord full r =
    ((v.notificationStage r o e).captureIfArmed .record (if full then .inStep else .learning) false)
  cu : v.cu = s.cu
  pc : v.pc = s.pc

theorem State.applyRecord_notified (full : Bool) : ∃ v, s.Notified full r v := by
  refine ⟨_, ⟨_, _, rfl⟩, ?_, ?_⟩
  · split
    · rw [State.directiveStage_cu]
    · rfl
  · split
    · rw [State.directiveStage_pc]
    · rfl

theorem State.Notified.table {full : Bool} {v : State} (notified : s.Notified full r v) : ∃ o, (s.applyRecord full r).cu.table =
    (if r.ownWin then v.reportWin o else v).cu.table := by
  obtain ⟨⟨o, e, applied⟩, -, -⟩ := notified
  exact ⟨o, by rw [applied, State.captureIfArmed_cu, State.notificationStage, State.notifyOwn_table]⟩

theorem State.applyRecord_table_other (full : Bool) (framed : r.faults.any = false) (loses : ¬s.Wins r) :
    (s.applyRecord full r).cu.table = s.cu.table := by
  obtain ⟨v, notified⟩ := s.applyRecord_notified (r := r) full
  obtain ⟨o, table⟩ := notified.table
  rw [table]
  split
  · next own =>
    rw [State.reportWin_other, notified.cu]
    intro x offered
    rw [notified.cu] at offered ⊢
    exact Bool.eq_false_iff.mpr fun waits => loses ⟨own, framed, x, offered, waits⟩
  · rw [notified.cu]

/-- The table after an applied record that wins the offered command, and CMDDONE. -/
theorem State.applyRecord_wins (full : Bool) (own : r.ownWin = true) {x : Fin 16} (offered : s.cu.offered = .command x)
    (waits : openTag x s.cu.table = true) : (s.applyRecord full r).mp.raised .cmddone = true ∧
    ∃ o, (s.applyRecord full r).cu.table = settleHead (s.participation = .inStep) (finishTag x o s.cu.table) := by
  obtain ⟨v, notified⟩ := s.applyRecord_notified (r := r) full
  rw [← notified.cu] at offered waits
  refine ⟨?_, ?_⟩
  · obtain ⟨⟨o, e, applied⟩, -, -⟩ := notified
    rw [applied, State.notificationStage, if_pos own, State.reportWin_wins o offered waits]
    refine State.captureIfArmed_raised (State.raiseIf_raised ?_)
    rw [State.notifyWaitRestore_mp]
    exact Mp.raised_raise_self _ _
  · obtain ⟨o, table⟩ := notified.table
    refine ⟨o, ?_⟩
    rw [table, if_pos own, State.reportWin_wins o offered waits, State.raise_cu, State.setTable_cu, notified.cu, State.participation, notified.pc]
    rfl

/-! ## The judgement -/

theorem State.Counts.cu (counts : u.Counts s) : u.cu = s.cu := by rw [counts.rest]

theorem Outcome.cu_listening (outcome : Outcome r s u) (outside : s.participation.inGroup = false) : u.cu = s.cu := by
  have other {p : Participation} (inside : p.inGroup = true) (q : s.participation = p) : False := by
    rw [q, inside] at outside
    cases outside
  cases outcome with
  | counts _ counts _ => exact counts.cu
  | apart v counts dest c _ =>
    have stays : ¬v.participation.inGroup = true := by rw [counts.participation, outside]; exact Bool.false_ne_true
    rw [State.setApart, State.offerWithdraw_cu]
    rw [State.leaveGroup, if_neg stays]
    exact counts.cu
  | sync _ _ g => exact absurd g (by rw [outside]; exact Bool.false_ne_true)
  | learns v counts _ => exact counts.cu
  | founds _ _ p => exact (other rfl p).elim
  | applies _ _ p => exact (other rfl p).elim
  | joins _ _ p => exact (other rfl p).elim
  | falls _ _ _ p => exact (other rfl p).elim
  | splits _ _ _ p => exact (other rfl p).elim
  | inStep _ _ p => exact (other rfl p).elim

/-- A judgement that leaves the group abandons the table. -/
theorem Outcome.abandons (outcome : Outcome r s u) (inside : s.participation.inGroup = true) (left : u.participation.inGroup = false) :
    u.cu.table = s.cu.table.map (CmdRecord.finishOpen .abandoned) := by
  have stays {p : Participation} (q : u.participation = p) (grouped : p.inGroup = true) : False := by
    rw [q, grouped] at left
    cases left
  cases outcome with
  | counts _ counts _ => exact (stays counts.participation inside).elim
  | apart v counts dest c _ =>
    rw [State.setApart, State.offerWithdraw_cu]
    refine (State.leaveGroup_table dest).trans ?_
    rw [counts.participation, if_pos inside, counts.cu]
  | sync v counts _ =>
    rw [State.syncLoss, State.offerWithdraw_cu]
    refine (State.leaveGroup_table .listening).trans ?_
    rw [counts.participation, if_pos inside, counts.cu]
  | learns v counts p =>
    rw [p] at inside
    cases inside
  | founds v _ _ => exact (stays (p := .inStep) (by rw [State.participation, State.found_pc]) rfl).elim
  | applies v counts p => exact (stays (p := .learning) (by rw [State.participation, State.applyRecord_pc]; exact counts.participation.trans p) rfl).elim
  | joins v _ _ => exact (stays (p := .inStep) (by rw [State.participation, State.reconcile_pc, State.joinStep_pc]) rfl).elim
  | falls v _ c _ => exact (stays (p := .learning) (by rw [State.participation, State.fall_pc]) rfl).elim
  | splits v _ c _ => exact (stays (p := .learning) (by rw [State.participation, State.applyRecord_pc, State.fall_pc]) rfl).elim
  | inStep v counts p => exact (stays (p := .inStep) (by rw [State.participation, State.applyRecord_pc]; exact counts.participation.trans p) rfl).elim

theorem State.fall_table (c : Cause) : (s.fall c).cu.table = settleHead false s.cu.table := rfl

theorem State.joinStep_table : s.joinStep.cu.table = settleHead true s.cu.table := rfl

theorem State.found_table : (s.found r).cu.table = settleHead true s.cu.table := by
  rw [State.found, State.reconcile_cu, State.captureIfArmed_cu, State.joinStep_table, State.notifyOwn_table]

theorem State.Wins.of_same (wins : u.Wins r) (offered : u.cu.offered = s.cu.offered)
    (same : u.cu.table.map CmdRecord.behind = s.cu.table.map CmdRecord.behind) : s.Wins r := by
  obtain ⟨own, framed, x, command, waits⟩ := wins
  exact ⟨own, framed, x, offered ▸ command, by rw [← openTag_congr same, waits]⟩

/-- A judgement that stays in the group and wins nothing moves the head's place at most. -/
theorem Outcome.same_records (outcome : Outcome r s u) (inside : s.participation.inGroup = true) (stays : u.participation.inGroup = true)
    (loses : ¬s.Wins r) : u.cu.table.map CmdRecord.behind = s.cu.table.map CmdRecord.behind := by
  have other {v : State} (counts : v.Counts s) : ¬v.Wins r := fun wins => loses (wins.of_same (by rw [counts.cu]) (by rw [counts.cu]))
  have gone {p : Participation} (q : u.participation = p) (out : p.inGroup = false) : False := by
    rw [q, out] at stays
    cases stays
  cases outcome with
  | counts _ counts _ => rw [counts.cu]
  | apart v _ dest c apart =>
    refine (gone (p := dest) (by rw [State.participation, State.setApart_pc]) ?_).elim
    rcases apart with rfl | rfl <;> rfl
  | sync v _ _ => exact (gone (p := .listening) (by rw [State.participation, State.syncLoss_pc]) rfl).elim
  | learns v _ p =>
    rw [p] at inside
    cases inside
  | founds v counts _ _ => rw [State.found_table, map_behind_settleHead, counts.cu]
  | applies v counts _ framed => rw [State.applyRecord_table_other _ framed (other counts), counts.cu]
  | joins v counts _ framed =>
    rw [State.reconcile_cu, State.joinStep_table, map_behind_settleHead, State.applyRecord_table_other _ framed (other counts), counts.cu]
  | falls v counts c _ _ => rw [State.fall_table, map_behind_settleHead, counts.cu]
  | splits v counts c _ framed =>
    have table : (v.fall c).cu.table.map CmdRecord.behind = s.cu.table.map CmdRecord.behind := by
      rw [State.fall_table, map_behind_settleHead, counts.cu]
    rw [State.applyRecord_table_other _ framed fun wins => loses (wins.of_same (by rw [← counts.cu]; rfl) table), table]
  | inStep v counts _ framed => rw [State.applyRecord_table_other _ framed (other counts), counts.cu]

/-- A judgement in IN_STEP that stays in the group and wins the offered command finishes its record. -/
theorem Outcome.finishes (outcome : Outcome r s u) (inStep : s.participation = .inStep) (stays : u.participation.inGroup = true)
    (own : r.ownWin = true) (framed : r.faults.any = false) {x : Fin 16} (offered : s.cu.offered = .command x) (waits : openTag x s.cu.table = true) :
    u.mp.raised .cmddone = true ∧
    ∃ o, u.cu.table.map CmdRecord.behind = (finishTag x o s.cu.table).map CmdRecord.behind := by
  have gone {p : Participation} (q : u.participation = p) (out : p.inGroup = false) : False := by
    rw [q, out] at stays
    cases stays
  have notLearning {α : Prop} (p : s.participation = .learning) : α := by
    rw [inStep] at p
    cases p
  cases outcome with
  | counts _ _ p =>
    rw [inStep] at p
    rcases p with p | p <;> cases p
  | apart v _ dest c apart =>
    refine (gone (p := dest) (by rw [State.participation, State.setApart_pc]) ?_).elim
    rcases apart with rfl | rfl <;> rfl
  | sync v _ _ => exact (gone (p := .listening) (by rw [State.participation, State.syncLoss_pc]) rfl).elim
  | learns v _ p =>
    rw [inStep] at p
    cases p
  | founds v _ p _ => exact notLearning p
  | applies v _ p _ => exact notLearning p
  | joins v _ p _ => exact notLearning p
  | falls v _ c _ faulted =>
    rw [framed] at faulted
    cases faulted
  | splits v counts c _ _ =>
    have table : (v.fall c).cu.table.map CmdRecord.behind = s.cu.table.map CmdRecord.behind := by
      rw [State.fall_table, map_behind_settleHead, counts.cu]
    have offers : (v.fall c).cu.offered = .command x := by
      rw [← offered, ← counts.cu]
      rfl
    obtain ⟨raised, o, finished⟩ := State.applyRecord_wins (s := v.fall c) false own offers ((openTag_congr table).trans waits)
    exact ⟨raised, o, by rw [finished, map_behind_settleHead]; exact (finishTag_blind x o).map table⟩
  | inStep v counts _ _ =>
    rw [← counts.cu] at offered waits
    obtain ⟨raised, o, finished⟩ := State.applyRecord_wins true own offered waits
    exact ⟨raised, o, by rw [finished, map_behind_settleHead, counts.cu]⟩

theorem State.deliver_cu_outside (outside : s.participation.inGroup = false) : (s.deliver r).cu = s.cu := by
  by_cases timed : s.participation.timed = true
  · have p := (timed_iff.mp timed).resolve_right (by rw [outside]; exact Bool.false_ne_true)
    rw [State.deliver_listening p]
    exact (outcome_judge (s := s.seen r) r timed).cu_listening outside
  · by_cases apart : s.participation = .isolated ∨ s.participation = .conflict
    · rw [State.deliver_apart apart]
      rfl
    · rw [State.deliver_deaf (by simpa [Participation.receiving, timed] using apart)]

theorem State.raise_eq (i : Irq) : s.raise i = { s with mp := { s.mp with istat := s.mp.istat ||| i.mask } } := rfl

theorem CmdRecord.countedAs_congr {g : CmdRecord} (tag : g.tag = h.tag) (count : g.headCount = h.headCount) : g.countedAs = h.countedAs := by
  funext c
  rw [CmdRecord.countedAs, CmdRecord.countedAs, tag, count]

theorem CmdRecord.behind_tag (c : CmdRecord) : c.behind.tag = c.tag := by
  unfold CmdRecord.behind
  split <;> rfl

theorem map_tag_of_behind {l l' : List CmdRecord} (same : l.map CmdRecord.behind = l'.map CmdRecord.behind) :
    l.map CmdRecord.tag = l'.map CmdRecord.tag := by
  have past (k : List CmdRecord) : k.map CmdRecord.tag = (k.map CmdRecord.behind).map CmdRecord.tag := by
    rw [List.map_map]
    exact List.map_congr_left fun c _ => c.behind_tag.symm
  rw [past l, past l', same]

/-- A counted head that reaches 64 is EXPIRED, and the table holds its tag once. -/
theorem State.countHead_expired (shaped : CommandTableShaped s) (head : headOf s.cu.table = some h) (last : h.headCount = 63) :
    ∀ c ∈ (s.countHead (some h.tag)).cu.table, c.tag = h.tag → c.state = .done ∧ c.outcome = some .expired ∧ c.headCount = 64 := by
  obtain ⟨mem, -⟩ := headOf_open head
  obtain ⟨-, tags, -⟩ := tableShaped_iff.mp shaped
  intro c listed tag
  rw [State.countHead_table head tags] at listed
  have behind := List.mem_map_of_mem (f := CmdRecord.behind) listed
  rw [map_behind_settleHead, List.map_map] at behind
  obtain ⟨e, inTable, same⟩ := List.mem_map.mp behind
  have expired : h.countedAs h = { h with headCount := 64, state := .done, outcome := some .expired } := by simp [CmdRecord.countedAs, last]
  have keepsTag : (h.countedAs e).tag = e.tag := by
    unfold CmdRecord.countedAs
    split
    · split <;> rfl
    · rfl
  have eTag : e.tag = h.tag := by
    have tags := congrArg CmdRecord.tag same
    rwa [Function.comp_apply, CmdRecord.behind_tag, keepsTag, CmdRecord.behind_tag, tag] at tags
  obtain rfl := eq_of_tag_eq tags inTable mem eTag
  have isExpired := CmdRecord.eq_of_behind same.symm (by rw [expired])
  rw [isExpired, expired]
  exact ⟨rfl, rfl, rfl⟩

/-! ## A delivery in the group -/

section
variable (inside : s.participation.inGroup = true)
include inside

theorem State.deliver_outcome : ∃ u, Outcome r (s.seen r) u ∧ s.deliver r = u.countHead s.cu.headTag :=
  ⟨_, outcome_judge (s := s.seen r) r (timed_iff.mpr (.inr inside)), State.deliver_inGroup inside⟩

theorem State.deliver_abandons (left : (s.deliver r).participation.inGroup = false) :
    (s.deliver r).cu.table = s.cu.table.map (CmdRecord.finishOpen .abandoned) := by
  obtain ⟨u, outcome, delivered⟩ := s.deliver_outcome (r := r) inside
  rw [delivered, State.participation, State.countHead_pc] at left
  have table : u.cu.table = s.cu.table.map (CmdRecord.finishOpen .abandoned) := outcome.abandons inside left
  have none_open : headOf u.cu.table = none := by
    refine headOf_eq_none.mpr fun c listed => ?_
    rw [table] at listed
    obtain ⟨d, -, rfl⟩ := List.mem_map.mp listed
    exact d.finishOpen_state _
  rw [delivered, State.countHead_none_open none_open, table]

variable (stays : (s.deliver r).participation.inGroup = true)
include stays

theorem State.deliver_none_open (none_open : headOf s.cu.table = none) : (s.deliver r).cu.table = s.cu.table := by
  obtain ⟨u, outcome, delivered⟩ := s.deliver_outcome (r := r) inside
  rw [delivered, State.participation, State.countHead_pc] at stays
  have done := headOf_eq_none.mp none_open
  have loses : ¬(s.seen r).Wins r := fun ⟨_, _, x, _, waits⟩ => by
    obtain ⟨c, listed, -, open'⟩ := openTag_iff.mp waits
    exact open' (done c listed)
  have same := outcome.same_records inside stays loses
  have table : u.cu.table = s.cu.table := by
    have settled : settleHead true u.cu.table = s.cu.table := (settleHead_congr same).trans (settleHead_of_done done)
    refine (settleHead_of_done fun c listed => ?_).symm.trans settled
    have behind := List.mem_map_of_mem (f := CmdRecord.behind) listed
    rw [same] at behind
    obtain ⟨d, mem, eq⟩ := List.mem_map.mp behind
    exact CmdRecord.behind_state_done.mp (eq ▸ CmdRecord.behind_state_done.mpr (done d mem))
  rw [delivered, Cu.headTag, none_open]
  exact table

theorem State.deliver_counts (shaped : CommandTableShaped s) (head : headOf s.cu.table = some h) (loses : ¬s.Wins r) :
    (s.deliver r).cu.table = settleHead ((s.deliver r).participation = .inStep) (s.cu.table.map h.countedAs) ∧
    (64 ≤ h.headCount + 1 → (s.deliver r).mp.raised .cmddone = true) := by
  obtain ⟨u, outcome, delivered⟩ := s.deliver_outcome (r := r) inside
  have participation : (s.deliver r).participation = u.participation := by
    rw [delivered, State.participation, State.countHead_pc, State.participation]
  rw [participation] at stays ⊢
  have same := outcome.same_records inside stays loses
  obtain ⟨-, tags, -⟩ := tableShaped_iff.mp shaped
  obtain ⟨g, headNow, tag, count⟩ := headOf_congr same.symm head
  have distinct : (u.cu.table.map CmdRecord.tag).Nodup := by
    rw [map_tag_of_behind same]
    exact tags
  have headTag : s.cu.headTag = some g.tag := by
    rw [Cu.headTag, head, tag]
    rfl
  rw [delivered, headTag]
  refine ⟨?_, fun many => State.countHead_raises headNow (by rw [count]; exact many)⟩
  rw [State.countHead_table headNow distinct, CmdRecord.countedAs_congr tag count]
  exact settleHead_congr ((countedAs_blind h).map same)

end

theorem State.deliver_wins (shaped : CommandTableShaped s) (inStep : s.participation = .inStep) (stays : (s.deliver r).participation.inGroup = true)
    (head : headOf s.cu.table = some h) (own : r.ownWin = true) (framed : r.faults.any = false) (offered : s.cu.offered = .command h.tag) :
    (s.deliver r).cu.table.map (fun c => (c.tag, c.kind, c.headCount)) = s.cu.table.map (fun c => (c.tag, c.kind, c.headCount)) ∧
    (∀ c ∈ (s.deliver r).cu.table, c.tag = h.tag → c.state = .done ∧ c.outcome.isSome = true) ∧
    (s.deliver r).mp.raised .cmddone = true := by
  have inside : s.participation.inGroup = true := by rw [inStep]; rfl
  obtain ⟨u, outcome, delivered⟩ := s.deliver_outcome (r := r) inside
  rw [delivered, State.participation, State.countHead_pc] at stays
  obtain ⟨mem, open'⟩ := headOf_open head
  obtain ⟨raised, o, finished⟩ :=
    outcome.finishes inStep stays own framed (x := h.tag) offered (openTag_iff.mpr ⟨h, mem, rfl, open'⟩)
  have finishedState {d : CmdRecord} (listed : d ∈ finishTag h.tag o s.cu.table) (tag : d.tag = h.tag) : d = h.finish o := by
    obtain ⟨e, inTable, rfl⟩ := List.mem_map.mp listed
    by_cases eTag : e.tag = h.tag
    · obtain rfl := eq_of_tag_eq (tableShaped_iff.mp shaped).tags inTable mem eTag
      rw [if_pos rfl, CmdRecord.finishOpen, if_neg open']
    · rw [if_neg eTag] at tag
      exact absurd tag eTag
  have done : ∀ c ∈ u.cu.table, c.tag = h.tag → c = h.finish o := by
    intro c listed tag
    have behind := List.mem_map_of_mem (f := CmdRecord.behind) listed
    rw [finished] at behind
    obtain ⟨d, inTable, same⟩ := List.mem_map.mp behind
    have dTag : d.tag = h.tag := by rw [← d.behind_tag, same, c.behind_tag, tag]
    have isFinished := finishedState inTable dTag
    rw [← isFinished]
    exact CmdRecord.eq_of_behind same.symm (by rw [isFinished]; rfl)
  have other : u.cu.headTag ≠ some h.tag := by
    intro same
    obtain ⟨g, headNow, tag⟩ := Option.map_eq_some_iff.mp same
    obtain ⟨listed, waits⟩ := headOf_open headNow
    rw [done g listed tag] at waits
    exact waits rfl
  have headTag : s.cu.headTag = some h.tag := by
    rw [Cu.headTag, head]
    rfl
  rw [delivered, headTag, State.countHead_other other]
  refine ⟨?_, fun c listed tag => ?_, raised⟩
  · have past (k : List CmdRecord) : k.map (fun c => (c.tag, c.kind, c.headCount)) =
        (k.map CmdRecord.behind).map fun c => (c.tag, c.kind, c.headCount) := by
      rw [List.map_map]
      refine List.map_congr_left fun c _ => ?_
      rw [Function.comp_apply, CmdRecord.behind]
      split <;> rfl
    rw [past u.cu.table, finished, ← past, finishTag, List.map_map]
    refine List.map_congr_left fun c _ => ?_
    rw [Function.comp_apply, CmdRecord.finishOpen]
    split
    · split <;> rfl
    · rfl
  · rw [done c listed tag]
    exact ⟨rfl, rfl⟩

end

/-- Settles O46. -/
theorem headExpiresAtSixtyFour : Obligations.HeadExpiresAtSixtyFour := by
  refine ⟨?_, ?_, ?_, ?_, ?_, ?_, ?_, ?_⟩
  · intro s h head many expired
    rw [exec, execCommandExpiry, State.expireHead_expires head many, finishTag_eq]
    rfl
  · intro s h head few
    rw [exec, execCommandExpiry, State.expireHead_few head few]
  · intro s none_open
    rw [exec, execCommandExpiry, State.expireHead_none none_open]
  · intro s h shaped head few
    obtain ⟨-, -, made⟩ := tableShaped_iff.mp shaped
    rw [State.countHead_head head, State.expireHead_few (headOf_counted head) few, State.setTable, settleHead_countTag _ made]
    rfl
  · intro s h shaped head last
    exact State.countHead_expired shaped head last
  · intro s x other
    exact State.countHead_other other
  · intro r s outside
    exact State.deliver_cu_outside outside
  · intro r s inside shaped t wins
    refine ⟨fun left => ?_, fun stays none_open => State.deliver_none_open inside stays none_open, fun h stays head loses => ?_,
      fun h inStep stays head own framed offered => State.deliver_wins shaped inStep stays head own framed offered⟩
    · exact State.deliver_abandons inside left
    · exact State.deliver_counts inside stays shaped head loses

end Sys2Proof.Machine
end

section
/-! SUPPORT. The order of the wait list (R68, R69) under arrivals and requeues, the requeues of a stage put in order, and what ending a cover leaves of every
entry and of the list (R82 to R84). -/

namespace Sys2Proof.Machine

open Sys2Proof.Safety

/-! ## Lists in order -/

section
variable {α : Type} {f : α → Nat} {front : α → Bool} {l : List α}

/-- A list in order stops where its front ends: behind it no member is at the front. -/
theorem mem_dropWhile_behind (closed : ∀ a b, f a ≤ f b → front b = true → front a = true) (ordered : l.Pairwise fun a b => f a ≤ f b) {q : α}
    (mem : q ∈ l.dropWhile front) : front q = false := by
  have sub : (l.dropWhile front).Pairwise fun a b => f a ≤ f b := ordered.sublist (List.dropWhile_sublist _)
  cases dropped : l.dropWhile front with
  | nil =>
    rw [dropped] at mem
    cases mem
  | cons a rest =>
    have stops := List.head?_dropWhile_not front l
    rw [dropped] at stops sub mem
    have first : front a = false := stops
    rcases List.mem_cons.mp mem with rfl | later
    · exact first
    · exact Bool.eq_false_iff.mpr fun ahead => Bool.eq_false_iff.mp first (closed a q ((List.pairwise_cons.mp sub).1 q later) ahead)

/-- A relation that holds along the list, from its front to a new member, and from the new member to what is behind it, holds along the list with the new
member put there. -/
theorem pairwise_inserted {R : α → α → Prop} {p : α} (ordered : l.Pairwise R) (before : ∀ q ∈ l.takeWhile front, R q p)
    (after : ∀ q ∈ l.dropWhile front, R p q) : (l.takeWhile front ++ p :: l.dropWhile front).Pairwise R := by
  rw [List.pairwise_append, List.pairwise_cons]
  rw [← List.takeWhile_append_dropWhile (p := front) (l := l), List.pairwise_append] at ordered
  obtain ⟨first, second, across⟩ := ordered
  refine ⟨first, ⟨after, second⟩, fun a memA b memB => ?_⟩
  rcases List.mem_cons.mp memB with rfl | memB
  · exact before a memA
  · exact across a memA b memB

theorem nodup_inserted {p : α} (distinct : l.Nodup) (fresh : p ∉ l) : (l.takeWhile front ++ p :: l.dropWhile front).Nodup := by
  refine pairwise_inserted distinct (fun q mem => ?_) fun q mem => ?_
  · rintro rfl
    exact fresh ((List.takeWhile_sublist _).mem mem)
  · rintro rfl
    exact fresh ((List.dropWhile_sublist _).mem mem)

end

/-! ## Arrivals and requeues -/

/-- The wait list stands in ascending order of class. -/
abbrev Gtu.Ordered (g : Gtu) : Prop := g.waitList.Pairwise fun p q => g.rankClass p ≤ g.rankClass q

/-- Two tables that differ in entries and wait list alone. -/
def Gtu.SameRest (g h : Gtu) : Prop := h.sliceIndex = g.sliceIndex ∧ h.requested = g.requested

theorem Cls.ofCode_code (c : Cls) : Cls.ofCode c.code = some c := by cases c <;> rfl

theorem Cls.code_injective {c d : Cls} (same : c.code = d.code) : c = d := by
  have decoded := c.ofCode_code
  rw [same, d.ofCode_code] at decoded
  exact (Option.some.inj decoded).symm

section
variable {g h start : Gtu} {p q : Pos}

theorem Gtu.SameRest.rfl : g.SameRest g := ⟨Eq.refl _, Eq.refl _⟩

theorem Gtu.SameRest.trans {i : Gtu} (first : g.SameRest h) (second : h.SameRest i) : g.SameRest i :=
  ⟨second.1.trans first.1, second.2.trans first.2⟩

theorem Gtu.sameRest_foldl {f : Gtu → Pos → Gtu} (each : ∀ (g : Gtu) (p : Pos), g.SameRest (f g p)) (l : List Pos) : g.SameRest (l.foldl f g) :=
  Gtu.foldl_keeps (P := fun h => g.SameRest h) (fun h p kept => kept.trans (each h p)) l g .rfl

theorem Gtu.rankClass_congr (same : ∀ n, h.entry n = g.entry n) : h.rankClass = g.rankClass := by
  funext n
  rw [Gtu.rankClass, Gtu.rankClass, same]

theorem Gtu.mem_offList : q ∈ (g.offList p).waitList ↔ q ≠ p ∧ q ∈ g.waitList := by simp [Gtu.offList, and_comm]

theorem Gtu.not_mem_offList : p ∉ (g.offList p).waitList := fun mem => (Gtu.mem_offList.mp mem).1 rfl

theorem Gtu.mem_arrive : q ∈ (g.arrive p).waitList ↔ q = p ∨ q ∈ g.waitList := by
  obtain ⟨before, after, list, rest, -, -⟩ := g.waitList_arrive p
  rw [list, List.mem_append, List.mem_cons, or_left_comm, ← List.mem_append, rest, Gtu.mem_offList]
  tauto

theorem Gtu.nodup_arrive (distinct : g.waitList.Nodup) : (g.arrive p).waitList.Nodup :=
  nodup_inserted (distinct.sublist List.filter_sublist) Gtu.not_mem_offList

theorem Gtu.nodup_requeue (distinct : g.waitList.Nodup) : (g.requeue p).waitList.Nodup :=
  nodup_inserted (distinct.sublist List.filter_sublist) Gtu.not_mem_offList

/-- An arrival keeps the order, whatever the class the arriving position had before. -/
theorem Gtu.ordered_arrive (ordered : (g.offList p).Ordered) : (g.arrive p).Ordered := by
  refine pairwise_inserted (R := fun a b => g.rankClass a ≤ g.rankClass b) ordered (fun q mem => ?_) fun q mem => ?_
  · have ahead := List.mem_takeWhile_imp mem
    exact of_decide_eq_true ahead
  · have behind := mem_dropWhile_behind (f := g.rankClass) (fun a b low ahead => decide_eq_true (low.trans (of_decide_eq_true ahead))) ordered mem
    exact Nat.le_of_lt (Nat.lt_of_not_le (of_decide_eq_false behind))

theorem Gtu.ordered_requeue (ordered : (g.offList p).Ordered) : (g.requeue p).Ordered := by
  refine pairwise_inserted (R := fun a b => g.rankClass a ≤ g.rankClass b) ordered (fun q mem => ?_) fun q mem => ?_
  · have ahead := List.mem_takeWhile_imp mem
    exact Nat.le_of_lt (of_decide_eq_true ahead)
  · have behind := mem_dropWhile_behind (f := g.rankClass) (fun a b low ahead => decide_eq_true (Nat.lt_of_le_of_lt low (of_decide_eq_true ahead)))
      ordered mem
    exact Nat.le_of_not_lt (of_decide_eq_false behind)

/-! ## The requeues of a stage (R69) -/

/-- `q` was covered when the stage began. -/
def Gtu.covered (start : Gtu) (q : Pos) : Prop := (start.entry q).assignment ≠ .none

/-- The order of a list whose requeued members of `done` have been placed: by class, and in each class the placed ones first, in ascending order. -/
def Gtu.Placed (g : Gtu) (done : Pos → Prop) (p q : Pos) : Prop :=
  g.rankClass p ≤ g.rankClass q ∧ (g.rankClass p = g.rankClass q → (done q → done p) ∧ (done p → done q → p < q))

/-- One requeue puts its position in front of the placed ones of its class, all of which stand above it. -/
theorem Gtu.placed_requeue {done done' : Pos → Prop} (own : ∀ n, done' n ↔ done n ∨ n = p) (below : ∀ n, done n → p < n)
    (placed : g.waitList.Pairwise (g.Placed done)) : (g.requeue p).waitList.Pairwise (g.Placed done') := by
  have rest : (g.offList p).waitList.Pairwise (g.Placed done') := by
    refine List.Pairwise.imp_of_mem (fun {a b} memA memB order => ?_) (placed.sublist List.filter_sublist)
    have others := (Gtu.mem_offList.mp memA).1
    have others' := (Gtu.mem_offList.mp memB).1
    simpa only [Gtu.Placed, own, others, others', or_false] using order
  have ordered : (g.offList p).waitList.Pairwise fun a b => g.rankClass a ≤ g.rankClass b := rest.imp fun order => order.1
  refine pairwise_inserted rest (fun q mem => ?_) fun q mem => ?_
  · have ahead := List.mem_takeWhile_imp mem
    have less : g.rankClass q < g.rankClass p := of_decide_eq_true ahead
    exact ⟨Nat.le_of_lt less, fun same => absurd same (Nat.ne_of_lt less)⟩
  · have behind := mem_dropWhile_behind (f := g.rankClass) (fun a b low ahead => decide_eq_true (Nat.lt_of_le_of_lt low (of_decide_eq_true ahead)))
      ordered mem
    have other : q ≠ p := (Gtu.mem_offList.mp ((List.dropWhile_sublist _).mem mem)).1
    refine ⟨Nat.le_of_not_lt (of_decide_eq_false behind), fun _ => ⟨fun _ => (own p).mpr (.inr rfl), fun _ placedQ => ?_⟩⟩
    exact below q (((own q).mp placedQ).resolve_right other)

theorem Gtu.placed_of_same {done done' : Pos → Prop} (own : ∀ n ∈ g.waitList, done' n ↔ done n)
    (placed : g.waitList.Pairwise (g.Placed done)) : g.waitList.Pairwise (g.Placed done') := by
  refine List.Pairwise.imp_of_mem (fun {a b} memA memB order => ?_) placed
  simpa only [Gtu.Placed, own a memA, own b memB] using order

/-- One step of putting requeues in order. -/
def Gtu.orderStep (start g : Gtu) (p : Pos) : Gtu := if g.waiting p && (start.entry p).assignment ≠ .none then g.requeue p else g

theorem Gtu.orderRequeues_eq (start : Gtu) : g.orderRequeues start = allPos.reverse.foldl (Gtu.orderStep start) g := rfl

theorem Gtu.orderStep_requeues (waits : p ∈ g.waitList) (covered : start.covered p) : Gtu.orderStep start g p = g.requeue p :=
  if_pos (by simpa [Gtu.waiting, waits, Gtu.covered] using covered)

theorem Gtu.orderStep_stays (stays : ¬(p ∈ g.waitList ∧ start.covered p)) : Gtu.orderStep start g p = g :=
  if_neg (by simpa [Gtu.waiting, Gtu.covered] using stays)

theorem Gtu.orderStep_placed (l : List Pos) : ∀ (g : Gtu) (done : Pos → Prop), l.Pairwise (fun a b => b < a) → (∀ n ∈ l, ∀ m, done m → n < m) →
    g.waitList.Pairwise (g.Placed done) →
    (l.foldl (Gtu.orderStep start) g).waitList.Pairwise (g.Placed fun n => done n ∨ (n ∈ l ∧ start.covered n)) := by
  induction l with
  | nil =>
    intro g done _ _ placed
    exact Gtu.placed_of_same (fun n _ => by simp) placed
  | cons p l ih =>
    intro g done descending below placed
    obtain ⟨first, rest⟩ := List.pairwise_cons.mp descending
    rw [List.foldl_cons]
    by_cases requeues : p ∈ g.waitList ∧ start.covered p
    · have ranks : (g.requeue p).rankClass = g.rankClass := Gtu.rankClass_congr fun n => Gtu.entry_requeue g p n
      have sameOrder (d : Pos → Prop) : (g.requeue p).Placed d = g.Placed d := by
        funext a b
        rw [Gtu.Placed, Gtu.Placed, ranks]
      have next := ih (g.requeue p) (fun n => done n ∨ n = p) rest
        (fun n mem m => Or.rec (fun d => below n (List.mem_cons_of_mem p mem) m d) fun same => same ▸ first n mem)
        (by rw [sameOrder]; exact Gtu.placed_requeue (fun n => Iff.rfl) (below p List.mem_cons_self) placed)
      rw [Gtu.orderStep_requeues requeues.1 requeues.2]
      rw [sameOrder] at next
      refine next.imp fun {a b} order => ?_
      have all (n : Pos) : (done n ∨ n ∈ p :: l ∧ start.covered n) ↔ ((done n ∨ n = p) ∨ n ∈ l ∧ start.covered n) := by
        rw [List.mem_cons]
        constructor
        · rintro (d | ⟨rfl | mem, c⟩)
          · exact .inl (.inl d)
          · exact .inl (.inr rfl)
          · exact .inr ⟨mem, c⟩
        · rintro ((d | rfl) | ⟨mem, c⟩)
          · exact .inl d
          · exact .inr ⟨.inl rfl, requeues.2⟩
          · exact .inr ⟨.inr mem, c⟩
      simpa only [Gtu.Placed, all] using order
    · rw [Gtu.orderStep_stays requeues]
      have next := ih g done rest (fun n mem => below n (List.mem_cons_of_mem p mem)) placed
      refine List.Pairwise.imp_of_mem (fun {a b} memA memB order => ?_) next
      have stays {n : Pos} (mem : n ∈ (l.foldl (Gtu.orderStep start) g).waitList) :
          (done n ∨ n ∈ p :: l ∧ start.covered n) ↔ (done n ∨ n ∈ l ∧ start.covered n) := by
        have onList : n ∈ g.waitList := by
          refine Gtu.foldl_keeps (P := fun h => n ∈ h.waitList → n ∈ g.waitList) (fun h q kept inside => ?_) l g id mem
          unfold Gtu.orderStep at inside
          split at inside
          · next waits =>
            rcases (Gtu.mem_requeue h q n).mp inside with rfl | inside
            · simp only [Gtu.waiting, Bool.and_eq_true, decide_eq_true_eq] at waits
              exact kept waits.1
            · exact kept inside
          · exact kept inside
        rw [List.mem_cons]
        constructor
        · rintro (d | ⟨rfl | mem, c⟩)
          · exact .inl d
          · exact absurd ⟨onList, c⟩ requeues
          · exact .inr ⟨mem, c⟩
        · rintro (d | ⟨mem, c⟩)
          · exact .inl d
          · exact .inr ⟨.inr mem, c⟩
      simpa only [Gtu.Placed, stays memA, stays memB] using order

/-- At the end of a stage its requeues stand in order (R69). -/
theorem Gtu.orderRequeues_placed (start : Gtu) (ordered : g.Ordered) : (g.orderRequeues start).waitList.Pairwise (g.Placed start.covered) := by
  have placed := Gtu.orderStep_placed (start := start) allPos.reverse g (fun _ => False) (by decide) (fun _ _ _ none => none.elim)
    (ordered.imp fun order => ⟨order, fun _ => ⟨id, fun none => none.elim⟩⟩)
  have all (n : Pos) : (False ∨ n ∈ allPos.reverse ∧ start.covered n) ↔ start.covered n := by simp [mem_allPos]
  refine placed.imp fun {a b} order => ?_
  simpa only [Gtu.Placed, all] using order

theorem Gtu.nodup_orderRequeues (distinct : g.waitList.Nodup) : (g.orderRequeues start).waitList.Nodup := by
  refine Gtu.foldl_keeps (P := fun h => h.waitList.Nodup) (fun h p kept => ?_) _ g distinct
  split
  · exact Gtu.nodup_requeue kept
  · exact kept

/-- The members that were not covered keep their order. -/
theorem Gtu.filter_orderRequeues (start : Gtu) : ((g.orderRequeues start).waitList.filter fun q => (start.entry q).assignment = .none) =
    g.waitList.filter fun q => (start.entry q).assignment = .none := by
  refine Gtu.foldl_keeps (P := fun h => (h.waitList.filter fun q => decide ((start.entry q).assignment = .none)) =
    g.waitList.filter fun q => decide ((start.entry q).assignment = .none)) (fun h p kept => ?_) _ g rfl
  split
  · next requeues =>
    have covered : ¬(start.entry p).assignment = .none := by
      simp only [Bool.and_eq_true, decide_eq_true_eq] at requeues
      exact requeues.2
    rw [← kept, Gtu.requeue]
    simp only [List.filter_append, List.filter_cons, covered, decide_false, Bool.false_eq_true, if_false]
    rw [← List.filter_append, List.takeWhile_append_dropWhile, Gtu.offList, List.filter_filter]
    refine List.filter_congr fun n _ => ?_
    by_cases same : n = p
    · rw [same]
      simp [covered]
    · simp [same]
  · exact kept

theorem Gtu.ordered_orderRequeues (start : Gtu) (ordered : g.Ordered) : (g.orderRequeues start).Ordered := by
  have ranks : (g.orderRequeues start).rankClass = g.rankClass := Gtu.rankClass_congr fun n => Gtu.entry_orderRequeues g start n
  rw [Gtu.Ordered, ranks]
  exact (g.orderRequeues_placed start ordered).imp fun order => order.1

/-! ## What settling changes -/

theorem Gtu.sameRest_settle : g.SameRest g.settle := ⟨rfl, rfl⟩

theorem Gtu.sameRest_settleFrom (g start : Gtu) : g.SameRest (g.settleFrom start) := .trans (Gtu.orderRequeues_keeps g start) Gtu.sameRest_settle

/-- Settling rewrites a backup's cover and a primary's rank. -/
theorem Gtu.entry_settle (g : Gtu) (n : Pos) : g.settle.entry n =
    { g.entry n with assignment := (g.settle.entry n).assignment, partner := (g.settle.entry n).partner, waitRank := (g.settle.entry n).waitRank } := by
  unfold Gtu.settle
  rw [Gtu.entry_mapEntries]
  split
  · rfl
  · rfl
  · split <;> rfl

theorem Gtu.entry_settleFrom (g start : Gtu) (n : Pos) : (g.settleFrom start).entry n =
    { g.entry n with assignment := ((g.settleFrom start).entry n).assignment, partner := ((g.settleFrom start).entry n).partner,
                     waitRank := ((g.settleFrom start).entry n).waitRank } := by
  have settled := (g.orderRequeues start).entry_settle n
  rw [Gtu.entry_orderRequeues] at settled
  rw [Gtu.settleFrom]
  exact settled

theorem Gtu.entry_settleFrom_primary (role : (g.entry p).role = .primary) :
    (g.settleFrom start).entry p = { g.entry p with waitRank := rankOf (g.settleFrom start).waitList p } := by
  have same := Gtu.entry_orderRequeues g start p
  rw [Gtu.settleFrom, Gtu.entry_settle_primary (by rw [same]; exact role), same, Gtu.waitList_settle]

theorem Gtu.cover_settleFrom (role : (g.entry p).role = .primary) :
    ((g.settleFrom start).entry p).assignment = (g.entry p).assignment ∧ ((g.settleFrom start).entry p).partner = (g.entry p).partner ∧
    ((g.settleFrom start).entry p).waitRank = rankOf (g.settleFrom start).waitList p := by
  rw [Gtu.entry_settleFrom_primary role]
  dsimp only
  exact ⟨.refl _, .refl _, .refl _⟩

theorem Gtu.waitList_settleFrom (g start : Gtu) : (g.settleFrom start).waitList = (g.orderRequeues start).waitList := by
  rw [Gtu.settleFrom, Gtu.waitList_settle]

/-! ## Clearing and dropping (R82 to R84) -/

theorem Gtu.entry_setCover_other (other : q ≠ p) (a : Assignment) (b : Option Pos) (c : Cls) : (g.setCover p a b c).entry q = g.entry q :=
  g.entry_setEntry_other other _

theorem Gtu.entry_setCover_self (a : Assignment) (b : Option Pos) (c : Cls) :
    (g.setCover p a b c).entry p = { g.entry p with assignment := a, partner := b, cls := c } := g.entry_setEntry_self p _

/-- `p` is requeued or cleared by its presence, its lock and its class (R82, R84). -/
theorem Gtu.requeueOrClear_requeues (presence : (g.entry p).presence = .present) (unlocked : (g.entry p).locked = false)
    (waits : (g.entry p).cls.mayWait = true) : g.requeueOrClear p = (g.setCover p .none none (g.entry p).cls).requeue p := by
  simp [Gtu.requeueOrClear, presence, unlocked, waits]

theorem Gtu.requeueOrClear_clears (unfit : ¬((g.entry p).presence = .present ∧ (g.entry p).locked = false ∧ (g.entry p).cls.mayWait = true)) :
    g.requeueOrClear p = g.clearPrimary p := by
  have picked : ¬((decide ((g.entry p).presence = .present) && !(g.entry p).locked && (g.entry p).cls.mayWait) = true) := by
    simpa [and_assoc] using unfit
  rw [Gtu.requeueOrClear, if_neg picked]

theorem Gtu.requeueOrClear_cases (g : Gtu) (p : Pos) :
    ((g.entry p).presence = .present ∧ (g.entry p).locked = false ∧ (g.entry p).cls.mayWait = true ∧
      g.requeueOrClear p = (g.setCover p .none none (g.entry p).cls).requeue p) ∨
    (¬((g.entry p).presence = .present ∧ (g.entry p).locked = false ∧ (g.entry p).cls.mayWait = true) ∧ g.requeueOrClear p = g.clearPrimary p) := by
  by_cases fit : (g.entry p).presence = .present ∧ (g.entry p).locked = false ∧ (g.entry p).cls.mayWait = true
  · exact .inl ⟨fit.1, fit.2.1, fit.2.2, Gtu.requeueOrClear_requeues fit.1 fit.2.1 fit.2.2⟩
  · exact .inr ⟨fit, Gtu.requeueOrClear_clears fit⟩

theorem Gtu.requeueOrClear_other (other : q ≠ p) : (g.requeueOrClear p).entry q = g.entry q := by
  rcases g.requeueOrClear_cases p with ⟨-, -, -, requeued⟩ | ⟨-, cleared⟩
  · rw [requeued, Gtu.entry_requeue, Gtu.entry_setCover_other other]
  · rw [cleared, Gtu.entry_clearPrimary_other (Ne.symm other)]

theorem Gtu.sameRest_requeueOrClear (p : Pos) : g.SameRest (g.requeueOrClear p) := by
  rcases g.requeueOrClear_cases p with ⟨-, -, -, requeued⟩ | ⟨-, cleared⟩
  · rw [requeued]
    exact ⟨rfl, rfl⟩
  · rw [cleared]
    exact ⟨rfl, rfl⟩

/-- The primaries in DROPPING that a primary's own DROPPING of their backup clears. -/
def Gtu.displaces (g : Gtu) (p q : Pos) : Prop := q ≠ p ∧ ∃ b : Pos, (g.entry p).partner = some b ∧ g.dropsHeard q b = true

/-- The pass of a DROPPING over its rivals. -/
def Gtu.clearRivals (g : Gtu) (p : Pos) : Gtu :=
  allPos.foldl (fun h q => if q ≠ p && (g.entry p).partner.any (h.dropsHeard q) then h.clearPrimary q else h) g

theorem Gtu.toDropping_eq (c : Cls) : g.toDropping p c = (g.clearRivals p).setCover p .dropping (g.entry p).partner c := rfl

theorem Gtu.dropsHeard_iff (b : Pos) : g.dropsHeard q b = true ↔ g.drops q b = true ∧ (g.entry b).presence ≠ .lost := by simp [Gtu.dropsHeard]

theorem Gtu.dropsHeard_congr (same : h.entry q = g.entry q) {b : Pos} (facts : (h.entry b).facts = (g.entry b).facts) :
    h.dropsHeard q b = g.dropsHeard q b := by
  simp only [Entry.facts, Prod.mk.injEq] at facts
  obtain ⟨-, presence, -⟩ := facts
  rw [Gtu.dropsHeard, Gtu.dropsHeard, Gtu.drops_congr same, presence]

theorem Gtu.clearRivals_spec (g : Gtu) (p q : Pos) :
    (g.displaces p q → g.ClearedAt (g.clearRivals p) q) ∧ (¬g.displaces p q → g.KeptAt (g.clearRivals p) q) := by
  have any (h : Gtu) (q : Pos) : (g.entry p).partner.any (h.dropsHeard q) = true ↔ ∃ b : Pos, (g.entry p).partner = some b ∧ h.dropsHeard q b = true := by
    cases (g.entry p).partner <;> simp
  obtain ⟨cleared, kept⟩ := Gtu.foldl_clear
    (f := fun h q => if q ≠ p && (g.entry p).partner.any (h.dropsHeard q) then h.clearPrimary q else h)
    (c := fun h q => q ≠ p ∧ ∃ b : Pos, (g.entry p).partner = some b ∧ h.dropsHeard q b = true)
    (fun h q picked => if_pos (by rw [Bool.and_eq_true, any]; simpa using picked))
    (fun h q unpicked => if_neg (by rw [Bool.and_eq_true, any]; simpa using unpicked))
    (fun h x q other => by
      simp only [Gtu.dropsHeard_congr (Gtu.entry_clearPrimary_other other) (h.facts_clearPrimary x _)])
    q allPos g allPos_nodup
  exact ⟨cleared (mem_allPos q), fun stays => kept fun both => stays both.2⟩

theorem Gtu.clearRivals_self : (g.clearRivals p).entry p = g.entry p := ((g.clearRivals_spec p p).2 fun displaced => displaced.1 rfl).1

theorem Gtu.sameRest_clearRivals (p : Pos) : g.SameRest (g.clearRivals p) := by
  refine Gtu.sameRest_foldl (fun h q => ?_) allPos
  split
  · exact ⟨rfl, rfl⟩
  · exact .rfl

theorem Gtu.toDropping_self (c : Cls) : (g.toDropping p c).entry p = { g.entry p with assignment := .dropping, cls := c } := by
  rw [Gtu.toDropping_eq, Gtu.entry_setCover_self, Gtu.clearRivals_self]

theorem Gtu.toDropping_cleared (c : Cls) (displaced : g.displaces p q) : g.ClearedAt (g.toDropping p c) q := by
  obtain ⟨entry, off⟩ := (g.clearRivals_spec p q).1 displaced
  exact ⟨by rw [Gtu.toDropping_eq, Gtu.entry_setCover_other displaced.1, entry], off⟩

theorem Gtu.toDropping_kept (c : Cls) (other : q ≠ p) (stays : ¬g.displaces p q) : g.KeptAt (g.toDropping p c) q := by
  obtain ⟨entry, list⟩ := (g.clearRivals_spec p q).2 stays
  exact ⟨by rw [Gtu.toDropping_eq, Gtu.entry_setCover_other other, entry], list⟩

theorem Gtu.mem_toDropping (c : Cls) (stays : ¬g.displaces p q) : q ∈ (g.toDropping p c).waitList ↔ q ∈ g.waitList :=
  ((g.clearRivals_spec p q).2 stays).2

theorem Gtu.sameRest_toDropping (c : Cls) : g.SameRest (g.toDropping p c) := g.sameRest_clearRivals p

theorem Gtu.clearRivals_none (alone : ∀ q, ¬g.displaces p q) : g.clearRivals p = g := by
  have stays : ∀ l : List Pos, l.foldl (fun h q => if q ≠ p && (g.entry p).partner.any (h.dropsHeard q) then h.clearPrimary q else h) g = g := by
    intro l
    induction l with
    | nil => rfl
    | cons q l ih =>
      rw [List.foldl_cons, if_neg, ih]
      intro picked
      rw [Bool.and_eq_true, decide_eq_true_eq] at picked
      refine alone q ⟨picked.1, ?_⟩
      cases partner : (g.entry p).partner with
      | none =>
        rw [partner] at picked
        cases picked.2
      | some b =>
        rw [partner] at picked
        exact ⟨b, rfl, picked.2⟩
  exact stays allPos

theorem Gtu.toDropping_alone (c : Cls) (alone : ∀ q, ¬g.displaces p q) :
    g.toDropping p c = g.setEntry p { g.entry p with assignment := .dropping, cls := c } := by
  rw [Gtu.toDropping_eq, Gtu.clearRivals_none alone]
  rfl

/-! ## Revocation and release -/

theorem Gtu.revoke_yielding (yielding : (g.entry p).assignment = .yielding) : g.revoke p = g.requeueOrClear p := by simp [Gtu.revoke, yielding]

theorem Gtu.revoke_acting (acts : (g.entry p).assignment = .taking ∨ (g.entry p).assignment = .active) :
    g.revoke p = g.toDropping p (if (g.entry p).cls.mayWait then (g.entry p).cls else .hold) := by
  rcases acts with a | a <;> simp [Gtu.revoke, a]

theorem Gtu.revoke_rests (rests : (g.entry p).assignment = .none ∨ (g.entry p).assignment = .dropping) : g.revoke p = g := by
  rcases rests with a | a <;> simp [Gtu.revoke, a]

theorem Gtu.release_waiting (none : (g.entry p).assignment = .none) (waits : p ∈ g.waitList) : g.release p = g.clearPrimary p := by
  simp [Gtu.release, none, Gtu.waiting, waits]

theorem Gtu.release_free (none : (g.entry p).assignment = .none) (off : p ∉ g.waitList) : g.release p = g := by
  simp [Gtu.release, none, Gtu.waiting, off]

theorem Gtu.release_yielding (yielding : (g.entry p).assignment = .yielding) : g.release p = g.clearPrimary p := by simp [Gtu.release, yielding]

theorem Gtu.release_acting (acts : (g.entry p).assignment = .taking ∨ (g.entry p).assignment = .active) : g.release p = g.toDropping p .hold := by
  rcases acts with a | a <;> simp [Gtu.release, a]

theorem Gtu.release_dropping (dropping : (g.entry p).assignment = .dropping) : g.release p = g.setCls p .hold := by simp [Gtu.release, dropping]

theorem Gtu.entry_setCls_other (other : q ≠ p) (c : Cls) : (g.setCls p c).entry q = g.entry q := g.entry_setEntry_other other _

theorem Gtu.entry_setCls_self (c : Cls) : (g.setCls p c).entry p = { g.entry p with cls := c } := g.entry_setEntry_self p _

/-- The five kinds of a primary's assignment, for ending its cover. -/
theorem Assignment.ending (a : Assignment) : a = .none ∨ a = .yielding ∨ (a = .taking ∨ a = .active) ∨ a = .dropping := by cases a <;> simp

/-- What ending the cover of `p` leaves of the other positions. -/
structure Gtu.Ends (g : Gtu) (p : Pos) (h : Gtu) : Prop where
  others : ∀ q : Pos, q ≠ p →
    ¬(((g.entry p).assignment = .taking ∨ (g.entry p).assignment = .active) ∧ g.displaces p q) → h.entry q = g.entry q
  cleared : ∀ q : Pos, ((g.entry p).assignment = .taking ∨ (g.entry p).assignment = .active) → g.displaces p q → g.ClearedAt h q
  list : ((g.entry p).assignment = .taking ∨ (g.entry p).assignment = .active) → ∀ q : Pos, ¬g.displaces p q → (q ∈ h.waitList ↔ q ∈ g.waitList)
  rest : g.SameRest h

theorem Gtu.ends_toDropping (c : Cls) (acts : (g.entry p).assignment = .taking ∨ (g.entry p).assignment = .active) : g.Ends p (g.toDropping p c) :=
  ⟨fun _ other stays => (Gtu.toDropping_kept c other fun displaced => stays ⟨acts, displaced⟩).1,
    fun _ _ displaced => Gtu.toDropping_cleared c displaced, fun _ _ stays => Gtu.mem_toDropping c stays, Gtu.sameRest_toDropping c⟩

theorem Gtu.ends_quiet (quiet : ¬((g.entry p).assignment = .taking ∨ (g.entry p).assignment = .active)) (others : ∀ q, q ≠ p → h.entry q = g.entry q)
    (rest : g.SameRest h) : g.Ends p h :=
  ⟨fun q other _ => others q other, fun _ acts => absurd acts quiet, fun acts => absurd acts quiet, rest⟩

theorem Gtu.ends_revoke (g : Gtu) (p : Pos) : g.Ends p (g.revoke p) := by
  rcases (g.entry p).assignment.ending with a | a | a | a
  · exact Gtu.ends_quiet (by simp [a]) (fun q _ => by rw [Gtu.revoke_rests (.inl a)]) (by rw [Gtu.revoke_rests (.inl a)]; exact .rfl)
  · rw [Gtu.revoke_yielding a]
    exact Gtu.ends_quiet (by simp [a]) (fun q other => Gtu.requeueOrClear_other other) (Gtu.sameRest_requeueOrClear p)
  · rw [Gtu.revoke_acting a]
    exact Gtu.ends_toDropping _ a
  · exact Gtu.ends_quiet (by simp [a]) (fun q _ => by rw [Gtu.revoke_rests (.inr a)]) (by rw [Gtu.revoke_rests (.inr a)]; exact .rfl)

theorem Gtu.ends_release (g : Gtu) (p : Pos) : g.Ends p (g.release p) := by
  rcases (g.entry p).assignment.ending with a | a | a | a
  · by_cases waits : p ∈ g.waitList
    · rw [Gtu.release_waiting a waits]
      exact Gtu.ends_quiet (by simp [a]) (fun q other => Gtu.entry_clearPrimary_other (Ne.symm other)) ⟨rfl, rfl⟩
    · rw [Gtu.release_free a waits]
      exact Gtu.ends_quiet (by simp [a]) (fun _ _ => rfl) .rfl
  · rw [Gtu.release_yielding a]
    exact Gtu.ends_quiet (by simp [a]) (fun q other => Gtu.entry_clearPrimary_other (Ne.symm other)) ⟨rfl, rfl⟩
  · rw [Gtu.release_acting a]
    exact Gtu.ends_toDropping _ a
  · rw [Gtu.release_dropping a]
    exact Gtu.ends_quiet (by simp [a]) (fun q other => Gtu.entry_setCls_other other _) ⟨rfl, rfl⟩

theorem Gtu.displaces_iff (acts : (g.entry p).assignment = .taking ∨ (g.entry p).assignment = .active) :
    g.displaces p q ↔ ∃ b : Pos, (g.entry p).partner = some b ∧ g.drops q b = true ∧ (g.entry b).presence ≠ .lost := by
  have other (b : Pos) (drops : g.drops q b = true) : q ≠ p := by
    rintro rfl
    rw [((Gtu.drops_iff q b).mp drops).2.1] at acts
    rcases acts with a | a <;> cases a
  simp only [Gtu.displaces, Gtu.dropsHeard_iff]
  exact ⟨fun displaced => displaced.2, fun ⟨b, partner, drops, heard⟩ => ⟨other b drops, b, partner, drops, heard⟩⟩

/-- Where a requeue puts its position. -/
theorem Gtu.requeue_splits (g : Gtu) (p : Pos) : ∃ before after : List Pos, (g.requeue p).waitList = before ++ p :: after ∧
    before ++ after = (g.offList p).waitList ∧ (∀ q ∈ before, g.rankClass q < g.rankClass p) ∧
    ∀ q : Pos, after.head? = some q → g.rankClass p ≤ g.rankClass q := by
  refine ⟨_, _, rfl, List.takeWhile_append_dropWhile, fun q mem => ?_, fun q head => ?_⟩
  · simpa using List.mem_takeWhile_imp mem
  · have stops := List.head?_dropWhile_not (fun q => decide (g.rankClass q < g.rankClass p)) (g.offList p).waitList
    rw [head] at stops
    exact Nat.le_of_not_lt (of_decide_eq_false stops)

end

/-- Settles O31: the end of a stage by the order of its requeues, revocation and release by the primary's assignment. -/
theorem coversEndByRevocationOrRelease : Obligations.CoversEndByRevocationOrRelease := by
  refine ⟨?_, ?_⟩
  · intro g start distinct ordered requeued g'
    refine ⟨fun q => ?_, fun q role => ?_, (g.sameRest_settleFrom start).1, (g.sameRest_settleFrom start).2, ?_, ?_, ?_, ?_⟩
    · exact g.entry_settleFrom start q
    · exact Gtu.cover_settleFrom role
    · rw [g.waitList_settleFrom start]
      exact Gtu.nodup_orderRequeues distinct
    · exact fun q => g.mem_settleFrom start q
    · rw [g.waitList_settleFrom start]
      exact g.filter_orderRequeues start
    · rw [g.waitList_settleFrom start]
      refine (g.orderRequeues_placed start ordered).imp fun {p q} placed => ⟨placed.1, fun same => placed.2 ?_⟩
      rw [Gtu.rankClass, Gtu.rankClass, same]
  · intro g p e waits cleared acts rival
    have mayWait : waits ↔ e.cls.mayWait = true := e.cls.mayWait_iff.symm
    have rivals (q : Pos) (active : acts) : rival q ↔ g.displaces p q :=
      (and_iff_right active).trans (Gtu.displaces_iff active).symm
    have rivals' (q : Pos) : rival q ↔ acts ∧ g.displaces p q :=
      ⟨fun r => ⟨r.1, (rivals q r.1).mp r⟩, fun ⟨active, displaced⟩ => (rivals q active).mpr displaced⟩
    have clears {h : Gtu} (same : h = g.clearPrimary p) : cleared h := by
      subst same
      exact ⟨(g.clearedAt_clearPrimary p).1, rfl⟩
    refine ⟨?_, ?_, ?_, fun active => ?_, fun active alone => ?_, Gtu.revoke_rests, ?_, Gtu.release_free, ?_, Gtu.release_dropping⟩
    · intro f either
      have ends : g.Ends p (f g) := by
        rcases either with rfl | rfl
        · exact g.ends_revoke p
        · exact g.ends_release p
      refine ⟨fun q other stays => ends.others q other fun both => stays ((rivals' q).mpr both), fun q _ displaced => ?_, fun active q stays => ?_,
        ends.rest.1, ends.rest.2⟩
      · obtain ⟨active, displaced⟩ := (rivals' q).mp displaced
        exact ends.cleared q active displaced
      · exact ends.list active q fun displaced => stays ((rivals q active).mpr displaced)
    · intro yielding presence unlocked waiting
      rw [Gtu.revoke_yielding yielding, Gtu.requeueOrClear_requeues presence unlocked (mayWait.mp waiting)]
      obtain ⟨before, after, list, rest, ahead, behind⟩ := (g.setCover p .none none e.cls).requeue_splits p
      have rank {q : Pos} (other : q ≠ p) : (g.setCover p .none none e.cls).rankClass q = (g.entry q).cls.code := by
        rw [Gtu.rankClass, Gtu.entry_setCover_other other]
      have own : (g.setCover p .none none e.cls).rankClass p = e.cls.code := by rw [Gtu.rankClass, Gtu.entry_setCover_self]
      have away {q : Pos} (mem : q ∈ before ++ after) : q ≠ p := by
        rw [rest] at mem
        exact (Gtu.mem_offList.mp mem).1
      refine ⟨?_, before, after, list, rest, fun q mem => ?_, fun q head => ?_⟩
      · rw [Gtu.entry_requeue, Gtu.entry_setCover_self]
      · rw [← rank (away (List.mem_append_left _ mem)), ← own]
        exact ahead q mem
      · rw [← rank (away (List.mem_append_right _ (List.mem_of_head? head))), ← own]
        exact behind q head
    · intro yielding unfit
      refine clears ?_
      rw [Gtu.revoke_yielding yielding]
      exact Gtu.requeueOrClear_clears fun fit => unfit ⟨fit.1, fit.2.1, mayWait.mpr fit.2.2⟩
    · refine ⟨fun waiting => ?_, fun unfit => ?_, ?_⟩
      · rw [Gtu.revoke_acting active, Gtu.toDropping_self, if_pos (mayWait.mp waiting)]
      · rw [Gtu.revoke_acting active, Gtu.toDropping_self, if_neg fun fit => unfit (mayWait.mpr fit)]
      · rw [Gtu.release_acting active, Gtu.toDropping_self]
    · have none_displaced : ∀ q, ¬g.displaces p q := fun q displaced => alone q ((rivals q active).mpr displaced)
      refine ⟨fun waiting => ?_, fun unfit => ?_, ?_⟩
      · rw [Gtu.revoke_acting active, Gtu.toDropping_alone _ none_displaced, if_pos (mayWait.mp waiting)]
      · rw [Gtu.revoke_acting active, Gtu.toDropping_alone _ none_displaced, if_neg fun fit => unfit (mayWait.mpr fit)]
      · rw [Gtu.release_acting active, Gtu.toDropping_alone _ none_displaced]
    · exact fun none waiting => clears (Gtu.release_waiting none waiting)
    · exact fun yielding => clears (Gtu.release_yielding yielding)

end Sys2Proof.Machine
end

section
/-! SUPPORT. A delivered record's work on the table (R53, R78, R81, R103): the claims of a founded table, the application and its requests, and what no delivery
touches. -/

namespace Sys2Proof.Machine

open Sys2Proof.Safety

/-! ## Founding (R78) -/

/-- The class a founded primary claims. -/
def Entry.foundingClaim (e : Entry) : Option Cls := if e.role = .primary ∧ e.presence = .present then e.condition.claim else none

/-- The fresh table of a founding, before its claims. -/
def Gtu.freshTable (blk : List Byte) (r : EpochRecord) (g : Gtu) : Gtu :=
  { entries := tabulate fun n => foundedEntry r n (blockRole blk n), waitList := [], sliceIndex := 0, requested := g.requested }

/-- The claims formed, and the table settled. -/
def Gtu.foundingClaims (blk : List Byte) (r : EpochRecord) (g : Gtu) : Gtu := (allPos.foldl Gtu.foundClaim (g.freshTable blk r)).settle

/-- The order of a list of arrivals made in ascending order of position. -/
def Gtu.Arrived (g : Gtu) (p q : Pos) : Prop :=
  (g.entry p).cls.code < (g.entry q).cls.code ∨ ((g.entry p).cls = (g.entry q).cls ∧ p < q)

/-- From the fresh table, the positions of `done` have formed their claims. -/
structure Gtu.Claimed (fresh : Gtu) (done : Pos → Prop) (g : Gtu) : Prop where
  claims : ∀ (n : Pos) (c : Cls), done n → (fresh.entry n).foundingClaim = some c → g.entry n = { fresh.entry n with cls := c }
  others : ∀ n : Pos, ¬(done n ∧ (fresh.entry n).foundingClaim.isSome = true) → g.entry n = fresh.entry n
  list : ∀ n : Pos, n ∈ g.waitList ↔ done n ∧ (fresh.entry n).foundingClaim.isSome = true
  distinct : g.waitList.Nodup
  order : g.waitList.Pairwise g.Arrived
  rest : fresh.SameRest g

section
variable {fresh g : Gtu} {done done' : Pos → Prop} {p : Pos} {blk : List Byte} {r : EpochRecord}

theorem Gtu.found_eq (blk : List Byte) (r : EpochRecord) (g : Gtu) : g.found blk r = (g.foundingClaims blk r).serviceStage blk := rfl

theorem Gtu.foundClaim_none (none : (g.entry p).foundingClaim = none) : g.foundClaim p = g := by
  unfold Entry.foundingClaim at none
  unfold Gtu.foundClaim
  dsimp only
  split
  · next fit =>
    rw [if_pos (by simpa using fit)] at none
    rw [none]
  · rfl

theorem Gtu.foundClaim_some {c : Cls} (claim : (g.entry p).foundingClaim = some c) : g.foundClaim p = (g.setCls p c).arrive p := by
  unfold Entry.foundingClaim at claim
  split at claim
  · next fit =>
    rw [Gtu.foundClaim]
    simp only [fit.1, fit.2, decide_true, Bool.and_self, if_true, claim]
  · cases claim

theorem Gtu.Claimed.of_same (same : ∀ n, done' n ∧ (fresh.entry n).foundingClaim.isSome = true ↔ done n ∧ (fresh.entry n).foundingClaim.isSome = true)
    (claimed : fresh.Claimed done g) : fresh.Claimed done' g := by
  refine ⟨fun n c isDone claim => ?_, fun n other => claimed.others n ((not_congr (same n)).mp other), fun n => (claimed.list n).trans (same n).symm,
    claimed.distinct, claimed.order, claimed.rest⟩
  exact claimed.claims n c ((same n).mp ⟨isDone, by rw [claim]; rfl⟩).1 claim

theorem Gtu.rankClass_setCls_other {q : Pos} (other : q ≠ p) (c : Cls) : (g.setCls p c).rankClass q = g.rankClass q := by
  rw [Gtu.rankClass, Gtu.rankClass, Gtu.entry_setCls_other other]

/-- The claim of the next position stands behind those of its class. -/
theorem Gtu.Claimed.next (own : ∀ n, done' n ↔ done n ∨ n = p) (below : ∀ n, done n → n < p) (claimed : fresh.Claimed done g) :
    fresh.Claimed done' (g.foundClaim p) := by
  have notDone : ¬done p := fun isDone => absurd (below p isDone) (lt_irrefl p)
  have entry : g.entry p = fresh.entry p := claimed.others p fun both => notDone both.1
  cases claim : (fresh.entry p).foundingClaim with
  | none =>
    rw [Gtu.foundClaim_none (by rw [entry, claim])]
    refine claimed.of_same fun n => ?_
    rw [own]
    constructor
    · rintro ⟨isDone | rfl, claims⟩
      · exact ⟨isDone, claims⟩
      · rw [claim] at claims
        cases claims
    · exact fun ⟨isDone, claims⟩ => ⟨.inl isDone, claims⟩
  | some c =>
    rw [Gtu.foundClaim_some (c := c) (by rw [entry, claim])]
    have off : p ∉ g.waitList := fun mem => notDone ((claimed.list p).mp mem).1
    have away {q : Pos} (mem : q ∈ g.waitList) : q ≠ p := by
      rintro rfl
      exact off mem
    have list : ((g.setCls p c).offList p).waitList = g.waitList := List.filter_eq_self.mpr fun q mem => by simpa using away mem
    have entries (q : Pos) (other : q ≠ p) : ((g.setCls p c).arrive p).entry q = g.entry q := by
      rw [Gtu.entry_arrive, Gtu.entry_setCls_other other]
    have self : ((g.setCls p c).arrive p).entry p = { fresh.entry p with cls := c } := by
      rw [Gtu.entry_arrive, Gtu.entry_setCls_self, entry]
    refine ⟨fun n d isDone claims => ?_, fun n other => ?_, fun n => ?_, ?_, ?_, claimed.rest.trans ⟨rfl, rfl⟩⟩
    · by_cases same : n = p
      · subst same
        rw [self, show c = d from Option.some.inj (claim.symm.trans claims)]
      · rw [entries n same]
        exact claimed.claims n d (((own n).mp isDone).resolve_right same) claims
    · have different : n ≠ p := by
        rintro rfl
        exact other ⟨(own n).mpr (.inr rfl), by rw [claim]; rfl⟩
      rw [entries n different]
      exact claimed.others n fun both => other ⟨(own n).mpr (.inl both.1), both.2⟩
    · rw [Gtu.mem_arrive, own]
      refine (or_congr_right (claimed.list n)).trans ?_
      constructor
      · rintro (rfl | ⟨isDone, claims⟩)
        · exact ⟨.inr rfl, by rw [claim]; rfl⟩
        · exact ⟨.inl isDone, claims⟩
      · rintro ⟨isDone | rfl, claims⟩
        · exact .inr ⟨isDone, claims⟩
        · exact .inl rfl
    · exact Gtu.nodup_arrive (g := g.setCls p c) claimed.distinct
    · have sameOrder : g.waitList.Pairwise ((g.setCls p c).arrive p).Arrived := by
        refine List.Pairwise.imp_of_mem (fun {a b} memA memB order => ?_) claimed.order
        rw [Gtu.Arrived, entries a (away memA), entries b (away memB)]
        exact order
      have ranked : g.waitList.Pairwise fun a b => (g.setCls p c).rankClass a ≤ (g.setCls p c).rankClass b := by
        refine List.Pairwise.imp_of_mem (fun {a b} memA memB order => ?_) claimed.order
        rw [Gtu.rankClass_setCls_other (away memA), Gtu.rankClass_setCls_other (away memB), Gtu.rankClass, Gtu.rankClass]
        exact order.elim Nat.le_of_lt fun same => by rw [same.1]
      have arrival : ((g.setCls p c).arrive p).waitList =
          g.waitList.takeWhile (fun q => decide ((g.setCls p c).rankClass q ≤ (g.setCls p c).rankClass p)) ++
            p :: g.waitList.dropWhile fun q => decide ((g.setCls p c).rankClass q ≤ (g.setCls p c).rankClass p) := by
        rw [Gtu.arrive, list]
      rw [arrival]
      refine pairwise_inserted sameOrder (fun q mem => ?_) fun q mem => ?_
      · have ahead := List.mem_takeWhile_imp mem
        have onList := (List.takeWhile_sublist _).mem mem
        have low : ((g.setCls p c).entry q).cls.code ≤ ((g.setCls p c).entry p).cls.code := of_decide_eq_true ahead
        rw [Gtu.Arrived, Gtu.entry_arrive, Gtu.entry_arrive]
        exact (Nat.lt_or_eq_of_le low).imp_right fun same => ⟨Cls.code_injective same, below q ((claimed.list q).mp onList).1⟩
      · have behind := mem_dropWhile_behind (f := (g.setCls p c).rankClass) (fun a b low ahead => decide_eq_true (low.trans (of_decide_eq_true ahead)))
          ranked mem
        exact .inl (Nat.lt_of_not_le (of_decide_eq_false behind))

theorem Gtu.claimed_foldl (l : List Pos) : ∀ (g : Gtu) (done : Pos → Prop), l.Pairwise (· < ·) → (∀ n ∈ l, ∀ m, done m → m < n) →
    fresh.Claimed done g → fresh.Claimed (fun n => done n ∨ n ∈ l) (l.foldl Gtu.foundClaim g) := by
  induction l with
  | nil => exact fun g done _ _ claimed => claimed.of_same fun n => by simp
  | cons p l ih =>
    intro g done ascending below claimed
    obtain ⟨first, rest⟩ := List.pairwise_cons.mp ascending
    have next := ih (g.foundClaim p) (fun n => done n ∨ n = p) rest
      (fun n mem m => Or.rec (fun d => below n (List.mem_cons_of_mem p mem) m d) fun same => same ▸ first n mem)
      (claimed.next (fun n => Iff.rfl) (below p List.mem_cons_self))
    exact next.of_same fun n => by rw [List.mem_cons, or_assoc]

theorem Gtu.entry_freshTable (blk : List Byte) (r : EpochRecord) (g : Gtu) (n : Pos) :
    (g.freshTable blk r).entry n = foundedEntry r n (blockRole blk n) := tabulate_get (fun n => foundedEntry r n (blockRole blk n)) n

/-- Before a founding claim nobody is covered. -/
theorem foundedEntry_free (r : EpochRecord) (n : Pos) (role : Role) : (foundedEntry r n role).assignment = .none ∧ (foundedEntry r n role).partner = none ∧
    (foundedEntry r n role).waitRank = 0 ∧ (foundedEntry r n role).role = role ∧ (foundedEntry r n role).cls = .none := by
  unfold foundedEntry
  dsimp only
  split
  · exact ⟨rfl, rfl, rfl, rfl, rfl⟩
  · exact ⟨rfl, rfl, rfl, rfl, rfl⟩

/-- The claims of every position. -/
theorem Gtu.claimed_all (blk : List Byte) (r : EpochRecord) (g : Gtu) :
    (g.freshTable blk r).Claimed (fun _ => True) (allPos.foldl Gtu.foundClaim (g.freshTable blk r)) := by
  have claimed := Gtu.claimed_foldl (fresh := g.freshTable blk r) allPos (g.freshTable blk r) (fun _ => False) allPos_ascending
    (fun _ _ _ none => none.elim)
    ⟨fun _ _ none => none.elim, fun _ _ => rfl, fun n => ⟨fun mem => absurd mem List.not_mem_nil, fun both => both.1.elim⟩, List.nodup_nil, .nil, .rfl⟩
  exact claimed.of_same fun n => by simp [mem_allPos]

/-- Settling a table without covers sets the ranks alone. -/
theorem Gtu.entry_settle_free (free : ∀ n, (g.entry n).assignment = .none ∧ (g.entry n).partner = none)
    (listed : ∀ n ∈ g.waitList, (g.entry n).role = .primary) (ranks : ∀ n, (g.entry n).waitRank = 0) (n : Pos) :
    g.settle.entry n = { g.entry n with waitRank := rankOf g.waitList n } := by
  have holder : g.holder n = none := by
    rw [Gtu.holder, List.find?_eq_none]
    intro q _ held
    rw [Gtu.holds_iff, (free q).1] at held
    exact absurd held.2.1 (by decide)
  have unlisted (other : (g.entry n).role ≠ .primary) : rankOf g.waitList n = 0 := rankOf_eq_zero fun mem => other (listed n mem)
  have back : { g.entry n with waitRank := 0 } = g.entry n := by rw [← ranks n]
  cases role : (g.entry n).role with
  | primary => exact Gtu.entry_settle_primary role
  | empty =>
    rw [unlisted (by rw [role]; decide), back]
    simp [Gtu.settle, role]
  | backup =>
    rw [unlisted (by rw [role]; decide), back]
    have same : ({ g.entry n with assignment := .none, partner := none } : Entry) = g.entry n := by rw [← (free n).1, ← (free n).2]
    simp only [Gtu.settle, Gtu.entry_mapEntries, role, holder]
    rw [← role]
    exact same

theorem Gtu.Claimed.cover (claimed : fresh.Claimed done g) (n : Pos) : g.entry n = { fresh.entry n with cls := (g.entry n).cls } := by
  by_cases claims : done n ∧ (fresh.entry n).foundingClaim.isSome = true
  · obtain ⟨c, claim⟩ := Option.isSome_iff_exists.mp claims.2
    rw [claimed.claims n c claims.1 claim]
  · rw [claimed.others n claims]

theorem Entry.foundingClaim_isSome {e : Entry} : e.foundingClaim.isSome = true ↔ e.role = .primary ∧ e.presence = .present ∧ e.condition ≠ .clear := by
  unfold Entry.foundingClaim
  by_cases fit : e.role = .primary ∧ e.presence = .present
  · rw [if_pos fit]
    cases condition : e.condition <;> simp [fit.1, fit.2, Condition.claim]
  · rw [if_neg fit]
    simp only [Option.isSome_none, Bool.false_eq_true, false_iff]
    exact fun claims => fit ⟨claims.1, claims.2.1⟩

/-- The entries of the claims, settled. -/
theorem Gtu.entry_foundingClaims (blk : List Byte) (r : EpochRecord) (g : Gtu) (n : Pos) : (g.foundingClaims blk r).entry n =
    { (allPos.foldl Gtu.foundClaim (g.freshTable blk r)).entry n with waitRank := rankOf (g.foundingClaims blk r).waitList n } := by
  have claimed := g.claimed_all blk r
  have fresh (m : Pos) := foundedEntry_free r m (blockRole blk m)
  rw [Gtu.foundingClaims, Gtu.waitList_settle]
  refine Gtu.entry_settle_free (fun m => ?_) (fun m mem => ?_) (fun m => ?_) n
  · rw [claimed.cover m, g.entry_freshTable blk r m]
    exact ⟨(fresh m).1, (fresh m).2.1⟩
  · have claims := Entry.foundingClaim_isSome.mp ((claimed.list m).mp mem).2
    rw [claimed.cover m]
    exact claims.1
  · rw [claimed.cover m, g.entry_freshTable blk r m]
    exact (fresh m).2.2.1

theorem foundedEntry_absent {n : Pos} {role : Role} (absent : role = .empty ∨ cellAt r.cells n.val = false) :
    foundedEntry r n role = Entry.cleared role := by
  unfold foundedEntry
  rcases absent with empty | silent
  · rw [if_neg (by simp [empty])]
  · rw [if_neg (by simp [EpochRecord.presence, silent])]

theorem foundedEntry_present {n : Pos} {role : Role} (configured : role ≠ .empty) (seen : cellAt r.cells n.val = true) :
    foundedEntry r n role = { Entry.cleared role with presence := .present, condition := r.condition n, faulted := r.fault n } := by
  unfold foundedEntry
  rw [if_pos (by simp [EpochRecord.presence, seen, configured])]

theorem EpochRecord.condition_eq (r : EpochRecord) (n : Pos) : r.condition n =
    if cellAt r.cells (16 + n.val) = true then .failed else if cellAt r.cells (32 + n.val) = true then .degraded else .clear := rfl

/-- Who claims at a founding, and what. -/
theorem foundingClaim_foundedEntry {n : Pos} : (foundedEntry r n (blockRole blk n)).foundingClaim =
    if blockRole blk n = .primary ∧ cellAt r.cells n.val = true then (r.condition n).claim else none := by
  by_cases seen : blockRole blk n ≠ .empty ∧ cellAt r.cells n.val = true
  · rw [foundedEntry_present seen.1 seen.2, Entry.foundingClaim]
    simp [Entry.cleared, seen.2]
  · have absent : blockRole blk n = .empty ∨ cellAt r.cells n.val = false := by
      by_cases empty : blockRole blk n = .empty
      · exact .inl empty
      · exact .inr (by simpa using fun on => seen ⟨empty, on⟩)
    have unseen : ¬(blockRole blk n = .primary ∧ cellAt r.cells n.val = true) := fun both => seen ⟨by rw [both.1]; decide, both.2⟩
    rw [foundedEntry_absent absent, if_neg unseen, Entry.foundingClaim, if_neg]
    rintro ⟨role, present⟩
    have primary : blockRole blk n = .primary := role
    rw [primary] at present
    cases present

end

end Sys2Proof.Machine
end

section
/-! SUPPORT. A delivered record's work on the station (R45 to R54, R78, R81, R103, R105, R125): the table and the engine after it, its notifications, and what
it leaves unchanged. -/

namespace Sys2Proof.Machine

open Sys2Proof.Safety

/-! ## The founded claims, entry by entry -/

section
variable {blk : List Byte} {r : EpochRecord} {g : Gtu} {n : Pos}

theorem Gtu.sameRest_foundingClaims : (g.foundingClaims blk r).sliceIndex = 0 ∧ (g.foundingClaims blk r).requested = g.requested :=
  (g.claimed_all blk r).rest.trans Gtu.sameRest_settle

theorem Gtu.waitList_foundingClaims : (g.foundingClaims blk r).waitList = (allPos.foldl Gtu.foundClaim (g.freshTable blk r)).waitList := by
  rw [Gtu.foundingClaims, Gtu.waitList_settle]

theorem EpochRecord.claim_isSome : (r.condition n).claim.isSome = true ↔
    cellAt r.cells (16 + n.val) = true ∨ cellAt r.cells (32 + n.val) = true := by
  rw [EpochRecord.condition_eq]
  cases cellAt r.cells (16 + n.val) <;> cases cellAt r.cells (32 + n.val) <;> simp [Condition.claim]

theorem Gtu.mem_foundingClaims : n ∈ (g.foundingClaims blk r).waitList ↔
    blockRole blk n = .primary ∧ cellAt r.cells n.val = true ∧ (cellAt r.cells (16 + n.val) = true ∨ cellAt r.cells (32 + n.val) = true) := by
  rw [Gtu.waitList_foundingClaims, (g.claimed_all blk r).list, g.entry_freshTable, foundingClaim_foundedEntry, true_and, ← EpochRecord.claim_isSome,
    ← and_assoc]
  split
  · next claims => exact (and_iff_right claims).symm
  · next claims => simp [claims]

/-- What a founding makes of each position's class. -/
theorem Gtu.cls_foundingClaims : ((allPos.foldl Gtu.foundClaim (g.freshTable blk r)).entry n).cls =
    if blockRole blk n = .primary ∧ cellAt r.cells n.val = true then ((r.condition n).claim).getD .none else .none := by
  have claimed := g.claimed_all blk r
  have claim := foundingClaim_foundedEntry (blk := blk) (r := r) (n := n)
  rw [← g.entry_freshTable] at claim
  by_cases seen : blockRole blk n = .primary ∧ cellAt r.cells n.val = true
  · rw [if_pos seen] at claim ⊢
    cases condition : (r.condition n).claim with
    | some c => rw [claimed.claims n c trivial (claim.trans condition), Option.getD_some]
    | none =>
      have unclaimed : ¬(True ∧ ((g.freshTable blk r).entry n).foundingClaim.isSome = true) := by simp [claim, condition]
      rw [claimed.others n unclaimed, g.entry_freshTable, Option.getD_none]
      exact (foundedEntry_free r n _).2.2.2.2
  · rw [if_neg seen] at claim ⊢
    have unclaimed : ¬(True ∧ ((g.freshTable blk r).entry n).foundingClaim.isSome = true) := by simp [claim]
    rw [claimed.others n unclaimed, g.entry_freshTable]
    exact (foundedEntry_free r n _).2.2.2.2

/-- The claims' entries whole. -/
theorem Gtu.foundingClaims_entry : (g.foundingClaims blk r).entry n =
    { foundedEntry r n (blockRole blk n) with
      cls := if blockRole blk n = .primary ∧ cellAt r.cells n.val = true then ((r.condition n).claim).getD .none else .none
      waitRank := rankOf (g.foundingClaims blk r).waitList n } := by
  rw [g.entry_foundingClaims blk r n, (g.claimed_all blk r).cover n, Gtu.cls_foundingClaims, g.entry_freshTable]

end

/-! ## The stages of an applied record -/

section
variable {s t u : State} {r : EpochRecord}

theorem State.desired_congr (gtu : t.gtu = s.gtu) (sl : t.sl = s.sl) : t.desired = s.desired := by
  have own : t.ownEntry = s.ownEntry := ownEntry_congr gtu (by rw [sl])
  rw [State.desired, State.desired, own]

theorem alike_offerAll (l : List Directive) (alike : t.Alike s) : (t.offerAll l).Alike (s.offerAll l) := by
  induction l generalizing s t with
  | nil => exact alike
  | cons d l ih => exact ih (alike_offer d alike)

theorem alike_directiveStage (gtu : t.gtu = s.gtu) (alike : t.Alike s) : t.directiveStage.Alike s.directiveStage := by
  have waits : t.waitsForStart = s.waitsForStart := by rw [State.waitsForStart, State.waitsForStart, alike.ae]
  cases hindered : s.waitsForStart with
  | true => rwa [s.directiveStage_of_waits hindered, t.directiveStage_of_waits (waits.trans hindered)]
  | false =>
    rw [s.directiveStage_of_not_waits hindered, t.directiveStage_of_not_waits (waits.trans hindered), State.desired_congr gtu alike.sl, gtu]
    exact alike_offerAll _ ⟨alike.ae, alike.cm, alike.sl, alike.pins, alike.now⟩

theorem State.directiveStage_gtu : s.directiveStage.gtu =
    { s.gtu with requested := if s.waitsForStart = true then s.gtu.requested else requestedAfter s.gtu.requested s.desired } := by
  cases hindered : s.waitsForStart with
  | true => rw [s.directiveStage_of_waits hindered, if_pos rfl]
  | false =>
    rw [s.directiveStage_of_not_waits hindered, State.offerAll_gtu, if_neg Bool.false_ne_true]
    rfl

theorem State.applyTable_full : s.applyTable true r = s.gtu.tableStages s.area r := rfl

theorem State.area_of_config {f : Frozen} (config : s.sl.config = some f) : s.area = f.area := by simp [State.area, config]

theorem State.applyTable_learner {f : Frozen} (config : s.sl.config = some f) :
    s.applyTable false r = (s.gtu.compareStage f.area f.primaries r.mirrorValue).tableStages f.area r := by
  simp [State.applyTable, config, State.area_of_config config]

theorem State.applyRecord_full : s.applyRecord true r =
    (((({ s with gtu := (s.gtu.tableStages s.area r).1 } : State).directiveStage).notificationStage r (s.gtu.tableStages s.area r).2
      s.ownEntry).captureIfArmed .record .inStep false) := rfl

theorem State.applyRecord_learner : s.applyRecord false r =
    ((({ s with gtu := (s.applyTable false r).1 } : State).notificationStage r (s.applyTable false r).2 s.ownEntry).captureIfArmed .record .learning
      false) := rfl

theorem State.applyRecord_full_gtu : (s.applyRecord true r).gtu = ({ s with gtu := (s.gtu.tableStages s.area r).1 } : State).directiveStage.gtu := by
  rw [State.applyRecord_full, State.captureIfArmed_gtu, State.notificationStage_gtu]

theorem State.applyRecord_full_ae : (s.applyRecord true r).ae = ({ s with gtu := (s.gtu.tableStages s.area r).1 } : State).directiveStage.ae := by
  rw [State.applyRecord_full, State.captureIfArmed_ae, State.notificationStage_ae]

theorem State.applyRecord_learner_gtu : (s.applyRecord false r).gtu = (s.applyTable false r).1 := by
  rw [State.applyRecord_learner, State.captureIfArmed_gtu, State.notificationStage_gtu]

theorem State.applyRecord_learner_ae : (s.applyRecord false r).ae = s.ae := by
  rw [State.applyRecord_learner, State.captureIfArmed_ae, State.notificationStage_ae]

theorem State.found_gtu : (s.found r).gtu = { s.gtu.found s.area r with requested := (s.found r).gtu.requested } := by
  have requests := State.reconcile_requestsOf (s := (({ s with gtu := s.gtu.found s.area r } : State).notifyOwn s.ownEntry).joinStep.captureIfArmed
    .founding .inStep false)
  have gtu := requests.1
  rw [State.captureIfArmed_gtu, State.joinStep_gtu, State.notifyOwn_gtu] at gtu
  exact gtu

theorem coverDiffers_iff (a b : Entry) : coverDiffers a b = true ↔ b.assignment ≠ a.assignment ∨ b.partner ≠ a.partner ∨ b.cls ≠ a.cls := by
  simp [coverDiffers, or_assoc, ne_comm]

/-- The notifications written out (R103). -/
theorem State.notifyOwn_eq (e : Entry) : s.notifyOwn e =
    if s.ownEntry.assignment ≠ e.assignment ∨ s.ownEntry.partner ≠ e.partner ∨ s.ownEntry.cls ≠ e.cls then
      { s.notifyWaitRestore e.cls with mp := { (s.notifyWaitRestore e.cls).mp with istat := (s.notifyWaitRestore e.cls).mp.istat ||| 0b000010#6 } }
    else s.notifyWaitRestore e.cls := by
  rw [State.notifyOwn]
  by_cases differs : s.ownEntry.assignment ≠ e.assignment ∨ s.ownEntry.partner ≠ e.partner ∨ s.ownEntry.cls ≠ e.cls
  · rw [if_pos differs, (coverDiffers_iff _ _).mpr differs]
    rfl
  · rw [if_neg differs, Bool.eq_false_iff.mpr fun same => differs ((coverDiffers_iff _ _).mp same)]
    rfl

/-! ## What no delivery touches -/

/-- The port but for the status and the snapshot unit. -/
def Mp.SameButSnapshot (m m' : Mp) : Prop :=
  m = { m' with istat := m.istat, snapState := m.snapState, snapshot := m.snapshot, snapPtr := m.snapPtr, snapTaken := m.snapTaken,
                discardTimer := m.discardTimer }

theorem Mp.SameButStatus.snapshot {m m' : Mp} (same : m.SameButStatus m') : m.SameButSnapshot m' := by
  unfold Mp.SameButStatus at same
  unfold Mp.SameButSnapshot
  rw [same]

theorem Mp.SameButSnapshot.trans {a b c : Mp} (ab : a.SameButSnapshot b) (bc : b.SameButSnapshot c) : a.SameButSnapshot c := by
  unfold Mp.SameButSnapshot at *
  rw [ab, bc]

theorem State.captureIfArmed_port (k : CaptureKind) (p : Participation) (m : Bool) : (s.captureIfArmed k p m).mp.SameButSnapshot s.mp := by
  unfold State.captureIfArmed
  split
  · rfl
  · rfl

theorem State.leaveGroup_port (dest : Participation) : (s.leaveGroup dest).mp.SameButSnapshot s.mp := by
  unfold State.leaveGroup
  split
  · rw [State.leave, State.clearTable, State.notifyWaitRestore_mp]
    exact (State.captureIfArmed_port _ _ _).trans State.sameBut_abandonCommands.snapshot
  · rfl

theorem State.applyRecord_port (full : Bool) : (s.applyRecord full r).mp.SameButSnapshot s.mp := by
  have stage : ({ s with gtu := (s.applyTable full r).1 } : State).directiveStage.mp.SameButStatus s.mp := State.sameBut_directiveStage
  cases full with
  | true =>
    rw [State.applyRecord_full]
    exact (State.captureIfArmed_port _ _ _).trans ((State.sameBut_notificationStage _ _ _).trans stage).snapshot
  | false =>
    rw [State.applyRecord_learner]
    exact (State.captureIfArmed_port _ _ _).trans (State.sameBut_notificationStage (s := { s with gtu := (s.applyTable false r).1 }) _ _ _).snapshot

/-- The tag a submission will try first and the record last offered. -/
def Cu.tags (c : Cu) : Fin 16 × Offered := (c.nextTag, c.offered)

theorem State.reportWin_tags (o : CmdOutcome) : (s.reportWin o).cu.tags = s.cu.tags := by
  unfold State.reportWin
  split
  · rfl
  · rfl
  · split <;> rfl

theorem State.notifyWaitRestore_tags (before : Cls) : (s.notifyWaitRestore before).cu.tags = s.cu.tags := by
  unfold State.notifyWaitRestore State.enterWaitRestore
  split
  · split <;> rfl
  · split
    · split <;> rfl
    · rfl

theorem State.notifyOwn_tags (e : Entry) : (s.notifyOwn e).cu.tags = s.cu.tags := by
  rw [State.notifyOwn, State.raiseIf_cu, State.notifyWaitRestore_tags]

theorem State.notificationStage_tags (o : CmdOutcome) (e : Entry) : (s.notificationStage r o e).cu.tags = s.cu.tags := by
  unfold State.notificationStage
  rw [State.notifyOwn_tags]
  split
  · exact State.reportWin_tags o
  · rfl

theorem State.leaveGroup_tags (dest : Participation) : (s.leaveGroup dest).cu.tags = s.cu.tags := by
  unfold State.leaveGroup
  split
  · rw [State.leave, State.clearTable, State.notifyWaitRestore_tags]
    show ((s.abandonCommands).captureIfArmed .leave dest true).cu.tags = s.cu.tags
    rw [State.captureIfArmed_cu, State.abandonCommands_cu]
    rfl
  · rfl

theorem State.applyRecord_tags (full : Bool) : (s.applyRecord full r).cu.tags = s.cu.tags := by
  cases full with
  | true => rw [State.applyRecord_full, State.captureIfArmed_cu, State.notificationStage_tags, State.directiveStage_cu]
  | false => rw [State.applyRecord_learner, State.captureIfArmed_cu, State.notificationStage_tags]

theorem State.expireHead_tags : s.expireHead.cu.tags = s.cu.tags := by
  unfold State.expireHead
  split
  · rfl
  · split <;> rfl

theorem State.countHead_tags (b : Option (Fin 16)) : (s.countHead b).cu.tags = s.cu.tags := by
  unfold State.countHead
  split
  · rfl
  · split
    · rw [State.expireHead_tags]
      rfl
    · rfl

/-- What a delivery leaves of the receiver, the command unit's tags and the port. -/
structure State.Untouched (s t : State) : Prop where
  vbi : t.vbi = { s.vbi with epochTimer := t.vbi.epochTimer }
  tags : t.cu.tags = s.cu.tags
  mp : t.mp.SameButSnapshot s.mp

theorem State.Untouched.refl (s : State) : s.Untouched s := ⟨rfl, rfl, rfl⟩

theorem State.Untouched.trans (first : s.Untouched t) (second : t.Untouched u) : s.Untouched u :=
  ⟨by rw [second.vbi, first.vbi], second.tags.trans first.tags, second.mp.trans first.mp⟩

theorem State.untouched_same (vbi : t.vbi = s.vbi) (tags : t.cu.tags = s.cu.tags) (mp : t.mp.SameButSnapshot s.mp) : s.Untouched t :=
  ⟨by rw [vbi], tags, mp⟩

theorem State.Counts.untouched (counts : u.Counts s) : s.Untouched u := by
  rw [counts.rest]
  exact ⟨rfl, rfl, rfl⟩

theorem State.untouched_setApart (dest : Participation) (c : Cause) : s.Untouched (s.setApart dest c) := by
  refine ⟨by rw [State.setApart_vbi], ?_, ?_⟩
  · rw [State.setApart, State.offerWithdraw_cu]
    exact State.leaveGroup_tags dest
  · exact (State.offer_mp (s := { ((s.leaveGroup dest).moveTo dest).setCause c with
      vbi := { (((s.leaveGroup dest).moveTo dest).setCause c).vbi with epochTimer := none } }) _).snapshot.trans
      ((State.sameBut_moveTo dest).snapshot.trans (State.leaveGroup_port dest))

theorem State.untouched_syncLoss (inside : s.participation.inGroup = true) (on : s.vbi.receiver ≠ .off) : s.Untouched s.syncLoss := by
  refine State.untouched_same (State.syncLoss_vbi inside on) ?_ ?_
  · rw [State.syncLoss, State.offerWithdraw_cu]
    exact State.leaveGroup_tags .listening
  · have raised : (((s.leaveGroup .listening).enterListening.raise .part).setCause .sync).mp.SameButStatus (s.leaveGroup .listening).mp := by
      rw [State.setCause_mp]
      exact State.sameBut_raise (s := (s.leaveGroup .listening).enterListening) .part
    exact (State.offer_mp (s := ((s.leaveGroup .listening).enterListening.raise .part).setCause .sync) _).snapshot.trans (raised.snapshot.trans (State.leaveGroup_port .listening))

theorem State.untouched_applyRecord (full : Bool) : s.Untouched (s.applyRecord full r) :=
  State.untouched_same (State.applyRecord_vbi s full r) (State.applyRecord_tags full) (State.applyRecord_port full)

theorem State.untouched_joinStep : s.Untouched s.joinStep := State.untouched_same (by simp) rfl State.sameBut_joinStep.snapshot

theorem State.untouched_fall (c : Cause) : s.Untouched (s.fall c) := State.untouched_same (by simp) rfl (State.sameBut_fall c).snapshot

theorem State.untouched_reconcile : s.Untouched s.reconcile :=
  State.untouched_same (by simp) (by rw [State.reconcile_cu]) State.sameBut_reconcile.snapshot

theorem State.untouched_found (r : EpochRecord) : s.Untouched (s.found r) := by
  have noted : s.Untouched (({ s with gtu := s.gtu.found s.area r } : State).notifyOwn s.ownEntry) :=
    State.untouched_same (by simp) (State.notifyOwn_tags _) (State.sameBut_notifyOwn (s := { s with gtu := s.gtu.found s.area r }) _).snapshot
  have captured : s.Untouched ((({ s with gtu := s.gtu.found s.area r } : State).notifyOwn s.ownEntry).joinStep.captureIfArmed .founding .inStep
      false) :=
    (noted.trans State.untouched_joinStep).trans
      (State.untouched_same (by simp) (by rw [State.captureIfArmed_cu]) (State.captureIfArmed_port _ _ _))
  exact captured.trans State.untouched_reconcile

theorem Outcome.untouched (outcome : Outcome r s u) (on : s.vbi.receiver ≠ .off) : s.Untouched u := by
  cases outcome with
  | counts _ counts _ => exact counts.untouched
  | apart v counts dest c _ => exact counts.untouched.trans (State.untouched_setApart dest c)
  | sync v counts inGroup =>
    exact counts.untouched.trans (State.untouched_syncLoss (by rw [counts.participation, inGroup]) (by rw [counts.rest]; exact on))
  | learns v counts _ => exact counts.untouched.trans (State.untouched_same rfl rfl (State.sameBut_moveTo .learning).snapshot)
  | founds v counts _ => exact counts.untouched.trans (State.untouched_found r)
  | applies v counts _ => exact counts.untouched.trans (State.untouched_applyRecord false)
  | joins v counts _ =>
    exact counts.untouched.trans (((State.untouched_applyRecord false).trans State.untouched_joinStep).trans State.untouched_reconcile)
  | falls v counts c _ => exact counts.untouched.trans (State.untouched_fall c)
  | splits v counts c _ => exact counts.untouched.trans ((State.untouched_fall c).trans (State.untouched_applyRecord false))
  | inStep v counts _ => exact counts.untouched.trans (State.untouched_applyRecord true)

theorem State.untouched_deliver (r : EpochRecord) (on : s.vbi.receiver ≠ .off) : s.Untouched (s.deliver r) := by
  refine deliver_keeps (P := fun u => s.Untouched u) r (fun law => law.trans (State.untouched_same rfl rfl rfl)) (fun _ u outcome law => ?_)
    (fun u b law => law.trans (State.untouched_same (by simp) (State.countHead_tags b) (State.sameBut_countHead b).snapshot)) (State.Untouched.refl s)
  exact law.trans (outcome.untouched on)

theorem State.deliver_filters (r : EpochRecord) : (s.deliver r).cm.filters = s.cm.filters :=
  (asks_deliver r).keep (P := fun u => u.cm.filters = s.cm.filters) (fun _ cm _ law => by rw [cm, law])
    (fun d law => by rw [State.filters_offer, law]) rfl

end

end Sys2Proof.Machine
end

section
/-! SUPPORT. A delivered record whole (R45 to R54, R81): what the judgement makes of the station in each participation state. -/

namespace Sys2Proof.Machine

open Sys2Proof.Safety

section
variable {s : State} {r : EpochRecord}

theorem State.deliver_gives (timed : s.participation.timed = true) {t : State} (judged : (s.seen r).judge r = t) :
    s.deliver r = if s.participation = .listening then t else t.countHead s.cu.headTag := by
  rcases timed_iff.mp timed with p | g
  · rw [State.deliver_listening p, judged, if_pos p]
  · have other : s.participation ≠ .listening := fun p => by
      rw [p] at g
      cases g
    rw [State.deliver_inGroup g, judged, if_neg other]

theorem State.deliver_gtu (g : s.participation.inGroup = true) : (s.deliver r).gtu = ((s.seen r).judge r).gtu := by
  rw [State.deliver_inGroup g, State.countHead_gtu]

theorem State.deliver_ae (g : s.participation.inGroup = true) : (s.deliver r).ae = ((s.seen r).judge r).ae := by
  rw [State.deliver_inGroup g, State.countHead_ae]

/-- The state whose last view and history the record has entered. -/
def State.heard (r : EpochRecord) (s : State) : State := (s.seen r).enterHistory r

theorem State.heard_ownDigest : (s.heard r).ownDigest = match s.sl.config with | some f => f.digest | none => 0#8 := by
  rw [← State.ownDigest_eq]
  rfl

/-- The table and the engine after a record applied in full: the stages, and the directive stage. -/
theorem State.applied_full (g : s.participation.inGroup = true) (judged : (s.seen r).judge r = (s.heard r).applyRecord true r) :
    (s.deliver r).gtu =
      (let g := (s.gtu.tableStages s.area r).1
       let waits := Config.comparisonWaitsForStart = true ∧ (s.ae.running = some .start ∨ .start ∈ s.ae.queue)
       { g with requested := if waits then g.requested else requestedAfter g.requested ({ s with gtu := g }).desired }) ∧
    (s.deliver r).ae = (({ s with gtu := (s.gtu.tableStages s.area r).1 }).directiveStage).ae := by
  have desired : ({ s.heard r with gtu := (s.gtu.tableStages s.area r).1 } : State).desired =
      ({ s with gtu := (s.gtu.tableStages s.area r).1 } : State).desired := State.desired_congr rfl rfl
  have gtu : ((s.heard r).applyRecord true r).gtu =
      ({ s.heard r with gtu := (s.gtu.tableStages s.area r).1 } : State).directiveStage.gtu := State.applyRecord_full_gtu
  have waits : ({ s.heard r with gtu := (s.gtu.tableStages s.area r).1 } : State).waitsForStart = true ↔
      Config.comparisonWaitsForStart = true ∧ (s.ae.running = some .start ∨ .start ∈ s.ae.queue) := State.waitsForStart_iff
  refine ⟨?_, ?_⟩
  · rw [State.deliver_gtu g, judged, gtu, State.directiveStage_gtu, desired]
    simp only [waits]
  · have ae : ((s.heard r).applyRecord true r).ae =
        ({ s.heard r with gtu := (s.gtu.tableStages s.area r).1 } : State).directiveStage.ae := State.applyRecord_full_ae
    rw [State.deliver_ae g, judged, ae]
    exact (alike_directiveStage (t := { s.heard r with gtu := (s.gtu.tableStages s.area r).1 }) (s := { s with gtu := (s.gtu.tableStages s.area r).1 })
      rfl ⟨rfl, rfl, rfl, rfl, rfl⟩).ae

/-- The table and the engine after a learner's record: the comparison and the stages, and no directive. -/
theorem State.applied_learner {f : Frozen} (config : s.sl.config = some f) {u : State} (gtu : u.gtu = s.gtu) (sl : u.sl = s.sl) :
    (u.applyRecord false r).gtu = ((s.gtu.compareStage f.area f.primaries r.mirrorValue).tableStages f.area r).1 := by
  rw [State.applyRecord_learner_gtu, State.applyTable_learner (by rw [sl, config]), gtu]

section
variable {f : Frozen} (drive : r.driveFault = false) (own : r.foreign s.sl.ownPos = false) (few : (s.heard r).faultedVerdicts < 3)
  (learning : s.participation = .learning) (framed : r.faults.any = false) (config : s.sl.config = some f)
  (agrees : r.digestVerdict = .consistent → r.digestTrue = f.digest)
include drive own few learning framed config agrees

/-- What a learner's framed record makes of the station, by the counters. -/
theorem State.judge_learner : (s.seen r).judge r =
    if 16 ≤ ((s.heard r).learned r).2 then ((s.heard r).countLearning ((s.heard r).learned r)).found r
    else if 16 ≤ ((s.heard r).learned r).1 then (((s.heard r).countLearning ((s.heard r).learned r)).applyRecord false r).joinStep.reconcile
    else ((s.heard r).countLearning ((s.heard r).learned r)).applyRecord false r := by
  have digest : (s.heard r).ownDigest = f.digest := by rw [State.heard_ownDigest, config]
  rw [State.judge_learning (s := s.seen r) drive own few learning]
  exact State.judgeLearning_applies (s := s.heard r) framed (by rw [digest]; exact agrees)

theorem State.deliver_learner_stays (verify : s.pc.verifyCount + 1 < 16) (silent : r.mirrorVerdict ≠ .noNarrator ∨ s.pc.noNarratorCount + 1 < 16) :
    (s.deliver r).gtu = ((s.gtu.compareStage f.area f.primaries r.mirrorValue).tableStages f.area r).1 ∧ (s.deliver r).ae = s.ae := by
  obtain ⟨first, second⟩ := State.learned_le (s := s.heard r) (r := r)
  have heard : ((s.heard r).learned r).2 < 16 := by
    rcases silent with narrated | few
    · have none_silent : ((s.heard r).learned r).2 = 0 := by
        cases verdict : r.mirrorVerdict with
        | noNarrator => exact absurd verdict narrated
        | consistent =>
          by_cases matched : (s.heard r).Matched r
          · rw [State.learned_matched verdict matched]
          · rw [State.learned_unmatched verdict matched]
        | disagreement => rw [State.learned_disagreement verdict]
        | mixed => simp [State.learned, verdict, learnCounters]
      omega
    · exact Nat.lt_of_le_of_lt second few
  have stays := State.judge_learner drive own few learning framed config agrees
  rw [if_neg (Nat.not_le.mpr heard), if_neg (Nat.not_le.mpr (Nat.lt_of_le_of_lt first verify))] at stays
  have g : s.participation.inGroup = true := by rw [learning]; rfl
  rw [State.deliver_gtu g, State.deliver_ae g, stays]
  exact ⟨State.applied_learner config rfl rfl, State.applyRecord_learner_ae⟩

theorem State.deliver_learner_requests (consistent : r.mirrorVerdict = .consistent) : (s.deliver r).gtu =
    { ((s.gtu.compareStage f.area f.primaries r.mirrorValue).tableStages f.area r).1 with requested := (s.deliver r).gtu.requested } := by
  have heard : ((s.heard r).learned r).2 = 0 := by
    by_cases matched : (s.heard r).Matched r
    · rw [State.learned_matched consistent matched]
    · rw [State.learned_unmatched consistent matched]
  have judged := State.judge_learner drive own few learning framed config agrees
  rw [if_neg (by omega)] at judged
  have applied : (((s.heard r).countLearning ((s.heard r).learned r)).applyRecord false r).gtu =
      ((s.gtu.compareStage f.area f.primaries r.mirrorValue).tableStages f.area r).1 := State.applied_learner config rfl rfl
  rw [State.deliver_gtu (by rw [learning]; rfl), judged]
  split
  · have requests := State.reconcile_requestsOf (s := (((s.heard r).countLearning ((s.heard r).learned r)).applyRecord false r).joinStep)
    have gtu := requests.1
    rw [State.joinStep_gtu, applied] at gtu
    exact gtu
  · rw [applied]

theorem State.deliver_learner_founds (silent : r.mirrorVerdict = .noNarrator) (last : s.pc.noNarratorCount = 15) :
    (s.deliver r).gtu.entries = (s.gtu.found f.area r).entries ∧ (s.deliver r).gtu.waitList = (s.gtu.found f.area r).waitList ∧
    (s.deliver r).gtu.sliceIndex = (s.gtu.found f.area r).sliceIndex := by
  have sixteen : ((s.heard r).learned r).2 = 16 := by
    rw [State.learned_silent silent]
    exact congrArg (· + 1) last
  have judged := State.judge_learner drive own few learning framed config agrees
  rw [if_pos (Nat.le_of_eq sixteen.symm)] at judged
  have area : ((s.heard r).countLearning ((s.heard r).learned r)).area = f.area := State.area_of_config config
  have founded := State.found_gtu (s := (s.heard r).countLearning ((s.heard r).learned r)) (r := r)
  rw [area] at founded
  rw [State.deliver_gtu (by rw [learning]; rfl), judged, founded]
  dsimp only
  exact ⟨.refl _, .refl _, .refl _⟩

end

/-- Service leaves the index and the requested state. -/
theorem Gtu.sameRest_revoke (g : Gtu) (p : Pos) : g.SameRest (g.revoke p) := (g.ends_revoke p).rest

theorem Gtu.sameRest_select (g : Gtu) (p b : Pos) (c : Cls) : g.SameRest (g.select p b c) := by
  unfold Gtu.select
  split
  · exact ⟨rfl, rfl⟩
  · next q _ => exact (g.sameRest_revoke q).trans ⟨rfl, rfl⟩

theorem Gtu.sameRest_serveUpTo (blk : List Byte) (start : Gtu) : ∀ (n : Nat) (g : Gtu), g.SameRest (Gtu.serveUpTo blk start n g)
  | 0, _ => .rfl
  | n + 1, g => by
    cases served : g.firstServed blk g.waitList with
    | none =>
      rw [g.serveUpTo_none blk start (n + 1) served]
      exact .rfl
    | some pb =>
      rw [g.serveUpTo_some blk start n pb.1 pb.2 served]
      exact ((g.sameRest_select pb.1 pb.2 _).trans (Gtu.orderRequeues_keeps _ start)).trans (Gtu.sameRest_serveUpTo blk start n _)

theorem Gtu.sameRest_serviceStage (blk : List Byte) (g : Gtu) : g.SameRest (g.serviceStage blk) :=
  (Gtu.sameRest_serveUpTo blk g 112 g).trans Gtu.sameRest_settle

theorem Gtu.sliceIndex_found (blk : List Byte) (r : EpochRecord) (g : Gtu) : (g.found blk r).sliceIndex = 0 := by
  rw [Gtu.found_eq]
  exact (Gtu.sameRest_serviceStage blk _).1.trans Gtu.sameRest_foundingClaims.1

end

theorem Gtu.cls_entry_foundingClaims {blk : List Byte} {r : EpochRecord} {g : Gtu} {n : Pos} :
    ((g.foundingClaims blk r).entry n).cls = ((allPos.foldl Gtu.foundClaim (g.freshTable blk r)).entry n).cls := by
  rw [g.entry_foundingClaims blk r n]

/-- The claims of a founding, position by position. -/
theorem founding_claims (blk : List Byte) (r : EpochRecord) (g : Gtu) (n : Pos) :
    let claims := g.foundingClaims blk r
    let failed := cellAt r.cells (16 + n.val) = true
    let degraded := cellAt r.cells (32 + n.val) = true
    let seen := cellAt r.cells n.val = true
    let claim := blockRole blk n = .primary ∧ seen ∧ (failed ∨ degraded)
    (n ∈ claims.waitList ↔ claim) ∧
    (blockRole blk n = .empty → claims.entry n = Entry.cleared .empty) ∧
    (blockRole blk n ≠ .empty → ¬seen → claims.entry n = Entry.cleared (blockRole blk n)) ∧
    (blockRole blk n ≠ .empty → seen → claims.entry n =
      { role := blockRole blk n, presence := .present, runCount := 0,
        condition := if failed then .failed else if degraded then .degraded else .clear, locked := false,
        faulted := cellAt r.cells (64 + n.val), assignment := .none, partner := none,
        cls := if claim then (if failed then .fail else .degrade) else .none, waitRank := rankOf claims.waitList n }) := by
  intro claims failed degraded seen claim
  have list : n ∈ claims.waitList ↔ claim := Gtu.mem_foundingClaims
  have unlisted (other : ¬claim) : rankOf claims.waitList n = 0 := rankOf_eq_zero fun mem => other (list.mp mem)
  have entry : claims.entry n = _ := Gtu.foundingClaims_entry (blk := blk) (r := r) (g := g) (n := n)
  refine ⟨list, fun empty => ?_, fun _ silent => ?_, fun configured on => ?_⟩
  · have notPrimary : ¬blockRole blk n = .primary := by rw [empty]; decide
    rw [entry, foundedEntry_absent (.inl empty), unlisted fun c => notPrimary c.1, if_neg fun c => notPrimary c.1, empty]
    rfl
  · rw [entry, foundedEntry_absent (.inr (Bool.eq_false_iff.mpr silent)), unlisted fun c => silent c.2.1, if_neg fun c => silent c.2]
    rfl
  · have cls : (if blockRole blk n = .primary ∧ cellAt r.cells n.val = true then ((r.condition n).claim).getD .none else .none) =
        if claim then (if failed then Cls.fail else .degrade) else .none := by
      rw [EpochRecord.condition_eq]
      by_cases primary : blockRole blk n = .primary
      · by_cases f : failed <;> by_cases d : degraded <;> simp_all [claim, failed, degraded, seen, Condition.claim]
      · simp [claim, primary]
    rw [entry, foundedEntry_present configured on, cls]
    rfl

section
variable {s : State} {r : EpochRecord}

theorem State.enterHistory_faulted : (s.heard r).faultedVerdicts = ((r.faults.any :: s.pc.syncHistory).take 8 |>.filter id).length := rfl

end

/-- Settles O29: the parts of the application one after another, the judgement by its equations, and the founding by its claims. -/
theorem appliedRecordRunsTheStagesInOrder : Obligations.AppliedRecordRunsTheStagesInOrder := by
  refine ⟨fun blk r g => rfl, fun blk r g => ⟨fun none => ?_, fun v p granted => ?_⟩, ?_, ?_, ?_, ?_, ?_, ?_⟩
  · rw [Gtu.grantStage, none]
  · rw [Gtu.grantStage, granted]
  · intro r s drive own few
    have grouped {p : Participation} (is : s.participation = p) (inside : p.inGroup = true) : s.participation.inGroup = true := by rw [is, inside]
    refine ⟨fun inStep framed same => ?_, fun inStep faulted => ?_, fun f config learning framed agrees verify silent => ?_,
      fun f config inStep framed wrote digest mirror => ?_, fun f config learning framed agrees consistent => ?_,
      fun f config learning framed agrees silent last => ?_, fun learning faulted => ?_⟩
    · have readBack : r.own.participation = .inStep → r.digestTrue = r.own.digest ∧ r.mirrorTrue = r.own.mirror := fun wrote =>
        same.resolve_left (not_not.mpr wrote)
      refine State.applied_full (grouped inStep rfl) ?_
      rw [State.judge_inStep (s := s.seen r) drive own few inStep, State.judgeInStep_applies framed readBack]
      rfl
    · have g := grouped inStep rfl
      rw [State.deliver_gtu g, State.deliver_ae g, State.judge_inStep (s := s.seen r) drive own few inStep, State.judgeInStep_faulted faulted,
        State.fall_gtu, State.fall_ae]
      exact ⟨rfl, rfl⟩
    · exact State.deliver_learner_stays drive own few learning framed config agrees verify silent
    · have g := grouped inStep rfl
      rw [State.deliver_gtu g, State.deliver_ae g, State.judge_inStep (s := s.seen r) drive own few inStep,
        State.judgeInStep_splits framed wrote digest mirror, State.applyRecord_learner_ae, State.fall_ae]
      exact ⟨State.applied_learner config (State.fall_gtu ..) (State.fall_sl ..), rfl⟩
    · exact State.deliver_learner_requests drive own few learning framed config agrees consistent
    · obtain ⟨entries, list, index⟩ := State.deliver_learner_founds drive own few learning framed config agrees silent last
      exact ⟨entries, list, index.trans (Gtu.sliceIndex_found _ _ _)⟩
    · rw [State.deliver_gtu (grouped learning rfl), State.judge_learning (s := s.seen r) drive own few learning, State.judgeLearning_faulted faulted]
      rfl
  · intro r s begun seen history held counting digest gives
    have timed : s.participation.timed = true := by rcases begun with p | p | p <;> rw [p] <;> rfl
    have makes {t : State} (judged : (s.seen r).judge r = t) : gives t := State.deliver_gives timed judged
    have digestIs : digest = (s.heard r).ownDigest := State.heard_ownDigest.symm
    refine ⟨fun drive => makes (State.judge_drive drive), fun drive other => makes (State.judge_foreign drive other), fun drive own => ?_⟩
    refine ⟨fun notListening many => ?_, fun listening => ?_, fun few learning => ?_, fun few inStep => ?_⟩
    · have group : (s.seen r).participation.inGroup = true := (timed_iff.mp timed).resolve_left notListening
      exact makes (State.judge_sync (s := s.seen r) drive own group many)
    · have judged := State.judge_listening (s := s.seen r) drive own listening
      refine ⟨fun dirty => ?_, fun framed clean => ⟨fun few => ?_, fun many agrees => ?_, fun many narrated differs => ?_⟩⟩
      · exact makes (judged.trans (State.judgeListening_dirty dirty))
      · exact makes (judged.trans (State.judgeListening_counts framed clean few))
      · rw [digestIs] at agrees
        exact makes (judged.trans (State.judgeListening_learns framed clean many agrees))
      · rw [digestIs] at differs
        exact makes (judged.trans (State.judgeListening_isolates framed clean many narrated differs))
    · have judged := State.judge_learning (s := s.seen r) drive own few learning
      refine ⟨fun faulted => ?_, fun framed consistent differs => ?_, fun framed agrees => ?_⟩
      · exact makes (judged.trans (State.judgeLearning_faulted faulted))
      · rw [digestIs] at differs
        exact makes (judged.trans (State.judgeLearning_isolates framed consistent differs))
      · rw [digestIs] at agrees
        refine ⟨fun consistent same fewer => ?_, fun consistent same enough => ?_, fun silent fewer => ?_, fun silent enough => ?_, fun other => ?_⟩
        · have counts := State.learned_matched (s := s.heard r) consistent same
          have stays := State.judgeLearning_stays (s := s.heard r) framed agrees (by rw [counts]; exact Nat.succ_pos 15) (by rw [counts]; exact fewer)
          rw [counts] at stays
          exact makes (judged.trans stays)
        · have counts := State.learned_matched (s := s.heard r) consistent same
          have joins := State.judgeLearning_joins (s := s.heard r) framed agrees (by rw [counts]; exact Nat.succ_pos 15) (by rw [counts]; exact enough)
          rw [counts] at joins
          exact makes (judged.trans joins)
        · have counts := State.learned_silent (s := s.heard r) silent
          have stays := State.judgeLearning_stays (s := s.heard r) framed agrees (by rw [counts]; exact fewer) (by rw [counts]; exact Nat.succ_pos 15)
          rw [counts] at stays
          exact makes (judged.trans stays)
        · have counts := State.learned_silent (s := s.heard r) silent
          have founds := State.judgeLearning_founds (s := s.heard r) framed agrees (by rw [counts]; exact enough)
          rw [counts] at founds
          exact makes (judged.trans founds)
        · have counts : (s.heard r).learned r = (0, 0) := by
            rcases other with ⟨consistent, unmatched⟩ | disagrees
            · exact State.learned_unmatched consistent unmatched
            · exact State.learned_disagreement disagrees
          have stays := State.judgeLearning_stays (s := s.heard r) framed agrees (by rw [counts]; exact Nat.succ_pos 15)
            (by rw [counts]; exact Nat.succ_pos 15)
          rw [counts] at stays
          exact makes (judged.trans stays)
    · have judged := State.judge_inStep (s := s.seen r) drive own few inStep
      exact ⟨fun faulted => makes (judged.trans (State.judgeInStep_faulted faulted)),
        fun framed own differs => makes (judged.trans (State.judgeInStep_isolates framed own differs)),
        fun framed own same differs => makes (judged.trans (State.judgeInStep_splits framed own same differs)),
        fun framed same => makes (judged.trans (State.judgeInStep_applies framed same))⟩
  · intro r s own notified reported full
    refine ⟨?_, fun f config => ?_, ?_⟩
    · rw [State.applyRecord_full, State.notificationStage, State.notifyOwn_eq]
    · rw [State.applyRecord_learner, State.applyTable_learner config, State.notificationStage, State.notifyOwn_eq]
    · rw [State.found, State.notifyOwn_eq]
  · intro s c k p m moved
    refine ⟨rfl, rfl, fun other => ?_, fun armed => ?_⟩
    · rw [State.captureIfArmed, if_neg other]
    · rw [State.captureIfArmed, if_pos armed]
      rfl
  · intro blk r g
    have claimed := g.claimed_all blk r
    refine ⟨g.foundingClaims blk r, g.found_eq blk r, Gtu.sameRest_foundingClaims.1, Gtu.sameRest_foundingClaims.2, ?_, ?_,
      fun n => founding_claims blk r g n⟩
    · rw [Gtu.waitList_foundingClaims]
      exact claimed.distinct
    · rw [Gtu.waitList_foundingClaims]
      refine claimed.order.imp fun {p q} order => ?_
      rw [Gtu.cls_entry_foundingClaims, Gtu.cls_entry_foundingClaims]
      exact order
  · intro r s on t
    have untouched := State.untouched_deliver r on
    refine ⟨untouched.vbi, State.deliver_filters r, ?_, ?_, s.deliver_sl r, s.deliver_pins r, s.deliver_now r, s.deliver_choices r, s.deliver_pending r,
      untouched.mp⟩
    · exact congrArg Prod.fst untouched.tags
    · exact congrArg Prod.snd untouched.tags

end Sys2Proof.Machine
end

section
/-! SUPPORT. The grants (R95 to R101), an equation for each request and case. -/

namespace Sys2Proof.Machine

open Sys2Proof.Safety

/-- The class a condition claims, when it is not CLEAR. -/
theorem Condition.claim_eq {c : Condition} (set : c ≠ .clear) : c.claim = some (if c = .failed then .fail else .degrade) := by
  cases c with
  | clear => exact absurd rfl set
  | degraded => rfl
  | failed => rfl

theorem Condition.claim_clear {c : Condition} (clear : c = .clear) : c.claim = none := by rw [clear]; rfl

section
variable {blk : List Byte} {g : Gtu} {p : Pos}

theorem Gtu.applyGrant_empty (empty : (g.entry p).role = .empty) (v : Request) : g.applyGrant blk v p = (g, .noChange) := if_pos empty

/-- Entry `p` with its lock replaced. -/
def Gtu.lockTo (p : Pos) (b : Bool) (g : Gtu) : Gtu := g.setEntry p { g.entry p with locked := b }

/-! ## LOCKOUT and UNLOCK (R96, R97) -/

theorem Gtu.grantLockout_eq : g.grantLockout p =
    match (g.entry p).role with
    | .empty => (g, .noChange)
    | .primary => if (g.entry p).locked then (g, .noChange) else ((g.lockTo p true).release p, .accepted)
    | .backup => ((g.lockTo p true).revokeHolders p, .accepted) := rfl

theorem Gtu.grantLockout_primary (role : (g.entry p).role = .primary) :
    g.grantLockout p = if (g.entry p).locked then (g, .noChange) else ((g.lockTo p true).release p, .accepted) := by
  rw [Gtu.grantLockout_eq, role]

theorem Gtu.grantLockout_backup (role : (g.entry p).role = .backup) : g.grantLockout p = ((g.lockTo p true).revokeHolders p, .accepted) := by
  rw [Gtu.grantLockout_eq, role]

theorem Gtu.grantUnlock_eq : g.grantUnlock p =
    if !(g.entry p).locked then (g, .noChange)
    else if (g.entry p).role = .primary && (g.entry p).presence = .present then
      match (g.entry p).condition.claim, (g.entry p).assignment with
      | some c, .none => (((g.lockTo p false).setCls p c).arrive p, .accepted)
      | some c, .dropping => (if (g.entry p).cls = .hold then (g.lockTo p false).setCls p c else g.lockTo p false, .accepted)
      | _, _ => (g.lockTo p false, .accepted)
    else (g.lockTo p false, .accepted) := rfl

theorem Gtu.grantUnlock_unlocked (unlocked : (g.entry p).locked = false) : g.grantUnlock p = (g, .noChange) := by
  simp [Gtu.grantUnlock, unlocked]

section
variable (locked : (g.entry p).locked = true)
include locked

theorem Gtu.grantUnlock_claims (role : (g.entry p).role = .primary) (presence : (g.entry p).presence = .present) {c : Cls}
    (claim : (g.entry p).condition.claim = some c) (none : (g.entry p).assignment = .none) :
    g.grantUnlock p = (((g.lockTo p false).setCls p c).arrive p, .accepted) := by
  rw [Gtu.grantUnlock_eq, claim, none]
  simp [locked, role, presence]

theorem Gtu.grantUnlock_dropping (role : (g.entry p).role = .primary) (presence : (g.entry p).presence = .present) {c : Cls}
    (claim : (g.entry p).condition.claim = some c) (dropping : (g.entry p).assignment = .dropping) :
    g.grantUnlock p = (if (g.entry p).cls = .hold then (g.lockTo p false).setCls p c else g.lockTo p false, .accepted) := by
  rw [Gtu.grantUnlock_eq, claim, dropping]
  simp [locked, role, presence]

theorem Gtu.grantUnlock_rests (rests : (g.entry p).role = .backup ∨ (g.entry p).presence ≠ .present ∨ (g.entry p).condition.claim = none ∨
    (g.entry p).assignment.engaged = true) : g.grantUnlock p = (g.lockTo p false, .accepted) := by
  rw [Gtu.grantUnlock_eq, locked]
  rcases rests with role | presence | claim | engaged
  · simp [role]
  · simp [presence]
  · rw [claim]
    simp
  · cases a : (g.entry p).assignment with
    | none =>
      rw [a] at engaged
      cases engaged
    | dropping =>
      rw [a] at engaged
      cases engaged
    | yielding => simp
    | taking => simp
    | active => simp

end

/-! ## FORCE and MANUAL (R98, R99) -/

theorem Gtu.grantForce_backup (role : (g.entry p).role = .backup) : g.grantForce blk p = (g, .refusedRole) := by simp [Gtu.grantForce, role]

theorem Gtu.grantManual_backup (role : (g.entry p).role = .backup) : g.grantManual blk p = (g, .refusedRole) := by simp [Gtu.grantManual, role]

section
variable (role : (g.entry p).role = .primary)
include role

theorem Gtu.grantForce_locked (locked : (g.entry p).locked = true) : g.grantForce blk p = (g, .refusedLocked) := by simp [Gtu.grantForce, role, locked]

theorem Gtu.grantManual_locked (locked : (g.entry p).locked = true) : g.grantManual blk p = (g, .refusedLocked) := by simp [Gtu.grantManual, role, locked]

variable (unlocked : (g.entry p).locked = false)
include unlocked

theorem Gtu.grantForce_absent (absent : (g.entry p).presence ≠ .present) : g.grantForce blk p = (g, .noChange) := by
  simp [Gtu.grantForce, role, unlocked, absent]

/-- MANUAL takes effect for a PRESENT primary in NONE, off the list, of class 0 and CLEAR alone. -/
theorem Gtu.grantManual_refrains (busy : ¬((g.entry p).presence = .present ∧ (g.entry p).assignment = .none ∧ p ∉ g.waitList ∧
    (g.entry p).cls = .none ∧ (g.entry p).condition = .clear)) : g.grantManual blk p = (g, .noChange) := by
  have unfit : ((g.entry p).presence = .present && (g.entry p).assignment = .none && !g.waiting p && (g.entry p).cls = .none &&
      (g.entry p).condition = .clear) = false := by
    simpa [Gtu.waiting, and_assoc, ← not_and] using busy
  simp only [Gtu.grantManual, role, unlocked, unfit]
  rfl

variable (presence : (g.entry p).presence = .present)
include presence

theorem Gtu.grantForce_covered (engaged : (g.entry p).assignment.engaged = true) : g.grantForce blk p = (g.setCls p .force, .accepted) := by
  cases a : (g.entry p).assignment <;> simp_all [Gtu.grantForce, Assignment.engaged]

theorem Gtu.grantForce_dropping (dropping : (g.entry p).assignment = .dropping) : g.grantForce blk p = (g.setCls p .force, .parked) := by
  simp [Gtu.grantForce, role, unlocked, presence, dropping]

variable (free : (g.entry p).assignment = .none)
include free

theorem Gtu.grantForce_waiting (waits : p ∈ g.waitList) :
    g.grantForce blk p = (if (g.entry p).cls = .force then g else (g.setCls p .force).arrive p, .accepted) := by
  by_cases force : (g.entry p).cls = .force <;> simp [Gtu.grantForce, role, unlocked, presence, free, Gtu.waiting, waits, force]

variable (off : p ∉ g.waitList)
include off

theorem Gtu.grantForce_selects {b : Pos} (chosen : g.choose blk p .force = some b) : g.grantForce blk p = (g.select p b .force, .accepted) := by
  simp [Gtu.grantForce, role, unlocked, presence, free, Gtu.waiting, off, chosen]

theorem Gtu.grantForce_waits (alone : g.choose blk p .force = none) : g.grantForce blk p = ((g.setCls p .force).arrive p, .parked) := by
  simp [Gtu.grantForce, role, unlocked, presence, free, Gtu.waiting, off, alone]

variable (cls : (g.entry p).cls = .none) (clear : (g.entry p).condition = .clear)
include cls clear

theorem Gtu.grantManual_selects {b : Pos} (chosen : g.choose blk p .manual = some b) :
    g.grantManual blk p = (g.select p b .manual, .accepted) := by
  simp [Gtu.grantManual, role, unlocked, presence, free, Gtu.waiting, off, cls, clear, chosen]

theorem Gtu.grantManual_alone (alone : g.choose blk p .manual = none) : g.grantManual blk p = (g, .refusedNoBackup) := by
  simp [Gtu.grantManual, role, unlocked, presence, free, Gtu.waiting, off, cls, clear, alone]

end

/-! ## CLEAR and RESTORE (R100, R101) -/

theorem Gtu.grantClear_refrains (rests : (g.entry p).role = .backup ∨ (g.entry p).assignment = .dropping ∨
    ((g.entry p).cls ≠ .force ∧ (g.entry p).cls ≠ .manual ∧ (g.entry p).cls ≠ .hold)) : g.grantClear p = (g, .noChange) := by
  rcases rests with role | dropping | ⟨force, manual, hold⟩
  · simp [Gtu.grantClear, role]
  · simp [Gtu.grantClear, dropping]
  · simp [Gtu.grantClear, force, manual, hold]

section
variable (role : (g.entry p).role = .primary) (other : (g.entry p).assignment ≠ .dropping)
  (cls : (g.entry p).cls = .force ∨ (g.entry p).cls = .manual ∨ (g.entry p).cls = .hold)
include role other cls

theorem Gtu.grantClear_eq : g.grantClear p =
    match (g.entry p).condition.claim with
    | none => (g.release p, .accepted)
    | some c => if g.waiting p && c ≠ (g.entry p).cls then ((g.setCls p c).arrive p, .accepted) else (g.setCls p c, .accepted) := by
  rw [Gtu.grantClear]
  have takes : ((g.entry p).role = .backup || !((g.entry p).cls = .force || (g.entry p).cls = .manual || (g.entry p).cls = .hold) ||
      (g.entry p).assignment = .dropping) = false := by
    simpa [role, other, or_assoc, imp_iff_not_or] using cls
  simp only [takes]
  rfl

theorem Gtu.grantClear_releases (claim : (g.entry p).condition.claim = none) : g.grantClear p = (g.release p, .accepted) := by
  rw [Gtu.grantClear_eq role other cls, claim]

theorem Gtu.grantClear_claims {c : Cls} (claim : (g.entry p).condition.claim = some c) : g.grantClear p =
    (if p ∈ g.waitList ∧ c ≠ (g.entry p).cls then (g.setCls p c).arrive p else g.setCls p c, .accepted) := by
  rw [Gtu.grantClear_eq role other cls, claim]
  by_cases moves : p ∈ g.waitList ∧ c ≠ (g.entry p).cls
  · rw [if_pos moves]
    exact if_pos (by simpa [Gtu.waiting] using moves)
  · rw [if_neg moves]
    exact if_neg (by simpa [Gtu.waiting] using moves)

end

theorem Gtu.grantRestore_releases (role : (g.entry p).role = .primary) (cls : (g.entry p).cls = .waitRestore) :
    g.grantRestore p = (g.release p, .accepted) := by simp [Gtu.grantRestore, role, cls]

theorem Gtu.grantRestore_stale (stale : (g.entry p).role = .backup ∨ (g.entry p).cls ≠ .waitRestore) : g.grantRestore p = (g, .stale) := by
  rcases stale with role | cls
  · simp [Gtu.grantRestore, role]
  · simp [Gtu.grantRestore, cls]

theorem Assignment.engaged_iff (a : Assignment) : a.engaged = true ↔ a = .yielding ∨ a = .taking ∨ a = .active := by cases a <;> decide

end

/-- Settles O33, by the request and the requester's entry. -/
theorem grantsTakeEffectByTheirRequest : Obligations.GrantsTakeEffectByTheirRequest := by
  intro blk g p e grant locked covered
  have of {v : Request} (configured : e.role ≠ .empty) : grant v = match v with
      | .lockout => g.grantLockout p
      | .force => g.grantForce blk p
      | .manual => g.grantManual blk p
      | .clear => g.grantClear p
      | .unlock => g.grantUnlock p
      | .restore => g.grantRestore p := if_neg configured
  have primary (role : e.role = .primary) : e.role ≠ .empty := by rw [role]; decide
  have backup (role : e.role = .backup) : e.role ≠ .empty := by rw [role]; decide
  refine ⟨Gtu.applyGrant_empty, fun role on => ?_, fun role off => ?_, fun role => ?_, fun configured off => ?_, fun configured on => ⟨?_, ?_⟩,
    fun role => ?_, fun role on => ?_, fun role off absent => ?_, fun role off presence => ⟨?_, ?_, ?_, ?_⟩, fun rests configured => ?_,
    fun role other cls => ⟨fun clear => ?_, fun set => ?_⟩, fun role cls => ?_, fun stale configured => ?_⟩
  · rw [of (primary role), Gtu.grantLockout_primary role]
    exact if_pos on
  · rw [of (primary role), Gtu.grantLockout_primary role]
    exact if_neg (by rw [off]; exact Bool.false_ne_true)
  · rw [of (backup role), Gtu.grantLockout_backup role]
    rfl
  · rw [of configured, Gtu.grantUnlock_unlocked off]
  · intro role presence set
    refine ⟨fun none => ?_, fun dropping hold => ?_⟩
    · rw [of configured]
      exact Gtu.grantUnlock_claims on role presence (Condition.claim_eq set) none
    · rw [of configured]
      refine (Gtu.grantUnlock_dropping on role presence (Condition.claim_eq set) dropping).trans ?_
      rw [if_pos hold]
      rfl
  · intro rests
    rw [of configured]
    rcases rests with role | absent | clear | engaged | ⟨dropping, other⟩
    · exact Gtu.grantUnlock_rests on (.inl role)
    · exact Gtu.grantUnlock_rests on (.inr (.inl absent))
    · exact Gtu.grantUnlock_rests on (.inr (.inr (.inl (Condition.claim_clear clear))))
    · exact Gtu.grantUnlock_rests on (.inr (.inr (.inr ((Assignment.engaged_iff _).mpr engaged))))
    · by_cases claims : e.role = .primary ∧ e.presence = .present ∧ e.condition ≠ .clear
      · obtain ⟨role, presence, set⟩ := claims
        refine (Gtu.grantUnlock_dropping on role presence (Condition.claim_eq set) dropping).trans ?_
        rw [if_neg other]
        rfl
      · refine Gtu.grantUnlock_rests on ?_
        by_cases role : e.role = .primary
        · by_cases presence : e.presence = .present
          · exact .inr (.inr (.inl (Condition.claim_clear (not_not.mp fun set => claims ⟨role, presence, set⟩))))
          · exact .inr (.inl presence)
        · refine .inl ?_
          cases is : e.role with
          | empty => exact absurd is configured
          | primary => exact absurd is role
          | backup => rfl
  · rw [of (backup role), of (backup role)]
    exact ⟨Gtu.grantForce_backup role, Gtu.grantManual_backup role⟩
  · rw [of (primary role), of (primary role)]
    exact ⟨Gtu.grantForce_locked role on, Gtu.grantManual_locked role on⟩
  · rw [of (primary role), of (primary role)]
    exact ⟨Gtu.grantForce_absent role off absent, Gtu.grantManual_refrains role off fun fit => absent fit.1⟩
  · intro engaged
    rw [of (primary role), of (primary role)]
    have covers := (Assignment.engaged_iff _).mpr engaged
    refine ⟨Gtu.grantForce_covered role off presence covers, Gtu.grantManual_refrains role off fun fit => ?_⟩
    rw [fit.2.1] at covers
    cases covers
  · intro dropping
    rw [of (primary role), of (primary role)]
    refine ⟨Gtu.grantForce_dropping role off presence dropping, Gtu.grantManual_refrains role off fun fit => ?_⟩
    have both := dropping.symm.trans fit.2.1
    cases both
  · intro free waits
    rw [of (primary role), of (primary role)]
    exact ⟨Gtu.grantForce_waiting role off presence free waits, Gtu.grantManual_refrains role off fun fit => fit.2.2.1 waits⟩
  · intro free away
    rw [of (primary role), of (primary role)]
    refine ⟨fun b chosen => Gtu.grantForce_selects role off presence free away chosen, Gtu.grantForce_waits role off presence free away, fun busy => ?_,
      fun clear cls => ⟨fun b chosen => Gtu.grantManual_selects role off presence free away cls clear chosen,
        Gtu.grantManual_alone role off presence free away cls clear⟩⟩
    exact Gtu.grantManual_refrains role off fun fit => busy.elim (fun set => set fit.2.2.2.2) fun classed => classed fit.2.2.2.1
  · rw [of configured]
    exact Gtu.grantClear_refrains rests
  · rw [of (primary role)]
    exact Gtu.grantClear_releases role other cls (Condition.claim_clear clear)
  · rw [of (primary role)]
    exact Gtu.grantClear_claims role other cls (Condition.claim_eq set)
  · rw [of (primary role)]
    exact Gtu.grantRestore_releases role cls
  · rw [of configured]
    exact Gtu.grantRestore_stale stale

end Sys2Proof.Machine
end

section
/-! SUPPORT. Laws of the table kept by every step: what the stages of an application, the comparison and a founding keep, and what holds of a cleared table,
holds of the table in every reachable state. With it, the table settled (R61, R62, R71). -/

namespace Sys2Proof.Machine

open Sys2Proof.Safety

/-- A law of the table, for the block in force, that every work on the table keeps. -/
structure TableLaw (L : List Byte → Gtu → Prop) : Prop where
  cleared : ∀ blk, L blk (Gtu.cleared (blockRole blk))
  requested : ∀ {blk : List Byte} {g : Gtu} (a : ActState), L blk g → L blk { g with requested := a }
  compare : ∀ {own : Pos} {blk : List Byte} {g : Gtu} (v : Option (Fin 16 × BitVec 25)), blockValid own blk = true → L blk g → L blk (g.compareStage blk (primariesOf blk) v)
  stages : ∀ {own : Pos} {blk : List Byte} {g : Gtu} (r : EpochRecord), blockValid own blk = true → L blk g → L blk (g.tableStages blk r).1
  found : ∀ {own : Pos} {blk : List Byte} {g : Gtu} (r : EpochRecord), blockValid own blk = true → L blk (g.found blk r)

section
variable {s t u : State} {r : EpochRecord} {L : List Byte → Gtu → Prop}

theorem TableLaw.of_requests (law : TableLaw L) {blk : List Byte} {g h : Gtu} (same : h = { g with requested := h.requested }) (holds : L blk g) :
    L blk h := by
  rw [same]
  exact law.requested _ holds

theorem State.inGroup_config (started : Started s) (inside : s.participation.inGroup = true) : ∃ f, s.sl.config = some f := by
  obtain ⟨-, -, -, config, -⟩ := started
  have begun : unstarted s.participation = false := by
    cases p : s.participation with
    | reset | loading | unconfigured | listening | isolated | conflict =>
      rw [p] at inside
      cases inside
    | learning | inStep => rfl
  exact Option.isSome_iff_exists.mp (config.mpr begun)

section
variable {f : Frozen} (law : TableLaw L) (config : s.sl.config = some f) (passed : f.Passed s.sl.ownPos) (holds : L f.area s.gtu)
include law config passed holds

theorem TableLaw.applyRecord (full : Bool) : L f.area (s.applyRecord full r).gtu := by
  obtain ⟨valid, -, -, -, -, primaries⟩ := passed
  cases full with
  | true =>
    rw [State.applyRecord_full_gtu, State.directiveStage_gtu, State.area_of_config config]
    exact law.requested _ (law.stages r valid holds)
  | false =>
    rw [State.applyRecord_learner_gtu, State.applyTable_learner config, primaries]
    exact law.stages r valid (law.compare _ valid holds)

omit holds in
theorem TableLaw.found_state : L f.area (s.found r).gtu := by
  have gtu := State.found_gtu (s := s) (r := r)
  rw [State.area_of_config config] at gtu
  exact law.of_requests gtu (law.found r passed.1)

theorem TableLaw.outcome (outcome : Outcome r s u) : L f.area u.gtu := by
  have counted {v : State} (counts : v.Counts s) : v.sl = s.sl ∧ v.gtu = s.gtu := by
    rw [counts.rest]
    exact ⟨rfl, rfl⟩
  have applied {v : State} (full : Bool) (sl : v.sl = s.sl) (gtu : v.gtu = s.gtu) : L f.area (v.applyRecord full r).gtu :=
    law.applyRecord (s := v) (by rw [sl, config]) (by rw [sl]; exact passed) (by rw [gtu]; exact holds) full
  have left {v : State} (counts : v.Counts s) (dest : Participation) : L f.area (v.leaveGroup dest).gtu := by
    rw [State.leaveGroup_gtu, State.area_of_config (s := v) (by rw [(counted counts).1, config])]
    split
    · exact law.cleared f.area
    · rw [(counted counts).2]
      exact holds
  cases outcome with
  | counts _ counts _ =>
    rw [(counted counts).2]
    exact holds
  | apart v counts dest c _ =>
    rw [State.setApart_gtu]
    exact left counts dest
  | sync v counts _ =>
    rw [State.syncLoss_gtu]
    exact left counts .listening
  | learns v counts _ =>
    rw [State.moveTo_gtu, (counted counts).2]
    exact holds
  | founds v counts _ =>
    exact law.found_state (s := v) (by rw [(counted counts).1, config]) (by rw [(counted counts).1]; exact passed)
  | applies v counts _ => exact applied false (counted counts).1 (counted counts).2
  | joins v counts _ =>
    refine law.of_requests State.reconcile_requestsOf.1 ?_
    rw [State.joinStep_gtu]
    exact applied false (counted counts).1 (counted counts).2
  | falls v counts c _ =>
    rw [State.fall_gtu, (counted counts).2]
    exact holds
  | splits v counts c _ => exact applied false ((State.fall_sl ..).trans (counted counts).1) ((State.fall_gtu ..).trans (counted counts).2)
  | inStep v counts _ => exact applied true (counted counts).1 (counted counts).2

theorem TableLaw.deliver : L f.area (s.deliver r).gtu := by
  by_cases timed : s.participation.timed = true
  · have judged := law.outcome (s := s.seen r) config passed holds (outcome_judge (s := s.seen r) r timed)
    rw [State.deliver_gives timed rfl]
    split
    · exact judged
    · rw [State.countHead_gtu]
      exact judged
  · by_cases apart : s.participation = .isolated ∨ s.participation = .conflict
    · rw [State.deliver_apart apart]
      exact holds
    · rw [State.deliver_deaf (by simpa [Participation.receiving, timed] using apart)]
      exact holds

end

/-- What is kept along with a law of the table. -/
def LawfulTable (L : List Byte → Gtu → Prop) (s : State) : Prop := ((Started s ∧ TableHeldInGroup s) ∧ ConfigurationValid s) ∧ L s.area s.gtu

theorem TableLaw.move (law : TableLaw L) (move : Move s t) (holds : LawfulTable L s) : LawfulTable L t := by
  obtain ⟨⟨⟨started, held⟩, valid⟩, holds⟩ := holds
  have heldAfter := move.held ⟨started, held⟩
  refine ⟨⟨heldAfter, (move.configuration ⟨started, valid⟩).2⟩, ?_⟩
  by_cases inside : t.participation.inGroup = true
  swap
  · rw [heldAfter.2 (by simpa using inside)]
    exact law.cleared _
  have same (gtu : t.gtu = s.gtu) (config : t.sl.config = s.sl.config) : L t.area t.gtu := by
    rw [gtu, State.area_congr config]
    exact holds
  have gone {p : Participation} (is : t.participation = p) (outside : p.inGroup = false) : L t.area t.gtu := by
    rw [is, outside] at inside
    cases inside
  cases move with
  | deliver r =>
    have configAfter : (s.deliver r).sl.config = s.sl.config := by rw [s.deliver_sl r]
    obtain ⟨f, config⟩ := State.inGroup_config heldAfter.1 inside
    rw [configAfter] at config
    rw [State.area_congr configAfter]
    rw [State.area_of_config config] at holds ⊢
    exact law.deliver config (configurationValid_iff.mp valid f config) holds
  | release straps reset =>
    refine gone (p := .loading) ?_ rfl
    rw [State.participation, State.sampleLines_pc]
    rfl
  | loader l config _ _ _ => exact same rfl config
  | loadFails c _ => exact same rfl rfl
  | freeze src f _ _ =>
    refine gone (p := .listening) ?_ rfl
    rw [State.participation, State.freeze_eq, State.offer_pc]
    rfl
  | rejoin _ => exact same rfl rfl
  | softReset clearsFirst _ =>
    have moved : ((s.cardSoftReset clearsFirst).participationSoftReset.softWithdraw).participation =
        (s.cardSoftReset clearsFirst).participationSoftReset.participation := by rw [State.participation, State.softWithdraw_pc, State.participation]
    rw [moved, State.participationSoftReset_participation] at inside
    split at inside
    · cases inside
    · next outside => exact absurd inside outside
  | restart _ =>
    have sl : (s.setEngine .idle).reconcile.sl = s.sl := by rw [State.reconcile_sl, State.setEngine_sl]
    rw [State.area_congr (s := s) (by rw [sl])]
    exact law.of_requests (State.reconcile_requestsOf (s := s.setEngine .idle)).1 holds
  | submit k => exact same (by rw [State.submit_eq]) (by rw [State.submit_eq])
  | acknowledge x => exact same (by rw [State.acknowledge_eq]) (by rw [State.acknowledge_eq])
  | clock _ _ _ => exact same rfl rfl
  | port _ _ => exact same rfl rfl
  | wire _ _ _ => exact same rfl rfl
  | pins _ => exact same rfl rfl
  | wtrExpires _ => exact same rfl rfl
  | waited _ _ _ => exact same rfl rfl
  | setEngine _ _ => exact same rfl rfl
  | _ => exact same (by simp) (by simp)

theorem TableLaw.reset (law : TableLaw L) (reset : t.FullyReset) : LawfulTable L t := by
  refine ⟨⟨reset.held, reset.configuration.2⟩, ?_⟩
  obtain ⟨low, since, deaf, pins, now, choices, pending, rfl⟩ := reset
  have cleared := law.cleared []
  rw [blockRole_nil] at cleared
  exact cleared

/-- A law of the table is kept by every step. -/
theorem TableLaw.step (law : TableLaw L) (lawful : Lawful s) (holds : L s.area s.gtu) (steps : step s = .next t) :
    (Started t ∧ TableHeldInGroup t) ∧ L t.area t.gtu := by
  obtain ⟨started, held, -, -, -, -, valid, -⟩ := lawful
  obtain ⟨⟨kept, -⟩, lawAfter⟩ := step_keeps (P := LawfulTable L) law.reset law.move ⟨⟨⟨started, held⟩, valid⟩, holds⟩ steps
  exact ⟨kept, lawAfter⟩

end

/-! ## The table settled -/

section
variable {g h : Gtu} {blk : List Byte}

/-- A table is its rows, its list, its index and its requested state. -/
theorem Gtu.eq_of_entries (entries : ∀ n, h.entry n = g.entry n) (list : h.waitList = g.waitList) (rest : g.SameRest h) : h = g := by
  have rows : h.entries = g.entries := Vector.ext fun i inRange => entries ⟨i, inRange⟩
  obtain ⟨index, requested⟩ := rest
  cases g
  cases h
  simp_all

theorem Gtu.holder_congr (same : ∀ p b, h.holds p b = g.holds p b) (b : Pos) : h.holder b = g.holder b := by
  unfold Gtu.holder
  simp only [same]

theorem Gtu.entry_settle_backup {n : Pos} (role : (g.entry n).role = .backup) : g.settle.entry n =
    match g.holder n with
    | some p => { g.entry n with assignment := (g.entry p).assignment, partner := some p }
    | none => { g.entry n with assignment := .none, partner := none } := by
  cases holder : g.holder n <;> simp only [Gtu.settle, Gtu.entry_mapEntries, role, holder]

theorem Gtu.entry_settle_empty {n : Pos} (role : (g.entry n).role = .empty) : g.settle.entry n = g.entry n := by
  simp [Gtu.settle, role]

theorem Gtu.role_settle (n : Pos) : (g.settle.entry n).role = (g.entry n).role := congrArg Prod.fst (g.facts_settle n)

/-- Settling leaves the primaries' relations. -/
theorem Gtu.cover_settle (n : Pos) (role : (g.entry n).role = .primary) :
    (g.settle.entry n).assignment = (g.entry n).assignment ∧ (g.settle.entry n).partner = (g.entry n).partner := by
  rw [Gtu.entry_settle_primary role]
  exact ⟨.refl _, .refl _⟩

theorem Gtu.holds_settle (p b : Pos) : g.settle.holds p b = g.holds p b := by
  rw [Bool.eq_iff_iff, Gtu.holds_iff, Gtu.holds_iff, Gtu.role_settle]
  refine and_congr_right fun role => ?_
  obtain ⟨assignment, partner⟩ := Gtu.cover_settle p role
  rw [assignment, partner]

theorem Gtu.drops_settle (p b : Pos) : g.settle.drops p b = g.drops p b := by
  rw [Bool.eq_iff_iff, Gtu.drops_iff, Gtu.drops_iff, Gtu.role_settle]
  refine and_congr_right fun role => ?_
  obtain ⟨assignment, partner⟩ := Gtu.cover_settle p role
  rw [assignment, partner]

theorem Gtu.holder_holds {p b : Pos} (held : g.holder b = some p) : g.holds p b = true := List.find?_some (p := fun p => g.holds p b) held

theorem Gtu.holder_none {b : Pos} : g.holder b = none ↔ ∀ p, g.holds p b = false := by
  rw [Gtu.holder, List.find?_eq_none]
  simp [mem_allPos]

/-- A settled table stays as it is. -/
theorem Gtu.settle_settle (g : Gtu) : g.settle.settle = g.settle := by
  refine Gtu.eq_of_entries (fun n => ?_) (by rw [Gtu.waitList_settle]) Gtu.sameRest_settle
  cases role : (g.entry n).role with
  | empty => exact Gtu.entry_settle_empty (by rw [Gtu.role_settle, role])
  | primary => rw [Gtu.entry_settle_primary (by rw [Gtu.role_settle, role]), Gtu.waitList_settle, Gtu.entry_settle_primary role]
  | backup =>
    rw [Gtu.entry_settle_backup (by rw [Gtu.role_settle, role]), Gtu.holder_congr Gtu.holds_settle, Gtu.entry_settle_backup role]
    cases held : g.holder n with
    | none => rfl
    | some p =>
      have primary := ((Gtu.holds_iff p n).mp (Gtu.holder_holds held)).1
      simp only [(Gtu.cover_settle p primary).1]

/-- The roles of the block, and the backups and ranks in agreement with the primaries and the list. -/
def Gtu.Settled (blk : List Byte) (g : Gtu) : Prop := (∀ n, (g.entry n).role = blockRole blk n) ∧ g.settle = g

theorem Gtu.settle_serviceStage (blk : List Byte) (g : Gtu) : (g.serviceStage blk).settle = g.serviceStage blk := Gtu.settle_settle _

/-! ### Roles -/

theorem Entry.role_of_facts {e e' : Entry} (facts : e.facts = e'.facts) : e.role = e'.role := congrArg Prod.fst facts

theorem Entry.track_role (limit : Nat) (seen : Bool) (e : Entry) : (e.track limit seen).role = e.role := by
  unfold Entry.track
  dsimp only
  split
  · rfl
  · rfl
  · rfl
  · split <;> rfl
  · rfl
  · rfl
  · split <;> rfl
  · rfl

theorem Entry.readFault_role (x : Bool) (e : Entry) : (e.readFault x).role = e.role := by
  unfold Entry.readFault
  split <;> rfl

theorem Entry.readCondition_role (c : Condition) (e : Entry) : (e.readCondition c).role = e.role := by
  unfold Entry.readCondition
  split <;> rfl

/-! ### Facts of an entry through the stages -/

theorem Gtu.facts_applyLoss (g : Gtu) (p n : Pos) : ((g.applyLoss p).entry n).facts = (g.entry n).facts := by
  unfold Gtu.applyLoss
  split
  · rfl
  · exact g.facts_release p n
  · exact (Gtu.facts_endDroppings _ p n).trans (g.facts_revokeHolders p n)

theorem Gtu.facts_applyFault (g : Gtu) (p n : Pos) : ((g.applyFault p).entry n).facts = (g.entry n).facts := by
  unfold Gtu.applyFault
  dsimp only
  split
  · split
    · rfl
    · exact g.facts_revokeHolders p n
    · split
      · exact g.facts_revoke p n
      · rfl
  · rfl

theorem Gtu.facts_setCls_arrive (g : Gtu) (p n : Pos) (c : Cls) : (((g.setCls p c).arrive p).entry n).facts = (g.entry n).facts := by
  rw [Gtu.entry_arrive]
  exact g.facts_setCls p n c

theorem Gtu.facts_applyCondition (blk : List Byte) (g : Gtu) (p n : Pos) : ((g.applyCondition blk p).entry n).facts = (g.entry n).facts := by
  unfold Gtu.applyCondition
  dsimp only
  split
  · rfl
  split
  · split
    · split
      · split
        · exact g.facts_clearPrimary p n
        · split
          · rfl
          · exact g.facts_setCls_arrive p n _
      · rfl
    · split
      · split
        · rfl
        · exact g.facts_setCls_arrive p n _
      · rfl
  iterate 3
    · split
      · rfl
      · split
        · exact g.facts_setCls p n _
        · split
          · exact g.facts_setCls p n _
          · rfl
  · split
    · split
      · exact g.facts_setCls p n _
      · exact g.facts_setCls p n _
    · rfl

theorem Gtu.facts_applyBackupFailed (g : Gtu) (b n : Pos) : ((g.applyBackupFailed b).entry n).facts = (g.entry n).facts := by
  unfold Gtu.applyBackupFailed
  dsimp only
  split
  · exact g.facts_revokeHolders b n
  · rfl

theorem Gtu.facts_handshakeOne (standing : Gtu) (r : EpochRecord) (g : Gtu) (p n : Pos) :
    ((Gtu.handshakeOne standing r g p).entry n).facts = (g.entry n).facts := by
  unfold Gtu.handshakeOne
  dsimp only
  split
  · rfl
  · split
    · split
      · exact g.facts_setCover p n _ _ _
      · split
        · rfl
        · exact g.facts_requeueOrClear p n
      all_goals rfl
    · rfl

theorem Gtu.facts_handshakeTwo (standing : Gtu) (r : EpochRecord) (g : Gtu) (p n : Pos) :
    ((Gtu.handshakeTwo standing r g p).entry n).facts = (g.entry n).facts := by
  unfold Gtu.handshakeTwo
  dsimp only
  split
  · rfl
  · split
    · exact g.facts_setCover p n _ _ _
    · rfl

/-- A pass whose steps keep every entry's facts keeps them. -/
theorem Gtu.facts_foldl {f : Gtu → Pos → Gtu} (each : ∀ (g : Gtu) (p n : Pos), ((f g p).entry n).facts = (g.entry n).facts) (l : List Pos) (g : Gtu)
    (n : Pos) : ((l.foldl f g).entry n).facts = (g.entry n).facts :=
  Gtu.foldl_keeps (P := fun h => (h.entry n).facts = (g.entry n).facts) (fun h p kept => (each h p n).trans kept) l g rfl

theorem Gtu.facts_presenceStage (blk : List Byte) (r : EpochRecord) (g : Gtu) (n : Pos) :
    ((g.presenceStage blk r).entry n).facts = ((g.entry n).track (blockLossThreshold blk) (r.presence n)).facts := by
  rw [Gtu.presenceStage, Gtu.facts_settleFrom, Gtu.facts_foldl Gtu.facts_applyLoss, Gtu.entry_mapEntries]

theorem Gtu.facts_faultStage (r : EpochRecord) (g : Gtu) (n : Pos) :
    ((g.faultStage r).entry n).facts = ((g.entry n).readFault (r.fault n)).facts := by
  rw [Gtu.faultStage, Gtu.facts_settleFrom, Gtu.facts_foldl Gtu.facts_applyFault, Gtu.entry_mapEntries]

theorem Gtu.facts_conditionStage (blk : List Byte) (r : EpochRecord) (g : Gtu) (n : Pos) :
    ((g.conditionStage blk r).entry n).facts = ((g.entry n).readCondition (r.condition n)).facts := by
  rw [Gtu.conditionStage, Gtu.facts_settleFrom, Gtu.facts_foldl Gtu.facts_applyBackupFailed, Gtu.facts_foldl (Gtu.facts_applyCondition blk),
    Gtu.entry_mapEntries]

theorem Gtu.facts_handshakeStage (standing : Gtu) (r : EpochRecord) (g : Gtu) (n : Pos) :
    ((Gtu.handshakeStage standing r g).entry n).facts = (g.entry n).facts := by
  rw [Gtu.handshakeStage, Gtu.facts_settleFrom, Gtu.facts_foldl (Gtu.facts_handshakeTwo standing r), Gtu.facts_foldl (Gtu.facts_handshakeOne standing r)]

theorem Gtu.facts_serviceStage (blk : List Byte) (g : Gtu) (n : Pos) : ((g.serviceStage blk).entry n).facts = (g.entry n).facts := by
  rw [Gtu.serviceStage, Gtu.facts_settle, Gtu.facts_serve]

/-- The facts a grant leaves: all but a lock. -/
def Entry.standing (e : Entry) : Role × Presence × Nat × Condition × Bool := (e.role, e.presence, e.runCount, e.condition, e.faulted)

theorem Entry.standing_of_facts {e e' : Entry} (facts : e.facts = e'.facts) : e.standing = e'.standing := by
  simp only [Entry.facts, Prod.mk.injEq] at facts
  obtain ⟨role, presence, runCount, condition, -, faulted⟩ := facts
  simp only [Entry.standing, role, presence, runCount, condition, faulted]

theorem Gtu.standing_lockTo (p n : Pos) (b : Bool) (g : Gtu) : ((g.lockTo p b).entry n).standing = (g.entry n).standing := by
  rw [Gtu.lockTo, Gtu.entry_setEntry]
  split
  · next same =>
    rw [same]
    rfl
  · rfl

theorem Gtu.standing_grantLockout (g : Gtu) (p n : Pos) : ((g.grantLockout p).1.entry n).standing = (g.entry n).standing := by
  rw [Gtu.grantLockout_eq]
  split
  · rfl
  · split
    · rfl
    · dsimp only
      rw [Entry.standing_of_facts (Gtu.facts_release _ p n), Gtu.standing_lockTo]
  · dsimp only
    rw [Entry.standing_of_facts (Gtu.facts_revokeHolders _ p n), Gtu.standing_lockTo]

theorem Gtu.standing_grantUnlock (g : Gtu) (p n : Pos) : ((g.grantUnlock p).1.entry n).standing = (g.entry n).standing := by
  have unlocked := Gtu.standing_lockTo p n false g
  rw [Gtu.grantUnlock_eq]
  split
  · rfl
  · split
    · split
      · exact (Entry.standing_of_facts (Gtu.facts_setCls_arrive _ p n _)).trans unlocked
      · dsimp only
        split
        · exact (Entry.standing_of_facts (Gtu.facts_setCls _ p n _)).trans unlocked
        · exact unlocked
      · exact unlocked
    · exact unlocked

theorem Gtu.facts_grantForce (blk : List Byte) (g : Gtu) (p n : Pos) : ((g.grantForce blk p).1.entry n).facts = (g.entry n).facts := by
  unfold Gtu.grantForce
  dsimp only
  split
  · rfl
  split
  · rfl
  split
  · rfl
  split
  iterate 4
    · exact g.facts_setCls p n _
  · split
    · split
      · rfl
      · exact g.facts_setCls_arrive p n _
    · split
      · exact g.facts_select p _ n _
      · exact g.facts_setCls_arrive p n _

theorem Gtu.facts_grantManual (blk : List Byte) (g : Gtu) (p n : Pos) : ((g.grantManual blk p).1.entry n).facts = (g.entry n).facts := by
  unfold Gtu.grantManual
  dsimp only
  split
  · rfl
  split
  · rfl
  split
  · split
    · exact g.facts_select p _ n _
    · rfl
  · rfl

theorem Gtu.facts_grantClear (g : Gtu) (p n : Pos) : ((g.grantClear p).1.entry n).facts = (g.entry n).facts := by
  unfold Gtu.grantClear
  dsimp only
  split
  · rfl
  split
  · exact g.facts_release p n
  · split
    · exact g.facts_setCls_arrive p n _
    · exact g.facts_setCls p n _

theorem Gtu.facts_grantRestore (g : Gtu) (p n : Pos) : ((g.grantRestore p).1.entry n).facts = (g.entry n).facts := by
  unfold Gtu.grantRestore
  dsimp only
  split
  · exact g.facts_release p n
  · rfl

theorem Gtu.standing_applyGrant (blk : List Byte) (v : Request) (g : Gtu) (p n : Pos) :
    ((g.applyGrant blk v p).1.entry n).standing = (g.entry n).standing := by
  unfold Gtu.applyGrant
  split
  · rfl
  · cases v with
    | lockout => exact g.standing_grantLockout p n
    | unlock => exact g.standing_grantUnlock p n
    | force => exact Entry.standing_of_facts (g.facts_grantForce blk p n)
    | manual => exact Entry.standing_of_facts (g.facts_grantManual blk p n)
    | clear => exact Entry.standing_of_facts (g.facts_grantClear p n)
    | restore => exact Entry.standing_of_facts (g.facts_grantRestore p n)

theorem Gtu.standing_grantStage (blk : List Byte) (r : EpochRecord) (g : Gtu) (n : Pos) :
    ((g.grantStage blk r).1.entry n).standing = (g.entry n).standing := by
  unfold Gtu.grantStage
  split
  · rfl
  · dsimp only
    rw [Entry.standing_of_facts (Gtu.facts_settleFrom _ g n), g.standing_applyGrant]

/-- What an application makes of an entry's presence, count, condition and fault: its readings, in their order (R81). -/
def Entry.readings (blk : List Byte) (r : EpochRecord) (n : Pos) (e : Entry) : Entry :=
  ((e.track (blockLossThreshold blk) (r.presence n)).readFault (r.fault n)).readCondition (r.condition n)

/-- A reading of an entry's facts gives facts. -/
theorem Entry.readFault_facts {e e' : Entry} (x : Bool) (facts : e.facts = e'.facts) : (e.readFault x).facts = (e'.readFault x).facts := by
  simp only [Entry.facts, Prod.mk.injEq] at facts
  obtain ⟨role, presence, runCount, condition, locked, faulted⟩ := facts
  simp only [Entry.readFault, role, presence]
  split <;> simp [Entry.facts, role, presence, runCount, condition, locked, faulted]

theorem Entry.readCondition_facts {e e' : Entry} (c : Condition) (facts : e.facts = e'.facts) :
    (e.readCondition c).facts = (e'.readCondition c).facts := by
  simp only [Entry.facts, Prod.mk.injEq] at facts
  obtain ⟨role, presence, runCount, condition, locked, faulted⟩ := facts
  simp only [Entry.readCondition, role, presence]
  split <;> simp [Entry.facts, role, presence, runCount, condition, locked, faulted]

theorem Gtu.entry_sliceStage (g : Gtu) (n : Pos) : g.sliceStage.entry n = g.entry n := rfl

/-- The table before the service of an application, and the outcome of its grant. -/
def Gtu.granted (blk : List Byte) (r : EpochRecord) (g : Gtu) : Gtu × CmdOutcome :=
  (Gtu.handshakeStage g r (((g.presenceStage blk r).faultStage r).conditionStage blk r)).grantStage blk r

theorem Gtu.tableStages_eq (blk : List Byte) (r : EpochRecord) (g : Gtu) :
    (g.tableStages blk r).1 = ((g.granted blk r).1.serviceStage blk).sliceStage := rfl

/-- An application reads the record into each entry's standing, and its later stages leave it. -/
theorem Gtu.standing_tableStages (blk : List Byte) (r : EpochRecord) (g : Gtu) (n : Pos) :
    ((g.tableStages blk r).1.entry n).standing = ((g.entry n).readings blk r n).standing := by
  have condition : ((((g.presenceStage blk r).faultStage r).conditionStage blk r).entry n).facts = ((g.entry n).readings blk r n).facts := by
    rw [Gtu.facts_conditionStage, Entry.readings]
    refine Entry.readCondition_facts _ ?_
    rw [Gtu.facts_faultStage]
    exact Entry.readFault_facts _ (g.facts_presenceStage blk r n)
  have granted := Gtu.standing_grantStage blk r (Gtu.handshakeStage g r (((g.presenceStage blk r).faultStage r).conditionStage blk r)) n
  rw [Entry.standing_of_facts ((Gtu.facts_handshakeStage g r _ n).trans condition)] at granted
  rw [Gtu.tableStages_eq, Gtu.entry_sliceStage, Entry.standing_of_facts (Gtu.facts_serviceStage blk _ n)]
  exact granted

theorem Entry.readings_role (blk : List Byte) (r : EpochRecord) (n : Pos) (e : Entry) : (e.readings blk r n).role = e.role := by
  rw [Entry.readings, Entry.readCondition_role, Entry.readFault_role, Entry.track_role]

theorem Gtu.role_tableStages (blk : List Byte) (r : EpochRecord) (g : Gtu) (n : Pos) :
    ((g.tableStages blk r).1.entry n).role = (g.entry n).role :=
  (congrArg Prod.fst (g.standing_tableStages blk r n)).trans (Entry.readings_role blk r n _)

end

end Sys2Proof.Machine
end

section
/-! SUPPORT. The operations on covers change the covers of primaries alone; the readings of a record and the laws of presence (R61, R64 to R67). -/

namespace Sys2Proof.Machine

open Sys2Proof.Safety

/-! ## Covers of primaries alone -/

/-- From `g` to `h` no fact of an entry has changed, and of the entries that are not a primary's nothing. -/
def Gtu.CoversOnly (g h : Gtu) : Prop := ∀ n, (h.entry n).facts = (g.entry n).facts ∧ ((g.entry n).role ≠ .primary → h.entry n = g.entry n)

section
variable {g h i : Gtu} {p q b : Pos} {blk : List Byte}

theorem Gtu.CoversOnly.refl (g : Gtu) : g.CoversOnly g := fun _ => ⟨rfl, fun _ => rfl⟩

theorem Gtu.CoversOnly.role (only : g.CoversOnly h) (n : Pos) : (h.entry n).role = (g.entry n).role := Entry.role_of_facts (only n).1

theorem Gtu.CoversOnly.trans (first : g.CoversOnly h) (second : h.CoversOnly i) : g.CoversOnly i := fun n =>
  ⟨(second n).1.trans (first n).1, fun other => ((second n).2 (by rw [first.role]; exact other)).trans ((first n).2 other)⟩

theorem coversOnly_foldl {f : Gtu → Pos → Gtu} (each : ∀ (g : Gtu) (p : Pos), g.CoversOnly (f g p)) (l : List Pos) (g : Gtu) :
    g.CoversOnly (l.foldl f g) :=
  Gtu.foldl_keeps (P := fun h => g.CoversOnly h) (fun h p kept => kept.trans (each h p)) l g (.refl g)

/-- Two tables with the same entries. -/
theorem coversOnly_of_entries (same : ∀ n, h.entry n = g.entry n) : g.CoversOnly h := fun n => ⟨by rw [same], fun _ => same n⟩

theorem coversOnly_requeue (p : Pos) : g.CoversOnly (g.requeue p) := coversOnly_of_entries fun n => Gtu.entry_requeue g p n

theorem coversOnly_offList (p : Pos) : g.CoversOnly (g.offList p) := coversOnly_of_entries fun n => Gtu.entry_offList g p n

theorem coversOnly_arrive (p : Pos) : g.CoversOnly (g.arrive p) := coversOnly_of_entries fun n => Gtu.entry_arrive g p n

theorem coversOnly_orderRequeues (start : Gtu) : g.CoversOnly (g.orderRequeues start) :=
  coversOnly_of_entries fun n => Gtu.entry_orderRequeues g start n

/-- What is not a primary's is not a primary. -/
theorem ne_of_role (primary : (g.entry p).role = .primary) (other : (g.entry q).role ≠ .primary) : q ≠ p := by
  rintro rfl
  exact other primary

section
variable (primary : (g.entry p).role = .primary)
include primary

theorem coversOnly_setCover (a : Assignment) (b : Option Pos) (c : Cls) : g.CoversOnly (g.setCover p a b c) := fun n =>
  ⟨g.facts_setCover p n a b c, fun other => Gtu.entry_setCover_other (ne_of_role primary other) a b c⟩

theorem coversOnly_setCls (c : Cls) : g.CoversOnly (g.setCls p c) := fun n =>
  ⟨g.facts_setCls p n c, fun other => Gtu.entry_setCls_other (ne_of_role primary other) c⟩

theorem coversOnly_clearPrimary : g.CoversOnly (g.clearPrimary p) := (coversOnly_setCover primary _ _ _).trans (coversOnly_offList p)

theorem coversOnly_requeueOrClear : g.CoversOnly (g.requeueOrClear p) := fun n =>
  ⟨g.facts_requeueOrClear p n, fun other => Gtu.requeueOrClear_other (ne_of_role primary other)⟩

end

theorem Gtu.displaces.primary (displaced : g.displaces p q) : (g.entry q).role = .primary := by
  obtain ⟨-, b, -, drops⟩ := displaced
  exact ((Gtu.drops_iff q b).mp ((Gtu.dropsHeard_iff b).mp drops).1).1

theorem coversOnly_ends (primary : (g.entry p).role = .primary) (ends : g.Ends p h) (facts : ∀ n, (h.entry n).facts = (g.entry n).facts) :
    g.CoversOnly h := fun n => ⟨facts n, fun other => ends.others n (ne_of_role primary other) fun both => other both.2.primary⟩

theorem coversOnly_revoke (primary : (g.entry p).role = .primary) : g.CoversOnly (g.revoke p) :=
  coversOnly_ends primary (g.ends_revoke p) (g.facts_revoke p)

theorem coversOnly_release (primary : (g.entry p).role = .primary) : g.CoversOnly (g.release p) :=
  coversOnly_ends primary (g.ends_release p) (g.facts_release p)

theorem coversOnly_revokeHolders (b : Pos) : g.CoversOnly (g.revokeHolders b) := by
  refine coversOnly_foldl (fun g p => ?_) allPos g
  split
  · next held => exact coversOnly_revoke ((Gtu.holds_iff p b).mp held).1
  · exact .refl g

theorem coversOnly_endDroppings (b : Pos) : g.CoversOnly (g.endDroppings b) := by
  refine coversOnly_foldl (fun g p => ?_) allPos g
  split
  · next drops => exact coversOnly_requeueOrClear ((Gtu.drops_iff p b).mp drops).1
  · exact .refl g

theorem coversOnly_applyLoss (g : Gtu) (p : Pos) : g.CoversOnly (g.applyLoss p) := by
  unfold Gtu.applyLoss
  split
  · exact .refl g
  · next primary => exact coversOnly_release primary
  · exact (coversOnly_revokeHolders p).trans (coversOnly_endDroppings p)

theorem coversOnly_applyFault (g : Gtu) (p : Pos) : g.CoversOnly (g.applyFault p) := by
  unfold Gtu.applyFault
  dsimp only
  split
  · split
    · exact .refl g
    · exact coversOnly_revokeHolders p
    · next primary =>
      split
      · exact coversOnly_revoke primary
      · exact .refl g
  · exact .refl g

theorem coversOnly_applyCondition (blk : List Byte) (g : Gtu) (p : Pos) : g.CoversOnly (g.applyCondition blk p) := fun n => by
  refine ⟨g.facts_applyCondition blk p n, fun other => ?_⟩
  unfold Gtu.applyCondition
  dsimp only
  split
  · rfl
  · next changes =>
    have primary : (g.entry p).role = .primary := by
      by_contra role
      exact changes (by simp [role])
    have away := ne_of_role primary other
    have cls (c : Cls) : (g.setCls p c).entry n = g.entry n := Gtu.entry_setCls_other away c
    have arrived (c : Cls) : ((g.setCls p c).arrive p).entry n = g.entry n := by rw [Gtu.entry_arrive, cls]
    split
    · split
      · split
        · split
          · exact Gtu.entry_clearPrimary_other (Ne.symm away)
          · split
            · rfl
            · exact arrived _
        · rfl
      · split
        · split
          · rfl
          · exact arrived _
        · rfl
    iterate 3
      · split
        · rfl
        · split
          · exact cls _
          · split
            · exact cls _
            · rfl
    · split
      · split
        · exact cls _
        · exact cls _
      · rfl

theorem coversOnly_applyBackupFailed (g : Gtu) (b : Pos) : g.CoversOnly (g.applyBackupFailed b) := by
  unfold Gtu.applyBackupFailed
  dsimp only
  split
  · exact coversOnly_revokeHolders b
  · exact .refl g

theorem Gtu.stands_iff (standing g : Gtu) (p : Pos) : g.stands standing p = true ↔ (standing.entry p).role = .primary ∧
    (standing.entry p).assignment = (g.entry p).assignment ∧ (standing.entry p).partner = (g.entry p).partner := by
  simp [Gtu.stands, and_assoc]

section
variable {standing : Gtu} {r : EpochRecord}

/-- The handshake acts on primaries, where the standing table has the same roles. -/
theorem coversOnly_handshakeOne (roles : ∀ n, (standing.entry n).role = (g.entry n).role) (p : Pos) :
    g.CoversOnly (Gtu.handshakeOne standing r g p) := by
  unfold Gtu.handshakeOne
  dsimp only
  split
  · exact .refl g
  · split
    · next tested =>
      rw [Bool.and_eq_true, Gtu.stands_iff, roles p] at tested
      have primary := tested.1.1
      split
      · exact coversOnly_setCover primary _ _ _
      · split
        · exact .refl g
        · exact coversOnly_requeueOrClear primary
      all_goals exact .refl g
    · exact .refl g

theorem coversOnly_handshakeTwo (roles : ∀ n, (standing.entry n).role = (g.entry n).role) (p : Pos) :
    g.CoversOnly (Gtu.handshakeTwo standing r g p) := by
  unfold Gtu.handshakeTwo
  dsimp only
  split
  · exact .refl g
  · split
    · next tested =>
      simp only [Bool.and_eq_true, Gtu.stands_iff, roles p] at tested
      exact coversOnly_setCover tested.1.1.1.1 _ _ _
    · exact .refl g

theorem coversOnly_passes (roles : ∀ n, (standing.entry n).role = (g.entry n).role) :
    g.CoversOnly (allPos.foldl (Gtu.handshakeTwo standing r) (allPos.foldl (Gtu.handshakeOne standing r) g)) := by
  have agrees {h : Gtu} (kept : g.CoversOnly h) (n : Pos) : (standing.entry n).role = (h.entry n).role := by rw [kept.role, roles]
  exact Gtu.foldl_keeps (P := fun h => g.CoversOnly h) (fun h p kept => kept.trans (coversOnly_handshakeTwo (agrees kept) p)) allPos _
    (Gtu.foldl_keeps (P := fun h => g.CoversOnly h) (fun h p kept => kept.trans (coversOnly_handshakeOne (agrees kept) p)) allPos g (.refl g))

end

theorem coversOnly_select (primary : (g.entry p).role = .primary) (b : Pos) (c : Cls) : g.CoversOnly (g.select p b c) := by
  cases held : g.holder b with
  | none =>
    rw [g.select_of_free held]
    exact (coversOnly_setCover primary _ _ _).trans (coversOnly_offList p)
  | some q =>
    rw [g.select_of_held held]
    have revoked := coversOnly_revoke ((Gtu.holds_iff q b).mp (Gtu.holder_holds held)).1
    exact (revoked.trans (coversOnly_setCover (by rw [revoked.role]; exact primary) _ _ _)).trans (coversOnly_offList p)

/-- The primary served and the backup it is given: one is on the list, the other a candidate for it. -/
theorem firstServed_some : ∀ {l : List Pos}, g.firstServed blk l = some (p, b) → p ∈ l ∧ g.choose blk p (g.entry p).cls = some b
  | [], served => by cases served
  | q :: l, served => by
    rw [Gtu.firstServed] at served
    cases chosen : g.choose blk q (g.entry q).cls with
    | none =>
      rw [chosen] at served
      obtain ⟨mem, choice⟩ := firstServed_some served
      exact ⟨List.mem_cons_of_mem q mem, choice⟩
    | some b' =>
      rw [chosen] at served
      cases served
      exact ⟨List.mem_cons_self, chosen⟩

theorem Gtu.candidate_selectable {c : Cls} (candidate : g.candidate blk p c b = true) : (g.entry p).role = .primary :=
  ((g.selectable_iff p).mp ((g.candidate_iff blk p b c).mp candidate).1).1

theorem Gtu.choose_primary {c : Cls} (chosen : g.choose blk p c = some b) : (g.entry p).role = .primary :=
  Gtu.candidate_selectable (g.choose_candidate blk p c chosen)

theorem coversOnly_serveUpTo (blk : List Byte) (start : Gtu) : ∀ (n : Nat) (g : Gtu), g.CoversOnly (Gtu.serveUpTo blk start n g)
  | 0, g => .refl g
  | n + 1, g => by
    cases served : g.firstServed blk g.waitList with
    | none =>
      rw [g.serveUpTo_none blk start (n + 1) served]
      exact .refl g
    | some pb =>
      rw [g.serveUpTo_some blk start n pb.1 pb.2 served]
      have selected := coversOnly_select (Gtu.choose_primary (firstServed_some served).2) pb.2 (g.entry pb.1).cls
      exact (selected.trans (coversOnly_orderRequeues start)).trans (coversOnly_serveUpTo blk start n _)

/-! ## EMPTY entries -/

/-- The EMPTY entries of `g` stand as they did in `h`. -/
def Gtu.EmptyKept (g h : Gtu) : Prop := ∀ n, (g.entry n).role = .empty → h.entry n = g.entry n

theorem Gtu.EmptyKept.refl (g : Gtu) : g.EmptyKept g := fun _ _ => rfl

theorem Gtu.EmptyKept.trans (first : g.EmptyKept h) (second : h.EmptyKept i) : g.EmptyKept i := fun n empty =>
  (second n (by rw [first n empty, empty])).trans (first n empty)

theorem Gtu.CoversOnly.emptyKept (only : g.CoversOnly h) : g.EmptyKept h := fun n empty => (only n).2 (by rw [empty]; decide)

theorem emptyKept_settle : g.EmptyKept g.settle := fun _ empty => Gtu.entry_settle_empty empty

theorem emptyKept_settleFrom (start : Gtu) : g.EmptyKept (g.settleFrom start) := (coversOnly_orderRequeues start).emptyKept.trans emptyKept_settle

theorem emptyKept_mapEntries {f : Pos → Entry → Entry} (kept : ∀ n e, e.role = .empty → f n e = e) : g.EmptyKept (g.mapEntries f) := fun n empty => by
  rw [Gtu.entry_mapEntries, kept n _ empty]

theorem Entry.track_empty (limit : Nat) (seen : Bool) {e : Entry} (empty : e.role = .empty) : e.track limit seen = e := by simp [Entry.track, empty]

theorem Entry.readFault_empty (x : Bool) {e : Entry} (empty : e.role = .empty) : e.readFault x = e := by simp [Entry.readFault, empty]

theorem Entry.readCondition_empty (c : Condition) {e : Entry} (empty : e.role = .empty) : e.readCondition c = e := by
  simp [Entry.readCondition, empty]

theorem emptyKept_presenceStage (blk : List Byte) (r : EpochRecord) (g : Gtu) : g.EmptyKept (g.presenceStage blk r) :=
  ((emptyKept_mapEntries fun _ _ empty => Entry.track_empty _ _ empty).trans (coversOnly_foldl coversOnly_applyLoss _ _).emptyKept).trans
    (emptyKept_settleFrom g)

theorem emptyKept_faultStage (r : EpochRecord) (g : Gtu) : g.EmptyKept (g.faultStage r) :=
  ((emptyKept_mapEntries fun _ _ empty => Entry.readFault_empty _ empty).trans (coversOnly_foldl coversOnly_applyFault _ _).emptyKept).trans
    (emptyKept_settleFrom g)

theorem emptyKept_conditionStage (blk : List Byte) (r : EpochRecord) (g : Gtu) : g.EmptyKept (g.conditionStage blk r) :=
  ((emptyKept_mapEntries fun _ _ empty => Entry.readCondition_empty _ empty).trans
    ((coversOnly_foldl (coversOnly_applyCondition blk) _ _).trans (coversOnly_foldl coversOnly_applyBackupFailed _ _)).emptyKept).trans
    (emptyKept_settleFrom g)

theorem emptyKept_handshakeStage {standing : Gtu} {r : EpochRecord} (roles : ∀ n, (standing.entry n).role = (g.entry n).role) :
    g.EmptyKept (Gtu.handshakeStage standing r g) := (coversOnly_passes roles).emptyKept.trans (emptyKept_settleFrom g)

theorem emptyKept_serviceStage (blk : List Byte) (g : Gtu) : g.EmptyKept (g.serviceStage blk) :=
  (coversOnly_serveUpTo blk g 112 g).emptyKept.trans emptyKept_settle

theorem emptyKept_lockTo (configured : (g.entry p).role ≠ .empty) (x : Bool) : g.EmptyKept (g.lockTo p x) := fun n empty => by
  refine g.entry_setEntry_other ?_ _
  rintro rfl
  exact configured empty

/-- The row of a locked or unlocked entry keeps its role. -/
theorem Gtu.role_lockTo (p n : Pos) (x : Bool) (g : Gtu) : ((g.lockTo p x).entry n).role = (g.entry n).role :=
  congrArg Prod.fst (Gtu.standing_lockTo p n x g)

theorem Gtu.role_cases (e : Entry) (configured : e.role ≠ .empty) : e.role = .primary ∨ e.role = .backup := by
  cases role : e.role with
  | empty => exact absurd role configured
  | primary => exact .inl rfl
  | backup => exact .inr rfl

theorem emptyKept_grantLockout (configured : (g.entry p).role ≠ .empty) : g.EmptyKept (g.grantLockout p).1 := by
  have locks := emptyKept_lockTo (g := g) (p := p) configured true
  rcases Gtu.role_cases _ configured with primary | backup
  · rw [Gtu.grantLockout_primary primary]
    split
    · exact .refl g
    · dsimp only
      exact locks.trans (coversOnly_release (by rw [Gtu.role_lockTo, primary])).emptyKept
  · rw [Gtu.grantLockout_backup backup]
    dsimp only
    exact locks.trans (coversOnly_revokeHolders p).emptyKept

/-- An UNLOCK unlocks, and changes the class of a primary alone. -/
theorem Gtu.grantUnlock_cases (g : Gtu) (p : Pos) : (g.grantUnlock p).1 = g ∨ (g.grantUnlock p).1 = g.lockTo p false ∨
    ((g.entry p).role = .primary ∧ ∃ c, (g.grantUnlock p).1 = ((g.lockTo p false).setCls p c).arrive p ∨
      (g.grantUnlock p).1 = (g.lockTo p false).setCls p c) := by
  rw [Gtu.grantUnlock_eq]
  split
  · exact .inl rfl
  · split
    · next fit =>
      rw [Bool.and_eq_true, decide_eq_true_eq] at fit
      split
      · exact .inr (.inr ⟨fit.1, _, .inl rfl⟩)
      · dsimp only
        split
        · exact .inr (.inr ⟨fit.1, _, .inr rfl⟩)
        · exact .inr (.inl rfl)
      · exact .inr (.inl rfl)
    · exact .inr (.inl rfl)

theorem emptyKept_grantUnlock (configured : (g.entry p).role ≠ .empty) : g.EmptyKept (g.grantUnlock p).1 := by
  have unlocks := emptyKept_lockTo (g := g) (p := p) configured false
  rcases g.grantUnlock_cases p with same | unlocked | ⟨primary, c, claims | classed⟩
  · rw [same]
    exact .refl g
  · rw [unlocked]
    exact unlocks
  · rw [claims]
    exact unlocks.trans ((coversOnly_setCls (by rw [Gtu.role_lockTo, primary]) c).trans (coversOnly_arrive p)).emptyKept
  · rw [classed]
    exact unlocks.trans (coversOnly_setCls (by rw [Gtu.role_lockTo, primary]) c).emptyKept

theorem coversOnly_grantForce (blk : List Byte) (configured : (g.entry p).role ≠ .empty) : g.CoversOnly (g.grantForce blk p).1 := by
  rcases Gtu.role_cases _ configured with primary | backup
  · unfold Gtu.grantForce
    dsimp only
    split
    · exact .refl g
    split
    · exact .refl g
    split
    · exact .refl g
    split
    iterate 4
      · exact coversOnly_setCls primary _
    · split
      · split
        · exact .refl g
        · exact (coversOnly_setCls primary _).trans (coversOnly_arrive p)
      · split
        · exact coversOnly_select primary _ _
        · exact (coversOnly_setCls primary _).trans (coversOnly_arrive p)
  · rw [Gtu.grantForce_backup backup]
    exact .refl g

theorem coversOnly_grantManual (blk : List Byte) (g : Gtu) (p : Pos) : g.CoversOnly (g.grantManual blk p).1 := by
  unfold Gtu.grantManual
  dsimp only
  split
  · exact .refl g
  split
  · exact .refl g
  split
  · split
    · next chosen => exact coversOnly_select (Gtu.choose_primary chosen) _ _
    · exact .refl g
  · exact .refl g

theorem coversOnly_grantClear (configured : (g.entry p).role ≠ .empty) : g.CoversOnly (g.grantClear p).1 := by
  rcases Gtu.role_cases _ configured with primary | backup
  · unfold Gtu.grantClear
    dsimp only
    split
    · exact .refl g
    split
    · exact coversOnly_release primary
    · split
      · exact (coversOnly_setCls primary _).trans (coversOnly_arrive p)
      · exact coversOnly_setCls primary _
  · rw [Gtu.grantClear_refrains (.inl backup)]
    exact .refl g

theorem coversOnly_grantRestore (g : Gtu) (p : Pos) : g.CoversOnly (g.grantRestore p).1 := by
  unfold Gtu.grantRestore
  dsimp only
  split
  · next fit =>
    rw [Bool.and_eq_true, decide_eq_true_eq] at fit
    exact coversOnly_release fit.1
  · exact .refl g

theorem emptyKept_grantStage (blk : List Byte) (r : EpochRecord) (g : Gtu) : g.EmptyKept (g.grantStage blk r).1 := by
  unfold Gtu.grantStage
  split
  · exact .refl g
  · next v p _ =>
    dsimp only
    refine Gtu.EmptyKept.trans ?_ (emptyKept_settleFrom g)
    unfold Gtu.applyGrant
    split
    · exact .refl g
    · next configured =>
      cases v with
      | lockout => exact emptyKept_grantLockout configured
      | unlock => exact emptyKept_grantUnlock configured
      | force => exact (coversOnly_grantForce blk configured).emptyKept
      | manual => exact (coversOnly_grantManual blk g p).emptyKept
      | clear => exact (coversOnly_grantClear configured).emptyKept
      | restore => exact (coversOnly_grantRestore g p).emptyKept

/-- The table after the readings of an application: its presence, fault and condition stages. -/
def Gtu.read (blk : List Byte) (r : EpochRecord) (g : Gtu) : Gtu := ((g.presenceStage blk r).faultStage r).conditionStage blk r

theorem Gtu.role_read (blk : List Byte) (r : EpochRecord) (g : Gtu) (n : Pos) : ((g.read blk r).entry n).role = (g.entry n).role := by
  rw [Gtu.read, Entry.role_of_facts (Gtu.facts_conditionStage blk r _ n), Entry.readCondition_role, Entry.role_of_facts (Gtu.facts_faultStage r _ n),
    Entry.readFault_role, Entry.role_of_facts (Gtu.facts_presenceStage blk r g n), Entry.track_role]

/-- An application leaves EMPTY entries as they are. -/
theorem emptyKept_tableStages (blk : List Byte) (r : EpochRecord) (g : Gtu) : g.EmptyKept (g.tableStages blk r).1 := fun n empty => by
  have read := ((emptyKept_presenceStage blk r g).trans (emptyKept_faultStage r _)).trans (emptyKept_conditionStage blk r _)
  have roles (m : Pos) := (Gtu.role_read blk r g m).symm
  have granted := (read.trans (emptyKept_handshakeStage (r := r) roles)).trans (emptyKept_grantStage blk r _)
  have served := granted.trans (emptyKept_serviceStage blk _)
  rw [Gtu.tableStages_eq, Gtu.entry_sliceStage]
  exact served n empty

end

end Sys2Proof.Machine
end

section
/-! SUPPORT. The handshake asks the role of a primary of the table at the end of the comparison stage, and not of the table in hand (R93). -/

namespace Sys2Proof.Machine

open Sys2Proof.Safety

/-- Primary 0 takes backup 8. -/
def takingTable : Gtu :=
  (Gtu.cleared fun n => if n = 0 then .primary else if n = 8 then .backup else .empty).setCover 0 .taking (some 8) .force

/-- The same covers, with position 0 EMPTY. -/
def roleless : Gtu := takingTable.setEntry 0 { takingTable.entry 0 with role := .empty }

/-- A record whose cells are all recessive. -/
def silentRecord : EpochRecord := recordOf [] [] {} false .none State.reset.vbi.outgoing

/-- The assignment and the partner of position 0 stand as they did, the backup is not busy, and TAKING stays. -/
theorem handshake_roleless : ((Gtu.handshakeStage roleless silentRecord takingTable).entry 0).assignment = .taking := by decide +kernel

theorem roleless_tested : (takingTable.entry 0).role = .primary ∧ (takingTable.entry 0).partner = some 8 ∧
    (takingTable.entry 0).assignment = .taking ∧ (takingTable.entry 0).assignment = (roleless.entry 0).assignment ∧
    (takingTable.entry 0).partner = (roleless.entry 0).partner ∧ cellAt silentRecord.cells (48 + (8 : Pos).val) = false := by decide +kernel

/-- Refutes O34: the stage looks for the role in the standing table, in which the statement does not ask for it, so a primary that the standing table has as
EMPTY is not tested though it holds the assignment and the partner it held there. -/
theorem not_handshakeFollowsTheBusyCells : ¬ Obligations.HandshakeFollowsTheBusyCells := by
  intro follows
  obtain ⟨role, partner, taking, sameAssignment, samePartner, notBusy⟩ := roleless_tested
  obtain ⟨-, tested⟩ := follows roleless takingTable silentRecord 0 8 role partner
  obtain ⟨becomesActive, -⟩ := tested ⟨sameAssignment, samePartner⟩
  have active := (becomesActive taking (Bool.eq_false_iff.mp notBusy)).1
  rw [handshake_roleless] at active
  cases active

end Sys2Proof.Machine
end

section
/-! SUPPORT. The comparison's overwrite (R74 to R77) on the facts of the entries, and the laws of the table that need no more: settled tables (R61, R62, R71)
and the laws of presence (R61, R64 to R67). -/

namespace Sys2Proof.Machine

open Sys2Proof.Safety

section
variable {g h : Gtu} {k n : Pos} {d : Entry} {blk : List Byte} {r : EpochRecord}

/-! ## The overwrite -/

theorem Entry.ofSlice_role {role : Role} {w : BitVec 25} (decoded : Entry.ofSlice role w = some d) : d.role = role := by
  simp only [Entry.ofSlice] at decoded
  split at decoded
  · split at decoded
    · cases decoded
    · cases decoded
      rfl
  · cases decoded

/-- A slice that is read keeps the role of the entry it is written to. -/
theorem Entry.ofSlice_keeps_role {role : Role} {w : BitVec 25} (decoded : Entry.ofSlice role w = some d) : { d with role := role } = d := by
  rw [← Entry.ofSlice_role decoded]

theorem Gtu.entry_placeAtRank (k : Pos) (rank : Nat) (g : Gtu) (n : Pos) : (g.placeAtRank k rank).entry n = g.entry n := by
  rw [Gtu.entry, Gtu.entry, g.entries_placeAtRank]

theorem Gtu.facts_overwrite (k : Pos) (d : Entry) (g : Gtu) (n : Pos) :
    ((g.overwrite k d).entry n).facts = if n = k then { d with role := (g.entry k).role }.facts else (g.entry n).facts := by
  rw [Gtu.overwrite, Gtu.repair, Gtu.facts_settle, Gtu.facts_repairHolders, Gtu.facts_repairHolders, Gtu.facts_repairRivals, Gtu.facts_settle,
    Gtu.entry_placeAtRank, Gtu.entry_setEntry]
  split <;> rfl

/-- The three things a comparison can make of the table. -/
theorem Gtu.compareStage_cases (blk : List Byte) (np : Nat) (v : Option (Fin 16 × BitVec 25)) (g : Gtu) :
    (∃ k, g.compareStage blk np v = { g with sliceIndex := k }) ∨
    ∃ (k : Fin 16) (d : Entry), g.compareStage blk np v = ({ g with sliceIndex := k } : Gtu).overwrite k d ∧ d.role = (g.entry k).role ∧
      sliceOk blk np k d = true := by
  cases v with
  | none => exact .inl ⟨g.sliceIndex, rfl⟩
  | some kw =>
    obtain ⟨k, w⟩ := kw
    cases compared : g.compare k w with
    | matching => exact .inl ⟨g.sliceIndex, by simp [Gtu.compareStage, compared]⟩
    | indexOnly => exact .inl ⟨k, by simp [Gtu.compareStage, compared]⟩
    | differs =>
      have same : ({ g with sliceIndex := k } : Gtu).entry k = g.entry k := rfl
      cases decoded : Entry.ofSlice (g.entry k).role w with
      | none => exact .inl ⟨k, by simp [Gtu.compareStage, compared, same, decoded]⟩
      | some d =>
        by_cases ok : sliceOk blk np k d = true
        · exact .inr ⟨k, d, by simp [Gtu.compareStage, compared, same, decoded, ok], Entry.ofSlice_role decoded, ok⟩
        · exact .inl ⟨k, by simp [Gtu.compareStage, compared, same, decoded, ok]⟩

/-! ## The table settled -/

theorem Gtu.settle_overwrite (k : Pos) (d : Entry) (g : Gtu) : (g.overwrite k d).settle = g.overwrite k d := by
  rw [Gtu.overwrite, Gtu.repair, Gtu.settle_settle]

theorem Gtu.settle_sliceIndex (k : Fin 16) (g : Gtu) : ({ g with sliceIndex := k } : Gtu).settle = { g.settle with sliceIndex := k } := rfl

theorem Gtu.settle_sliceStage (g : Gtu) : g.sliceStage.settle = g.settle.sliceStage := rfl

theorem Gtu.settle_requested (a : ActState) (g : Gtu) : ({ g with requested := a } : Gtu).settle = { g.settle with requested := a } := rfl

theorem Gtu.role_overwrite (k : Pos) (d : Entry) (g : Gtu) (n : Pos) : ((g.overwrite k d).entry n).role = (g.entry n).role := by
  have facts := congrArg Prod.fst (g.facts_overwrite k d n)
  split at facts
  · next same =>
    rw [same] at facts ⊢
    exact facts
  · exact facts

theorem settled_cleared (blk : List Byte) : (Gtu.cleared (blockRole blk)).Settled blk := by
  refine ⟨fun n => by rw [Gtu.entry_cleared]; rfl, Gtu.eq_of_entries (fun n => ?_) rfl Gtu.sameRest_settle⟩
  rw [Gtu.entry_settle_free (fun m => ?_) (fun m mem => absurd mem List.not_mem_nil) (fun m => ?_), Gtu.entry_cleared]
  · rfl
  · rw [Gtu.entry_cleared]
    exact ⟨rfl, rfl⟩
  · rw [Gtu.entry_cleared]
    rfl

theorem Gtu.role_compareStage (np : Nat) (v : Option (Fin 16 × BitVec 25)) (n : Pos) : ((g.compareStage blk np v).entry n).role = (g.entry n).role := by
  rcases g.compareStage_cases blk np v with ⟨k, same⟩ | ⟨k, d, overwritten, -, -⟩
  · rw [same]
    rfl
  · rw [overwritten, Gtu.role_overwrite]
    rfl

theorem Gtu.role_found (blk : List Byte) (r : EpochRecord) (g : Gtu) (n : Pos) : ((g.found blk r).entry n).role = blockRole blk n := by
  rw [Gtu.found_eq, Entry.role_of_facts (Gtu.facts_serviceStage blk _ n), Gtu.foundingClaims_entry]
  exact (foundedEntry_free r n _).2.2.2.1

theorem tableLaw_settled : TableLaw Gtu.Settled where
  cleared := settled_cleared
  requested := fun a ⟨roles, settled⟩ => ⟨roles, by rw [Gtu.settle_requested a, settled]⟩
  compare := fun {own blk g} v _ ⟨roles, settled⟩ => by
    refine ⟨fun n => by rw [Gtu.role_compareStage, roles], ?_⟩
    rcases g.compareStage_cases blk (primariesOf blk) v with ⟨k, same⟩ | ⟨k, d, overwritten, -, -⟩
    · rw [same, Gtu.settle_sliceIndex, settled]
    · rw [overwritten, Gtu.settle_overwrite]
  stages := fun {own blk g} r _ ⟨roles, _⟩ => by
    refine ⟨fun n => by rw [Gtu.role_tableStages, roles], ?_⟩
    rw [Gtu.tableStages_eq, Gtu.settle_sliceStage, Gtu.settle_serviceStage]
  found := fun {own blk g} r _ => ⟨Gtu.role_found blk r g, by rw [Gtu.found_eq, Gtu.settle_serviceStage]⟩

/-! ## The laws of presence -/

/-- The laws of a configured entry's presence, for a loss threshold. -/
structure Entry.Paced (limit : Nat) (e : Entry) : Prop where
  known : e.presence ≠ .absent
  present : e.presence = .present → e.runCount < limit
  joining : e.presence = .joining → e.runCount = 1 ∨ e.runCount = 2
  lost : e.presence = .lost → e.runCount = 0 ∧ e.condition = .clear ∧ e.faulted = false

/-- EMPTY entries at their cleared value, and configured ones with the laws of presence. -/
def Gtu.PresentLawful (blk : List Byte) (g : Gtu) : Prop := ∀ n,
  ((g.entry n).role = .empty → g.entry n = Entry.cleared .empty) ∧ ((g.entry n).role ≠ .empty → (g.entry n).Paced (blockLossThreshold blk))

theorem Entry.Paced.of_standing {limit : Nat} {e e' : Entry} (same : e'.standing = e.standing) (paced : e.Paced limit) : e'.Paced limit := by
  simp only [Entry.standing, Prod.mk.injEq] at same
  obtain ⟨-, presence, runCount, condition, faulted⟩ := same
  obtain ⟨known, present, joining, lost⟩ := paced
  constructor <;> simpa only [presence, runCount, condition, faulted]

theorem Entry.paced_cleared {limit : Nat} {role : Role} (configured : role ≠ .empty) : (Entry.cleared role).Paced limit := by
  have lost : (Entry.cleared role).presence = .lost := if_neg configured
  exact ⟨by rw [lost]; decide, fun present => (by rw [lost] at present; cases present), fun joining => (by rw [lost] at joining; cases joining),
    fun _ => ⟨rfl, rfl, rfl⟩⟩

/-- One record read into the presence of a configured entry (the table of R64). -/
theorem Entry.track_cases {limit : Nat} {seen : Bool} {e : Entry} (configured : e.role ≠ .empty) :
    (e.presence = .absent → e.track limit seen = e) ∧
    (e.presence = .present → seen = true → e.track limit seen = { e with runCount := 0 }) ∧
    (e.presence = .present → seen = false → e.track limit seen = if e.runCount + 1 < limit then { e with runCount := e.runCount + 1 } else
      { e with presence := .lost, runCount := 0, condition := .clear, faulted := false }) ∧
    (e.presence = .lost → seen = true → e.track limit seen = { e with presence := .joining, runCount := 1 }) ∧
    (e.presence = .lost → seen = false → e.track limit seen = { e with runCount := 0 }) ∧
    (e.presence = .joining → seen = true → e.track limit seen = if e.runCount + 1 < 3 then { e with runCount := e.runCount + 1 } else
      { e with presence := .present, runCount := 0 }) ∧
    (e.presence = .joining → seen = false → e.track limit seen =
      { e with presence := .lost, runCount := 0, condition := .clear, faulted := false }) := by
  have role := Gtu.role_cases e configured
  refine ⟨fun p => ?_, fun p s => ?_, fun p s => ?_, fun p s => ?_, fun p s => ?_, fun p s => ?_, fun p s => ?_⟩ <;>
    rcases role with role | role <;> simp [Entry.track, *]

/-- The first reading keeps the laws of presence, with a threshold of at least 1. -/
theorem Entry.paced_track {limit : Nat} (seen : Bool) {e : Entry} (some_limit : 0 < limit) (configured : e.role ≠ .empty) (paced : e.Paced limit) :
    (e.track limit seen).Paced limit := by
  obtain ⟨-, presentSeen, presentMissed, lostSeen, lostMissed, joiningSeen, joiningMissed⟩ := Entry.track_cases (limit := limit) (seen := seen) configured
  have nowLost : ({ e with presence := .lost, runCount := 0, condition := .clear, faulted := false } : Entry).Paced limit :=
    ⟨nofun, nofun, nofun, fun _ => ⟨rfl, rfl, rfl⟩⟩
  cases presence : e.presence with
  | absent => exact absurd presence paced.known
  | present =>
    cases seen with
    | true =>
      rw [presentSeen presence rfl]
      exact ⟨paced.known, fun _ => some_limit, fun joining => (by cases presence.symm.trans joining), fun lost => (by cases presence.symm.trans lost)⟩
    | false =>
      rw [presentMissed presence rfl]
      split
      · next few =>
        exact ⟨paced.known, fun _ => few, fun joining => (by cases presence.symm.trans joining), fun lost => (by cases presence.symm.trans lost)⟩
      · exact nowLost
  | lost =>
    cases seen with
    | true =>
      rw [lostSeen presence rfl]
      exact ⟨nofun, nofun, fun _ => .inl rfl, nofun⟩
    | false =>
      rw [lostMissed presence rfl]
      exact ⟨paced.known, fun present => (by cases presence.symm.trans present), fun joining => (by cases presence.symm.trans joining),
        fun lost => ⟨rfl, (paced.lost lost).2⟩⟩
  | joining =>
    cases seen with
    | true =>
      rw [joiningSeen presence rfl]
      split
      · next few =>
        refine ⟨paced.known, fun present => (by cases presence.symm.trans present), fun _ => ?_, fun lost => (by cases presence.symm.trans lost)⟩
        have counted := paced.joining presence
        show e.runCount + 1 = 1 ∨ e.runCount + 1 = 2
        omega
      · exact ⟨nofun, fun _ => some_limit, nofun, nofun⟩
    | false =>
      rw [joiningMissed presence rfl]
      exact nowLost

/-- The later readings look at a present or joining position, and find a lost one as it is. -/
theorem Entry.paced_reading {limit : Nat} {e e' : Entry} (presence : e'.presence = e.presence) (runCount : e'.runCount = e.runCount)
    (lost : e.presence = .lost → e.condition = .clear ∧ e.faulted = false → e'.condition = .clear ∧ e'.faulted = false) (paced : e.Paced limit) :
    e'.Paced limit := by
  obtain ⟨known, present, joining, lostBefore⟩ := paced
  refine ⟨by rw [presence]; exact known, fun p => ?_, fun j => ?_, fun l => ?_⟩
  · rw [runCount]
    exact present (presence.symm.trans p)
  · rw [runCount]
    exact joining (presence.symm.trans j)
  · obtain ⟨count, rest⟩ := lostBefore (presence.symm.trans l)
    rw [runCount]
    exact ⟨count, lost (presence.symm.trans l) rest⟩

theorem Entry.readFault_eq {x : Bool} {e : Entry} (configured : e.role ≠ .empty) : e.readFault x =
    { e with faulted := if e.presence = .present ∨ e.presence = .joining then x else false } := by
  rcases Gtu.role_cases e configured with role | role <;> cases presence : e.presence <;> simp [Entry.readFault, role, presence]

theorem Entry.readCondition_eq {c : Condition} {e : Entry} (configured : e.role ≠ .empty) : e.readCondition c =
    { e with condition := if e.presence = .present ∨ e.presence = .joining then c else .clear } := by
  rcases Gtu.role_cases e configured with role | role <;> cases presence : e.presence <;> simp [Entry.readCondition, role, presence]

theorem Entry.paced_readings {e : Entry} (n : Pos) (some_limit : 0 < blockLossThreshold blk) (configured : e.role ≠ .empty)
    (paced : e.Paced (blockLossThreshold blk)) : (e.readings blk r n).Paced (blockLossThreshold blk) := by
  have tracked := Entry.paced_track (r.presence n) some_limit configured paced
  have role : (e.track (blockLossThreshold blk) (r.presence n)).role ≠ .empty := by
    rw [Entry.track_role]
    exact configured
  rw [Entry.readings]
  generalize e.track (blockLossThreshold blk) (r.presence n) = read at tracked role ⊢
  rw [Entry.readCondition_eq (by rw [Entry.readFault_role]; exact role), Entry.readFault_eq role]
  exact Entry.paced_reading (e := read) rfl rfl (fun lost _ => by simp [lost]) tracked

theorem blockValid_threshold {own : Pos} (valid : blockValid own blk = true) : 0 < blockLossThreshold blk := by
  simp only [blockValid, Bool.and_eq_true, decide_eq_true_eq] at valid
  omega

theorem Entry.paced_foundedEntry {limit : Nat} {role : Role} (some_limit : 0 < limit) (configured : role ≠ .empty) :
    (foundedEntry r n role).Paced limit := by
  by_cases seen : cellAt r.cells n.val = true
  · rw [foundedEntry_present configured seen]
    exact ⟨nofun, fun _ => some_limit, nofun, nofun⟩
  · rw [foundedEntry_absent (.inr (Bool.eq_false_iff.mpr seen))]
    exact Entry.paced_cleared configured

/-- A slice that passes its checks keeps the laws of presence. -/
theorem sliceOk_present {np : Nat} (ok : sliceOk blk np k d = true) :
    (d.role = .empty → d = Entry.cleared .empty) ∧ (d.role ≠ .empty → d.Paced (blockLossThreshold blk)) := by
  obtain ⟨empty, configured, -, -⟩ := (sliceOk_iff blk np k d).mp ok
  refine ⟨empty, fun role => ?_⟩
  obtain ⟨known, lost, joining, present, -⟩ := configured role
  exact ⟨known, present, joining, lost⟩

/-- The entry of an EMPTY position is left by a repair: it has no cover. -/
theorem emptyKept_repair (k : Pos) : g.EmptyKept (g.repair k) := by
  refine Gtu.EmptyKept.trans (fun n empty => ?_) emptyKept_settle
  obtain ⟨-, kept⟩ := g.repair_steps k n
  have idle (b : Pos) : g.holds n b = false := Bool.eq_false_iff.mpr fun held => by
    have primary := ((Gtu.holds_iff n b).mp held).1
    rw [empty] at primary
    cases primary
  have undropped (b : Pos) : g.drops n b = false := Bool.eq_false_iff.mpr fun drops => by
    have primary := ((Gtu.drops_iff n b).mp drops).1
    rw [empty] at primary
    cases primary
  refine (kept ?_ ?_).1
  · rintro ⟨-, b, ⟨-, held⟩ | ⟨-, drops⟩⟩
    · rw [idle b] at held
      cases held
    · rw [undropped b] at drops
      cases drops
  · rintro ⟨b, held, -⟩
    rw [idle b] at held
    cases held

theorem presentLawful_overwrite {np : Nat} (ok : sliceOk blk np k d = true) (role : d.role = (g.entry k).role) (lawful : g.PresentLawful blk) :
    (g.overwrite k d).PresentLawful blk := by
  intro n
  have facts := g.facts_overwrite k d n
  have same : ({ d with role := (g.entry k).role } : Entry) = d := by rw [← role]
  rw [same] at facts
  obtain ⟨empty, paced⟩ := lawful n
  refine ⟨fun isEmpty => ?_, fun configured => ?_⟩
  · rw [Gtu.role_overwrite] at isEmpty
    have before : ((g.setEntry k d).entry n) = Entry.cleared .empty := by
      rw [Gtu.entry_setEntry]
      split
      · next here =>
        rw [here] at isEmpty
        exact (sliceOk_present ok).1 (role.trans isEmpty)
      · exact empty isEmpty
    have placed : ((g.setEntry k d).placeAtRank k d.waitRank).EmptyKept (((g.setEntry k d).placeAtRank k d.waitRank).settle.repair k) :=
      emptyKept_settle.trans (emptyKept_repair k)
    rw [Gtu.overwrite, same, placed n (by rw [Gtu.entry_placeAtRank, before]; rfl), Gtu.entry_placeAtRank, before]
  · rw [Gtu.role_overwrite] at configured
    split at facts
    · next here =>
      rw [here] at configured
      exact ((sliceOk_present ok).2 (by rw [role]; exact configured)).of_standing (Entry.standing_of_facts facts)
    · exact (paced configured).of_standing (Entry.standing_of_facts facts)

theorem tableLaw_present : TableLaw Gtu.PresentLawful where
  cleared := fun blk n => by
    rw [Gtu.entry_cleared]
    refine ⟨fun empty => ?_, fun configured => Entry.paced_cleared configured⟩
    rw [show blockRole blk n = .empty from empty]
  requested := fun _ lawful => lawful
  compare := fun {own blk g} v _ lawful => by
    rcases g.compareStage_cases blk (primariesOf blk) v with ⟨k, same⟩ | ⟨k, d, overwritten, role, ok⟩
    · rw [same]
      exact lawful
    · rw [overwritten]
      exact presentLawful_overwrite (g := { g with sliceIndex := k }) ok role lawful
  stages := fun {own blk g} r valid lawful n => by
    obtain ⟨empty, paced⟩ := lawful n
    rw [Gtu.role_tableStages]
    refine ⟨fun isEmpty => ?_, fun configured => ?_⟩
    · rw [emptyKept_tableStages blk r g n isEmpty, empty isEmpty]
    · exact (Entry.paced_readings n (blockValid_threshold valid) configured (paced configured)).of_standing (g.standing_tableStages blk r n)
  found := fun {own blk g} r valid n => by
    have founded := Entry.standing_of_facts (Gtu.facts_serviceStage blk (g.foundingClaims blk r) n)
    rw [Gtu.role_found, Gtu.found_eq]
    refine ⟨fun empty => ?_, fun configured => ?_⟩
    · have claims := (founding_claims blk r g n).2.1 empty
      rw [emptyKept_serviceStage blk _ n (by rw [claims]; rfl), claims]
    · refine (Entry.paced_foundedEntry (r := r) (n := n) (blockValid_threshold valid) configured).of_standing (founded.trans ?_)
      rw [Gtu.foundingClaims_entry]
      rfl

end

/-- Settles O55: every work on the table ends settled, with the roles of the block. -/
theorem stepKeepsTheTableSettled : Obligations.StepKeepsTheTableSettled := by
  intro s t lawful steps
  have laws := lawful
  obtain ⟨-, -, settled, -⟩ := laws
  obtain ⟨⟨-, held⟩, settledAfter⟩ := tableLaw_settled.step lawful settled steps
  exact ⟨held, settledAfter⟩

/-- Settles O57: the readings of a record, a slice that passed its checks and a founding keep the laws of presence, and covers do not touch them. -/
theorem stepKeepsThePresenceLaws : Obligations.StepKeepsThePresenceLaws := by
  intro s t lawful steps
  have laws := lawful
  obtain ⟨-, -, -, -, -, present, -⟩ := laws
  obtain ⟨-, presentAfter⟩ := tableLaw_present.step lawful (fun n => ⟨(present n).1, fun configured => by
    obtain ⟨known, few, joining, lost⟩ := (present n).2 configured
    exact ⟨known, few, joining, lost⟩⟩) steps
  intro n
  obtain ⟨empty, paced⟩ := presentAfter n
  exact ⟨empty, fun configured => ⟨(paced configured).known, (paced configured).present, (paced configured).joining, (paced configured).lost⟩⟩

end Sys2Proof.Machine
end

section
/-! SUPPORT. The laws of covers and of the wait list (R62, R63, R68, R86, R94, R96) with exemptions, for the middle of a stage: what ending a cover, a class, an
arrival and a new cover keep of them. -/

namespace Sys2Proof.Machine

open Sys2Proof.Safety

/-- What a backup must be to be held. -/
def Entry.Fit (e : Entry) : Prop := e.presence = .present ∧ e.locked = false ∧ e.faulted = false

/-- The laws of one position. A backup of `unfit` may be held though it is not fit; a primary of `stale` may hold or wait though it is locked or not
PRESENT; a backup of `crowded` may be held though it is LOST. -/
structure Gtu.Position (unfit stale crowded : Pos → Prop) (g : Gtu) (p : Pos) : Prop where
  partnered : (g.entry p).role = .primary → ((g.entry p).partner.isSome = true ↔ (g.entry p).assignment ≠ .none)
  backed : (g.entry p).role = .primary → ∀ b, (g.entry p).partner = some b → (g.entry b).role = .backup
  unlocked : ∀ b, g.holds p b = true → ¬stale p → (g.entry p).locked = false
  fit : ∀ b, g.holds p b = true → ¬unfit b → (g.entry b).Fit
  heard : ∀ b, g.holds p b = true → ¬crowded b → (g.entry b).presence ≠ .lost
  listed : p ∈ g.waitList → (g.entry p).role = .primary ∧ (g.entry p).assignment = .none ∧ (g.entry p).cls.mayWait = true ∧
    (¬stale p → (g.entry p).presence = .present ∧ (g.entry p).locked = false)
  classed : (g.entry p).role = .primary → ((g.entry p).cls = .none ↔ (g.entry p).assignment = .none ∧ p ∉ g.waitList)

/-- The laws of a table's covers and wait list, with their exemptions; a backup of `crowded` may also be dropped by several primaries. -/
structure Gtu.Sound (unfit stale crowded : Pos → Prop) (g : Gtu) : Prop where
  position : ∀ p, g.Position unfit stale crowded p
  single : ∀ p q b, g.holds p b = true → g.holds q b = true → p = q
  dropped : ∀ p q b, ¬crowded b → g.drops p b = true → g.drops q b = true → p = q
  distinct : g.waitList.Nodup
  ordered : g.Ordered

/-- No exemption. -/
def nobody : Pos → Prop := fun _ => False

section
variable {unfit stale crowded : Pos → Prop} {g h : Gtu} {p q b : Pos}

theorem nobody_not : ¬nobody p := id

/-- Without exemptions these are the laws of a lawful table. -/
theorem sound_iff : g.Sound nobody nobody nobody ↔ CoversLawful g ∧ WaitListLawful g := by
  constructor
  · rintro ⟨position, single, dropped, distinct, ordered⟩
    refine ⟨⟨fun p => (position p).partnered, fun p b role => (position p).backed role b, single, fun p q b => dropped p q b nobody_not,
      fun p b held => ?_⟩, distinct, fun p mem => ?_, ordered, fun p => (position p).classed⟩
    · obtain ⟨presence, unlocked, fault⟩ := (position p).fit b held nobody_not
      exact ⟨presence, unlocked, fault, (position p).unlocked b held nobody_not⟩
    · obtain ⟨role, free, waits, fit⟩ := (position p).listed mem
      obtain ⟨presence, unlocked⟩ := fit nobody_not
      exact ⟨role, presence, unlocked, free, waits⟩
  · rintro ⟨⟨partnered, backed, single, dropped, holding⟩, distinct, listed, ordered, classed⟩
    refine ⟨fun p => ⟨partnered p, fun role b => backed p b role, fun b held _ => ?_, fun b held _ => ?_, fun b held _ => ?_, fun mem => ?_, classed p⟩,
      single, fun p q b _ => dropped p q b, distinct, ordered⟩
    · obtain ⟨-, -, -, unlocked⟩ := holding p b held
      exact unlocked
    · obtain ⟨presence, unlocked, fault, -⟩ := holding p b held
      exact ⟨presence, unlocked, fault⟩
    · obtain ⟨presence, -⟩ := holding p b held
      rw [presence]
      decide
    · obtain ⟨role, presence, unlocked, free, waits⟩ := listed p mem
      exact ⟨role, free, waits, fun _ => ⟨presence, unlocked⟩⟩

/-! ## What a change elsewhere leaves -/

theorem Gtu.CoversOnly.present (only : g.CoversOnly h) (n : Pos) : (h.entry n).presence = (g.entry n).presence ∧
    (h.entry n).locked = (g.entry n).locked ∧ (h.entry n).faulted = (g.entry n).faulted := by
  have facts := (only n).1
  simp only [Entry.facts, Prod.mk.injEq] at facts
  obtain ⟨-, presence, -, -, locked, faulted⟩ := facts
  exact ⟨presence, locked, faulted⟩

theorem Gtu.CoversOnly.fit (only : g.CoversOnly h) (n : Pos) : (h.entry n).Fit ↔ (g.entry n).Fit := by
  obtain ⟨presence, locked, faulted⟩ := only.present n
  rw [Entry.Fit, Entry.Fit, presence, locked, faulted]

theorem Gtu.Position.kept (only : g.CoversOnly h) (kept : g.KeptAt h p) (laws : g.Position unfit stale crowded p) :
    h.Position unfit stale crowded p := by
  obtain ⟨entry, list⟩ := kept
  obtain ⟨partnered, backed, unlocked, fit, heard, listed, classed⟩ := laws
  have holds (b : Pos) : h.holds p b = g.holds p b := Gtu.holds_congr entry b
  refine ⟨by rw [entry]; exact partnered, ?_, fun b held => ?_, fun b held exempt => ?_, fun b held exempt => ?_, ?_, by rw [entry, list]; exact classed⟩
  · rw [entry]
    intro role b partner
    rw [only.role]
    exact backed role b partner
  · rw [holds] at held
    rw [entry]
    exact unlocked b held
  · rw [holds] at held
    exact (only.fit b).mpr (fit b held exempt)
  · rw [holds] at held
    rw [(only.present b).1]
    exact heard b held exempt
  · rw [entry, list]
    exact listed

theorem Gtu.ClearedAt.idle (cleared : g.ClearedAt h p) (b : Pos) : h.holds p b = false ∧ h.drops p b = false := by
  have none : (h.entry p).partner = none := by rw [cleared.1]
  constructor <;> refine Bool.eq_false_iff.mpr fun related => ?_
  · obtain ⟨-, -, partner⟩ := (Gtu.holds_iff p b).mp related
    rw [none] at partner
    cases partner
  · obtain ⟨-, -, partner⟩ := (Gtu.drops_iff p b).mp related
    rw [none] at partner
    cases partner

theorem Gtu.ClearedAt.position (cleared : g.ClearedAt h p) : h.Position unfit stale crowded p := by
  obtain ⟨entry, off⟩ := cleared
  have idle (b : Pos) : ¬h.holds p b = true := by
    rw [(Gtu.ClearedAt.idle ⟨entry, off⟩ b).1]
    exact Bool.false_ne_true
  refine ⟨fun _ => ?_, fun _ b partner => ?_, fun b held => absurd held (idle b), fun b held => absurd held (idle b), fun b held => absurd held (idle b),
    fun mem => absurd mem off, fun _ => ?_⟩
  · rw [entry]
    exact ⟨nofun, fun covered => absurd rfl covered⟩
  · rw [entry] at partner
    cases partner
  · rw [entry]
    exact ⟨fun _ => ⟨rfl, off⟩, fun _ => rfl⟩

/-- Every other position is as it was, or cleared. -/
def Gtu.OthersStay (g h : Gtu) (p : Pos) : Prop := ∀ q, q ≠ p → g.KeptAt h q ∨ g.ClearedAt h q

theorem Gtu.OthersStay.holds (others : g.OthersStay h p) (other : q ≠ p) (held : h.holds q b = true) : g.holds q b = true := by
  rcases others q other with kept | cleared
  · rwa [Gtu.holds_congr kept.1] at held
  · rw [(cleared.idle b).1] at held
    cases held

theorem Gtu.OthersStay.drops (others : g.OthersStay h p) (other : q ≠ p) (drops : h.drops q b = true) : g.drops q b = true := by
  rcases others q other with kept | cleared
  · rwa [Gtu.drops_congr kept.1] at drops
  · rw [(cleared.idle b).2] at drops
    cases drops

/-- A change at one position alone, but for others cleared, keeps the laws when that position has them. -/
theorem Gtu.Sound.change (sound : g.Sound unfit stale crowded) (only : g.CoversOnly h) (others : g.OthersStay h p)
    (own : h.Position unfit stale crowded p) (held : ∀ b, h.holds p b = true → ∀ q, q ≠ p → ¬g.holds q b = true)
    (dropped : ∀ b, ¬crowded b → h.drops p b = true → ∀ q, q ≠ p → ¬h.drops q b = true) (distinct : h.waitList.Nodup) (ordered : h.Ordered) :
    h.Sound unfit stale crowded := by
  refine ⟨fun q => ?_, fun q q' b first second => ?_, fun q q' b exempt first second => ?_, distinct, ordered⟩
  · by_cases same : q = p
    · rw [same]
      exact own
    · rcases others q same with kept | cleared
      · exact (sound.position q).kept only kept
      · exact cleared.position
  · by_cases same : q = p
    · by_cases same' : q' = p
      · rw [same, same']
      · exact absurd (others.holds same' second) (held b (same ▸ first) q' same')
    · by_cases same' : q' = p
      · exact absurd (others.holds same first) (held b (same' ▸ second) q same)
      · exact sound.single q q' b (others.holds same first) (others.holds same' second)
  · by_cases same : q = p
    · by_cases same' : q' = p
      · rw [same, same']
      · exact absurd second (dropped b exempt (same ▸ first) q' same')
    · by_cases same' : q' = p
      · exact absurd first (dropped b exempt (same' ▸ second) q same)
      · exact sound.dropped q q' b exempt (others.drops same first) (others.drops same' second)

/-- A part of a list in order, of entries that stay, is in order. -/
theorem ordered_of_sublist (sub : h.waitList.Sublist g.waitList) (same : ∀ q ∈ h.waitList, h.entry q = g.entry q) (ordered : g.Ordered) :
    h.Ordered := by
  refine List.Pairwise.imp_of_mem (fun {a b} memA memB order => ?_) (ordered.sublist sub)
  rw [Gtu.rankClass, Gtu.rankClass, same a memA, same b memB]
  exact order

/-! ## Clearing -/

theorem Gtu.idle_of_none (free : (g.entry p).assignment = .none) (b : Pos) : ¬g.holds p b = true ∧ ¬g.drops p b = true := by
  constructor <;> intro related
  · have engaged := ((Gtu.holds_iff p b).mp related).2.1
    rw [free] at engaged
    cases engaged
  · have dropping := ((Gtu.drops_iff p b).mp related).2.1
    rw [free] at dropping
    cases dropping

theorem sound_clearPrimary (sound : g.Sound unfit stale crowded) (primary : (g.entry p).role = .primary) :
    (g.clearPrimary p).Sound unfit stale crowded := by
  have cleared := g.clearedAt_clearPrimary p
  have sub : (g.clearPrimary p).waitList.Sublist g.waitList := List.filter_sublist
  refine sound.change (p := p) (coversOnly_clearPrimary primary) (fun q other => .inl (Gtu.keptAt_clearPrimary (Ne.symm other))) cleared.position
    (fun b held => ?_) (fun b _ drops => ?_) (sound.distinct.sublist sub) (ordered_of_sublist sub (fun q mem => ?_) sound.ordered)
  · rw [(cleared.idle b).1] at held
    cases held
  · rw [(cleared.idle b).2] at drops
    cases drops
  · exact Gtu.entry_clearPrimary_other fun same => cleared.2 (same ▸ mem)

/-! ## Arrivals and requeues -/

/-- A list in order, but for one position, when the others' entries stay. -/
theorem ordered_offList (list : h.waitList = g.waitList) (others : ∀ q, q ≠ p → h.entry q = g.entry q) (ordered : g.Ordered) : (h.offList p).Ordered := by
  refine ordered_of_sublist (g := g) ?_ (fun q mem => ?_) ordered
  · rw [← list]
    exact List.filter_sublist
  · rw [Gtu.entry_offList]
    exact others q (Gtu.mem_offList.mp mem).1

/-- A primary free to wait, put on the list in its order. -/
theorem sound_waits {h' : Gtu} (sound : g.Sound unfit stale crowded) (primary : (g.entry p).role = .primary)
    (presence : (g.entry p).presence = .present) (unlocked : (g.entry p).locked = false) (only : g.CoversOnly h')
    (others : ∀ q, q ≠ p → h'.entry q = g.entry q) {c : Cls} (waits : c.mayWait = true)
    (own : h'.entry p = { g.entry p with assignment := .none, partner := none, cls := c })
    (list : ∀ q, q ∈ h'.waitList ↔ q = p ∨ q ∈ g.waitList) (distinct : h'.waitList.Nodup) (ordered : h'.Ordered) : h'.Sound unfit stale crowded := by
  have free : (h'.entry p).assignment = .none := by rw [own]
  have idle (b : Pos) := Gtu.idle_of_none free b
  have mem : p ∈ h'.waitList := (list p).mpr (.inl rfl)
  refine sound.change (p := p) only (fun q other => .inl ⟨others q other, (list q).trans (or_iff_right other)⟩)
    ⟨fun _ => ?_, fun _ b partner => ?_, fun b held => absurd held (idle b).1, fun b held => absurd held (idle b).1,
      fun b held => absurd held (idle b).1, fun _ => ?_, fun _ => ?_⟩
    (fun b held => absurd held (idle b).1) (fun b _ drops => absurd drops (idle b).2) distinct ordered
  · rw [own]
    exact ⟨nofun, fun covered => absurd rfl covered⟩
  · rw [own] at partner
    cases partner
  · rw [own]
    exact ⟨primary, rfl, waits, fun _ => ⟨presence, unlocked⟩⟩
  · rw [own]
    refine ⟨fun unclassed => ?_, fun off => absurd mem off.2⟩
    rw [show c = .none from unclassed] at waits
    cases waits

theorem sound_requeueOrClear (sound : g.Sound unfit stale crowded) (primary : (g.entry p).role = .primary) :
    (g.requeueOrClear p).Sound unfit stale crowded := by
  rcases g.requeueOrClear_cases p with ⟨presence, unlocked, waits, requeued⟩ | ⟨-, cleared⟩
  · have only := coversOnly_requeueOrClear primary
    rw [requeued] at only ⊢
    refine sound_waits sound primary presence unlocked only (fun q other => ?_) waits ?_ (fun q => ?_) (Gtu.nodup_requeue sound.distinct) ?_
    · rw [Gtu.entry_requeue, Gtu.entry_setCover_other other]
    · rw [Gtu.entry_requeue, Gtu.entry_setCover_self]
    · exact Gtu.mem_requeue _ p q
    · exact Gtu.ordered_requeue (ordered_offList (g := g) rfl (fun q other => Gtu.entry_setCover_other other _ _ _) sound.ordered)
  · rw [cleared]
    exact sound_clearPrimary sound primary

/-- An arrival of a PRESENT, unlocked primary in NONE, with a class that may wait. -/
theorem sound_arrive (sound : g.Sound unfit stale crowded) (primary : (g.entry p).role = .primary) (presence : (g.entry p).presence = .present)
    (unlocked : (g.entry p).locked = false) (free : (g.entry p).assignment = .none) {c : Cls} (waits : c.mayWait = true) :
    ((g.setCls p c).arrive p).Sound unfit stale crowded := by
  have partnerless : (g.entry p).partner = none := by
    have none := (sound.position p).partnered primary
    rw [free] at none
    simpa using none
  refine sound_waits sound primary presence unlocked ((coversOnly_setCls primary c).trans (coversOnly_arrive p)) (fun q other => ?_) waits ?_
    (fun q => Gtu.mem_arrive) (Gtu.nodup_arrive sound.distinct) ?_
  · rw [Gtu.entry_arrive, Gtu.entry_setCls_other other]
  · rw [Gtu.entry_arrive, Gtu.entry_setCls_self, ← free, ← partnerless]
  · exact Gtu.ordered_arrive (ordered_offList (g := g) rfl (fun q other => Gtu.entry_setCls_other other _) sound.ordered)

/-! ## A cover in place -/

/-- A primary off the list is given a cover, or another stage of its cover. -/
theorem sound_setCover (sound : g.Sound unfit stale crowded) (primary : (g.entry p).role = .primary) (off : p ∉ g.waitList) {a : Assignment} {c : Cls}
    (covers : a ≠ .none) (classed : c ≠ .none) (backup : (g.entry b).role = .backup)
    (engaged : a.engaged = true → (¬stale p → (g.entry p).locked = false) ∧ (¬unfit b → (g.entry b).Fit) ∧
      (¬crowded b → (g.entry b).presence ≠ .lost) ∧ ∀ q, q ≠ p → ¬g.holds q b = true)
    (dropping : a = .dropping → ¬crowded b → ∀ q, q ≠ p → ¬g.drops q b = true) : (g.setCover p a (some b) c).Sound unfit stale crowded := by
  have own : (g.setCover p a (some b) c).entry p = { g.entry p with assignment := a, partner := some b, cls := c } := Gtu.entry_setCover_self _ _ _
  have others : g.OthersStay (g.setCover p a (some b) c) p := fun q other => .inl ⟨Gtu.entry_setCover_other other _ _ _, Iff.rfl⟩
  have only := coversOnly_setCover primary a (some b) c
  have holding {b' : Pos} (held : (g.setCover p a (some b) c).holds p b' = true) : a.engaged = true ∧ b' = b := by
    have related := (Gtu.holds_iff p b').mp held
    rw [own] at related
    exact ⟨related.2.1, (Option.some.inj related.2.2).symm⟩
  have drops {b' : Pos} (drop : (g.setCover p a (some b) c).drops p b' = true) : a = .dropping ∧ b' = b := by
    have related := (Gtu.drops_iff p b').mp drop
    rw [own] at related
    exact ⟨related.2.1, (Option.some.inj related.2.2).symm⟩
  refine sound.change (p := p) only others
    ⟨fun _ => ?_, fun _ b' partner => ?_, fun b' held exempt => ?_, fun b' held exempt => ?_, fun b' held exempt => ?_, fun mem => absurd mem off, fun _ => ?_⟩
    (fun b' held q other => ?_) (fun b' exempt drop q other => ?_) sound.distinct ?_
  · rw [own]
    exact ⟨fun _ => covers, fun _ => rfl⟩
  · rw [own] at partner
    rw [only.role, ← Option.some.inj partner]
    exact backup
  · rw [own]
    exact (engaged (holding held).1).1 exempt
  · obtain ⟨engages, rfl⟩ := holding held
    exact (only.fit b').mpr ((engaged engages).2.1 exempt)
  · obtain ⟨engages, rfl⟩ := holding held
    rw [(only.present b').1]
    exact (engaged engages).2.2.1 exempt
  · rw [own]
    exact ⟨fun none => absurd none classed, fun both => absurd both.1 covers⟩
  · obtain ⟨engages, rfl⟩ := holding held
    exact (engaged engages).2.2.2 q other
  · obtain ⟨isDropping, rfl⟩ := drops drop
    rw [Gtu.drops_congr (Gtu.entry_setCover_other other _ _ _)]
    exact dropping isDropping exempt q other
  · refine ordered_of_sublist (g := g) (List.Sublist.refl _) (fun q mem => ?_) sound.ordered
    refine Gtu.entry_setCover_other ?_ _ _ _
    rintro rfl
    exact off mem

/-- A covered primary has a partner, a class and no place on the list. -/
theorem Gtu.Sound.covered (sound : g.Sound unfit stale crowded) (primary : (g.entry p).role = .primary) (covers : (g.entry p).assignment ≠ .none) :
    (∃ b, (g.entry p).partner = some b ∧ (g.entry b).role = .backup) ∧ (g.entry p).cls ≠ .none ∧ p ∉ g.waitList := by
  obtain ⟨partnered, backed, -, -, -, listed, classed⟩ := sound.position p
  obtain ⟨b, partner⟩ := Option.isSome_iff_exists.mp ((partnered primary).mpr covers)
  refine ⟨⟨b, partner, backed primary b partner⟩, fun none => covers ((classed primary).mp none).1, fun mem => ?_⟩
  obtain ⟨-, free, -⟩ := listed mem
  exact covers free

/-- A covered primary goes on in another stage of its cover, or with another class. -/
theorem sound_goesOn (sound : g.Sound unfit stale crowded) (primary : (g.entry p).role = .primary) {a : Assignment} {c : Cls}
    (partner : (g.entry p).partner = some b) (classed : c ≠ .none)
    (same : (a.engaged = true ∧ (g.entry p).assignment.engaged = true) ∨ (a = .dropping ∧ (g.entry p).assignment = .dropping)) :
    (g.setCover p a (some b) c).Sound unfit stale crowded := by
  have covers : (g.entry p).assignment ≠ .none := by
    rcases same with ⟨-, engaged⟩ | ⟨-, dropping⟩
    · intro none
      rw [none] at engaged
      cases engaged
    · rw [dropping]
      decide
  obtain ⟨-, -, off⟩ := sound.covered primary covers
  obtain ⟨-, backed, unlocked, fit, heard, -, -⟩ := sound.position p
  refine sound_setCover sound primary off ?_ classed (backed primary b partner) (fun engaged => ?_) (fun dropping exempt q other drops => ?_)
  · rcases same with ⟨engaged, -⟩ | ⟨dropping, -⟩
    · intro none
      rw [none] at engaged
      cases engaged
    · rw [dropping]
      decide
  · rcases same with ⟨-, engagedBefore⟩ | ⟨dropping, -⟩
    · have held := (Gtu.holds_iff p b).mpr ⟨primary, engagedBefore, partner⟩
      exact ⟨unlocked b held, fit b held, heard b held, fun q other heldBy => other (sound.single q p b heldBy held)⟩
    · rw [dropping] at engaged
      cases engaged
  · rcases same with ⟨engaged, -⟩ | ⟨-, droppingBefore⟩
    · rw [dropping] at engaged
      cases engaged
    · exact other (sound.dropped q p b exempt drops ((Gtu.drops_iff p b).mpr ⟨primary, droppingBefore, partner⟩))

/-- A class replaced is a cover replaced. -/
theorem Gtu.setCls_eq (c : Cls) : g.setCls p c = g.setCover p (g.entry p).assignment (g.entry p).partner c := rfl

theorem sound_setCls (sound : g.Sound unfit stale crowded) (primary : (g.entry p).role = .primary) (covers : (g.entry p).assignment ≠ .none) {c : Cls}
    (classed : c ≠ .none) : (g.setCls p c).Sound unfit stale crowded := by
  obtain ⟨⟨b, partner, -⟩, -, -⟩ := sound.covered primary covers
  rw [Gtu.setCls_eq, partner]
  refine sound_goesOn sound primary partner classed ?_
  cases a : (g.entry p).assignment with
  | none => exact absurd a covers
  | dropping => exact .inr ⟨rfl, rfl⟩
  | yielding | taking | active => exact .inl ⟨rfl, rfl⟩

/-! ## DROPPING -/

theorem sound_clearRivals (sound : g.Sound unfit stale crowded) : (g.clearRivals p).Sound unfit stale crowded := by
  refine Gtu.foldl_keeps (P := fun h => h.Sound unfit stale crowded) (fun h q kept => ?_) allPos g sound
  split
  · next picked =>
    rw [Bool.and_eq_true] at picked
    have primary : (h.entry q).role = .primary := by
      cases partner : (g.entry p).partner with
      | none =>
        rw [partner] at picked
        cases picked.2
      | some b =>
        rw [partner] at picked
        exact ((Gtu.drops_iff q b).mp ((Gtu.dropsHeard_iff b).mp picked.2).1).1
    exact sound_clearPrimary kept primary
  · exact kept

theorem coversOnly_clearRivals : g.CoversOnly (g.clearRivals p) := by
  intro n
  refine ⟨?_, fun other => ((g.clearRivals_spec p n).2 fun displaced => other displaced.primary).1⟩
  refine Gtu.foldl_keeps (P := fun h => (h.entry n).facts = (g.entry n).facts) (fun h q kept => ?_) allPos g rfl
  split
  · rw [Gtu.facts_clearPrimary, kept]
  · exact kept

theorem sound_toDropping (sound : g.Sound unfit stale crowded) (primary : (g.entry p).role = .primary)
    (engaged : (g.entry p).assignment.engaged = true) {c : Cls} (classed : c ≠ .none) : (g.toDropping p c).Sound unfit stale crowded := by
  have covers : (g.entry p).assignment ≠ .none := by
    intro none
    rw [none] at engaged
    cases engaged
  obtain ⟨⟨b, partner, backup⟩, -, off⟩ := sound.covered primary covers
  have alone := (g.clearRivals_spec p p).2 fun displaced => displaced.1 rfl
  rw [Gtu.toDropping_eq, partner]
  refine sound_setCover (sound_clearRivals sound) (by rw [alone.1]; exact primary) (fun mem => off (alone.2.mp mem)) (by decide) classed
    (by rw [coversOnly_clearRivals.role]; exact backup) (fun engaged => by cases engaged) (fun _ exempt q other drops => ?_)
  have notLost := (sound.position p).heard b ((Gtu.holds_iff p b).mpr ⟨primary, engaged, partner⟩) exempt
  by_cases displaced : g.displaces p q
  · rw [(((g.clearRivals_spec p q).1 displaced).idle b).2] at drops
    cases drops
  · refine displaced ⟨other, b, partner, (Gtu.dropsHeard_iff b).mpr ⟨?_, notLost⟩⟩
    rwa [Gtu.drops_congr ((g.clearRivals_spec p q).2 displaced).1] at drops

/-! ## Revocation and release -/

theorem Cls.kept_ne_none (c : Cls) : (if c.mayWait then c else .hold) ≠ .none := by cases c <;> decide

theorem Assignment.engaged_of_acts {a : Assignment} (acts : a = .taking ∨ a = .active) : a.engaged = true := by rcases acts with rfl | rfl <;> rfl

theorem sound_revoke (sound : g.Sound unfit stale crowded) (primary : (g.entry p).role = .primary) : (g.revoke p).Sound unfit stale crowded := by
  rcases (g.entry p).assignment.ending with a | a | a | a
  · rwa [Gtu.revoke_rests (.inl a)]
  · rw [Gtu.revoke_yielding a]
    exact sound_requeueOrClear sound primary
  · rw [Gtu.revoke_acting a]
    exact sound_toDropping sound primary (Assignment.engaged_of_acts a) (Cls.kept_ne_none _)
  · rwa [Gtu.revoke_rests (.inr a)]

theorem sound_release (sound : g.Sound unfit stale crowded) (primary : (g.entry p).role = .primary) : (g.release p).Sound unfit stale crowded := by
  rcases (g.entry p).assignment.ending with a | a | a | a
  · by_cases waits : p ∈ g.waitList
    · rw [Gtu.release_waiting a waits]
      exact sound_clearPrimary sound primary
    · rwa [Gtu.release_free a waits]
  · rw [Gtu.release_yielding a]
    exact sound_clearPrimary sound primary
  · rw [Gtu.release_acting a]
    exact sound_toDropping sound primary (Assignment.engaged_of_acts a) (by decide)
  · rw [Gtu.release_dropping a]
    exact sound_setCls sound primary (by rw [a]; decide) (by decide)

theorem sound_revokeHolders (sound : g.Sound unfit stale crowded) (b : Pos) : (g.revokeHolders b).Sound unfit stale crowded := by
  refine Gtu.foldl_keeps (P := fun h => h.Sound unfit stale crowded) (fun h p kept => ?_) allPos g sound
  split
  · next held => exact sound_revoke kept ((Gtu.holds_iff p b).mp held).1
  · exact kept

theorem sound_endDroppings (sound : g.Sound unfit stale crowded) (b : Pos) : (g.endDroppings b).Sound unfit stale crowded := by
  refine Gtu.foldl_keeps (P := fun h => h.Sound unfit stale crowded) (fun h p kept => ?_) allPos g sound
  split
  · next drops => exact sound_requeueOrClear kept ((Gtu.drops_iff p b).mp drops).1
  · exact kept

/-! ## What a revocation ends -/

/-- A pass whose every step ends what it looks for at its own position, and begins it nowhere, ends it everywhere. -/
theorem foldl_ends {R : Gtu → Pos → Prop} {f : Gtu → Pos → Gtu} (own : ∀ g p, ¬R (f g p) p) (begins : ∀ g p q, R (f g p) q → R g q) (q : Pos) :
    ∀ (l : List Pos) (g : Gtu), (q ∈ l → ¬R (l.foldl f g) q) ∧ (R (l.foldl f g) q → R g q)
  | [], _ => ⟨fun mem => absurd mem List.not_mem_nil, id⟩
  | p :: l, g => by
    obtain ⟨ends, stays⟩ := foldl_ends own begins q l (f g p)
    refine ⟨fun mem related => ?_, fun related => begins g p q (stays related)⟩
    rcases List.mem_cons.mp mem with rfl | later
    · exact own g q (stays related)
    · exact ends later related

theorem Gtu.Ends.othersStay (ends : g.Ends p h)
    (list : ∀ q, q ≠ p → ¬(((g.entry p).assignment = .taking ∨ (g.entry p).assignment = .active) ∧ g.displaces p q) →
      (q ∈ h.waitList ↔ q ∈ g.waitList)) : g.OthersStay h p := fun q other => by
  by_cases displaced : ((g.entry p).assignment = .taking ∨ (g.entry p).assignment = .active) ∧ g.displaces p q
  · exact .inr (ends.cleared q displaced.1 displaced.2)
  · exact .inl ⟨ends.others q other displaced, list q other displaced⟩

theorem othersStay_requeueOrClear : g.OthersStay (g.requeueOrClear p) p := fun q other => by
  refine .inl ⟨Gtu.requeueOrClear_other other, ?_⟩
  rcases g.requeueOrClear_cases p with ⟨-, -, -, requeued⟩ | ⟨-, cleared⟩
  · rw [requeued, Gtu.mem_requeue]
    exact or_iff_right other
  · rw [cleared]
    exact (Gtu.keptAt_clearPrimary (Ne.symm other)).2

theorem othersStay_toDropping (c : Cls) : g.OthersStay (g.toDropping p c) p := fun q other => by
  by_cases displaced : g.displaces p q
  · exact .inr (Gtu.toDropping_cleared c displaced)
  · exact .inl (Gtu.toDropping_kept c other displaced)

theorem othersStay_revoke : g.OthersStay (g.revoke p) p := by
  rcases (g.entry p).assignment.ending with a | a | a | a
  · rw [Gtu.revoke_rests (.inl a)]
    exact fun q _ => .inl ⟨rfl, Iff.rfl⟩
  · rw [Gtu.revoke_yielding a]
    exact othersStay_requeueOrClear
  · rw [Gtu.revoke_acting a]
    exact othersStay_toDropping _
  · rw [Gtu.revoke_rests (.inr a)]
    exact fun q _ => .inl ⟨rfl, Iff.rfl⟩

theorem Gtu.requeueOrClear_free : ((g.requeueOrClear p).entry p).assignment = .none := by
  rcases g.requeueOrClear_cases p with ⟨-, -, -, requeued⟩ | ⟨-, cleared⟩
  · rw [requeued, Gtu.entry_requeue, Gtu.entry_setCover_self]
  · rw [cleared, (g.clearedAt_clearPrimary p).1]

/-- A revoked primary holds nothing. -/
theorem Gtu.revoke_unheld (b : Pos) : ¬(g.revoke p).holds p b = true := by
  intro held
  have engaged := ((Gtu.holds_iff p b).mp held).2.1
  rcases (g.entry p).assignment.ending with a | a | a | a
  · rw [Gtu.revoke_rests (.inl a), a] at engaged
    cases engaged
  · rw [Gtu.revoke_yielding a, Gtu.requeueOrClear_free] at engaged
    cases engaged
  · rw [Gtu.revoke_acting a, Gtu.toDropping_self] at engaged
    cases engaged
  · rw [Gtu.revoke_rests (.inr a), a] at engaged
    cases engaged

/-- A revocation begins no hold. -/
theorem Gtu.revoke_holds (held : (g.revoke p).holds q b = true) : g.holds q b = true := by
  by_cases same : q = p
  · rw [same] at held
    exact absurd held (Gtu.revoke_unheld b)
  · exact othersStay_revoke.holds same held

theorem Gtu.revokeHolders_unheld (b q : Pos) : ¬(g.revokeHolders b).holds q b = true := by
  refine (foldl_ends (R := fun h q => h.holds q b = true) (fun h p => ?_) (fun h p q held => ?_) q allPos g).1 (mem_allPos q)
  · split
    · exact Gtu.revoke_unheld b
    · assumption
  · split at held
    · exact Gtu.revoke_holds held
    · exact held

theorem Gtu.requeueOrClear_holds (held : (g.requeueOrClear p).holds q b = true) : g.holds q b = true := by
  by_cases same : q = p
  · rw [same] at held
    exact absurd held (Gtu.idle_of_none Gtu.requeueOrClear_free b).1
  · exact othersStay_requeueOrClear.holds same held

theorem Gtu.requeueOrClear_drops (drops : (g.requeueOrClear p).drops q b = true) : g.drops q b = true := by
  by_cases same : q = p
  · rw [same] at drops
    exact absurd drops (Gtu.idle_of_none Gtu.requeueOrClear_free b).2
  · exact othersStay_requeueOrClear.drops same drops

theorem Gtu.endDroppings_undropped (b q : Pos) : ¬(g.endDroppings b).drops q b = true := by
  refine (foldl_ends (R := fun h q => h.drops q b = true) (fun h p => ?_) (fun h p q drops => ?_) q allPos g).1 (mem_allPos q)
  · split
    · exact (Gtu.idle_of_none Gtu.requeueOrClear_free b).2
    · assumption
  · split at drops
    · exact Gtu.requeueOrClear_drops drops
    · exact drops

theorem Gtu.endDroppings_holds {b' : Pos} (held : (g.endDroppings b).holds q b' = true) : g.holds q b' = true := by
  refine Gtu.foldl_keeps (P := fun h => h.holds q b' = true → g.holds q b' = true) (fun h p kept heldAfter => ?_) allPos g id held
  split at heldAfter
  · exact kept (Gtu.requeueOrClear_holds heldAfter)
  · exact kept heldAfter

/-! ## Selection -/

/-- A PRESENT, unlocked primary in NONE is given a fit backup, whose holder is preempted. -/
theorem sound_select (sound : g.Sound unfit stale crowded) (primary : (g.entry p).role = .primary) (unlocked : (g.entry p).locked = false)
    (backup : (g.entry b).role = .backup) (fit : (g.entry b).Fit) {c : Cls} (classed : c ≠ .none) :
    (g.select p b c).Sound unfit stale crowded := by
  have notLost : (g.entry b).presence ≠ .lost := by
    rw [fit.1]
    decide
  have place (h : Gtu) (sound : h.Sound unfit stale crowded) (only : g.CoversOnly h) (unheld : ∀ q, ¬h.holds q b = true) :
      ((h.setCover p .yielding (some b) c).offList p).Sound unfit stale crowded := by
    have primary' : (h.entry p).role = .primary := by rw [only.role]; exact primary
    have cleared : (h.clearPrimary p).Sound unfit stale crowded := sound_clearPrimary sound primary'
    have stays := coversOnly_clearPrimary (g := h) primary'
    have same : (h.setCover p .yielding (some b) c).offList p = (h.clearPrimary p).setCover p .yielding (some b) c := by
      refine Gtu.eq_of_entries (fun n => ?_) rfl ⟨rfl, rfl⟩
      rw [Gtu.entry_offList, Gtu.entry_setCover, Gtu.entry_setCover]
      split
      · rw [(h.clearedAt_clearPrimary p).1]
      · next other => rw [Gtu.entry_clearPrimary_other (Ne.symm other)]
    rw [same]
    have all := only.trans stays
    refine sound_setCover cleared (by rw [all.role]; exact primary) (h.clearedAt_clearPrimary p).2 (by decide) classed
      (by rw [all.role]; exact backup) (fun _ => ⟨fun _ => ?_, fun _ => ?_, fun _ => ?_, fun q other held => ?_⟩) (fun dropping => by cases dropping)
    · rw [(all.present p).2.1]
      exact unlocked
    · exact (all.fit b).mpr fit
    · rw [(all.present b).1]
      exact notLost
    · rw [Gtu.holds_congr (Gtu.entry_clearPrimary_other (Ne.symm other))] at held
      exact unheld q held
  cases held : g.holder b with
  | none =>
    rw [g.select_of_free held]
    exact place g sound (.refl g) fun q heldBy => by
      rw [Gtu.holder_none.mp held q] at heldBy
      cases heldBy
  | some q =>
    rw [g.select_of_held held]
    have holds := Gtu.holder_holds held
    have role := ((Gtu.holds_iff q b).mp holds).1
    refine place (g.revoke q) (sound_revoke sound role) (coversOnly_revoke role) fun q' heldBy => ?_
    obtain rfl := sound.single q' q b (Gtu.revoke_holds heldBy) holds
    exact Gtu.revoke_unheld b heldBy

/-! ## The same covers, with other facts, or another place of the list -/

/-- A table with the covers of `g`, whose facts have changed only where the exemptions allow it. -/
theorem Gtu.Sound.carry {unfit' stale' crowded' : Pos → Prop} (sound : g.Sound unfit stale crowded)
    (roles : ∀ n, (h.entry n).role = (g.entry n).role)
    (covers : ∀ n, (g.entry n).role = .primary → (h.entry n).assignment = (g.entry n).assignment ∧ (h.entry n).partner = (g.entry n).partner ∧
      (h.entry n).cls = (g.entry n).cls)
    (fit : ∀ n, ¬unfit' n → (g.entry n).role = .backup → (¬unfit n → (g.entry n).Fit) → (h.entry n).Fit ∨ ∀ q, ¬g.holds q n = true)
    (fresh : ∀ n, ¬stale' n → (g.entry n).role = .primary →
      (¬stale n ∧ ((g.entry n).presence = .present → (h.entry n).presence = .present) ∧ ((g.entry n).locked = false → (h.entry n).locked = false)) ∨
      ((∀ b, ¬g.holds n b = true) ∧ n ∉ g.waitList))
    (heard : ∀ n, ¬crowded' n → (g.entry n).role = .backup → (¬crowded n ∧ ((h.entry n).presence = .lost → (g.entry n).presence = .lost)) ∨
      ((∀ q, ¬g.holds q n = true) ∧ ∀ q, ¬g.drops q n = true))
    (list : ∀ q, q ∈ h.waitList ↔ q ∈ g.waitList) (distinct : h.waitList.Nodup) (ordered : h.Ordered) : h.Sound unfit' stale' crowded' := by
  have holds (p b : Pos) : h.holds p b = g.holds p b := by
    rw [Bool.eq_iff_iff, Gtu.holds_iff, Gtu.holds_iff, roles]
    refine and_congr_right fun role => ?_
    rw [(covers p role).1, (covers p role).2.1]
  have drops (p b : Pos) : h.drops p b = g.drops p b := by
    rw [Bool.eq_iff_iff, Gtu.drops_iff, Gtu.drops_iff, roles]
    refine and_congr_right fun role => ?_
    rw [(covers p role).1, (covers p role).2.1]
  have backup {p b : Pos} (held : g.holds p b = true) : (g.entry b).role = .backup := by
    obtain ⟨role, -, partner⟩ := (Gtu.holds_iff p b).mp held
    exact (sound.position p).backed role b partner
  have dropped {p b : Pos} (drop : g.drops p b = true) : (g.entry b).role = .backup := by
    obtain ⟨role, -, partner⟩ := (Gtu.drops_iff p b).mp drop
    exact (sound.position p).backed role b partner
  refine ⟨fun p => ⟨fun role => ?_, fun role b partner => ?_, fun b held exempt => ?_, fun b held exempt => ?_, fun b held exempt => ?_, fun mem => ?_,
    fun role => ?_⟩, fun p q b first second => ?_, fun p q b exempt first second => ?_, distinct, ordered⟩
  · rw [roles] at role
    rw [(covers p role).1, (covers p role).2.1]
    exact (sound.position p).partnered role
  · rw [roles] at role
    rw [(covers p role).2.1] at partner
    rw [roles]
    exact (sound.position p).backed role b partner
  · rw [holds] at held
    rcases fresh p exempt ((Gtu.holds_iff p b).mp held).1 with ⟨was, -, locked⟩ | ⟨idle, -⟩
    · exact locked ((sound.position p).unlocked b held was)
    · exact absurd held (idle b)
  · rw [holds] at held
    exact (fit b exempt (backup held) ((sound.position p).fit b held)).resolve_right fun idle => idle p held
  · rw [holds] at held
    rcases heard b exempt (backup held) with ⟨was, lost⟩ | ⟨idle, -⟩
    · exact fun now => (sound.position p).heard b held was (lost now)
    · exact absurd held (idle p)
  · obtain ⟨role, free, waits, fitToWait⟩ := (sound.position p).listed ((list p).mp mem)
    rw [roles, (covers p role).1, (covers p role).2.2]
    refine ⟨role, free, waits, fun exempt => ?_⟩
    rcases fresh p exempt role with ⟨was, presence, locked⟩ | ⟨-, off⟩
    · exact ⟨presence (fitToWait was).1, locked (fitToWait was).2⟩
    · exact absurd ((list p).mp mem) off
  · rw [roles] at role
    rw [(covers p role).1, (covers p role).2.2, list]
    exact (sound.position p).classed role
  · rw [holds] at first second
    exact sound.single p q b first second
  · rw [drops] at first second
    rcases heard b exempt (dropped first) with ⟨was, -⟩ | ⟨-, idle⟩
    · exact sound.dropped p q b was first second
    · exact absurd first (idle p)

end

end Sys2Proof.Machine
end

section
/-! SUPPORT. The stages that read a record, and the handshake, keep the laws of covers and of the wait list (R62, R64 to R69, R85 to R88, R93, R94). -/

namespace Sys2Proof.Machine

open Sys2Proof.Safety

section
variable {unfit stale crowded : Pos → Prop} {g h : Gtu} {p b : Pos} {blk : List Byte} {r : EpochRecord}

/-! ## Settling -/

/-- What the laws of a cover look at besides the covers themselves. -/
theorem Entry.vitals_of_facts {e e' : Entry} (facts : e'.facts = e.facts) :
    e'.presence = e.presence ∧ e'.locked = e.locked ∧ e'.faulted = e.faulted := by
  simp only [Entry.facts, Prod.mk.injEq] at facts
  obtain ⟨-, presence, -, -, locked, faulted⟩ := facts
  exact ⟨presence, locked, faulted⟩

theorem ordered_of_cls (list : h.waitList = g.waitList) (cls : ∀ n, (h.entry n).cls = (g.entry n).cls) (ordered : g.Ordered) : h.Ordered := by
  have ranks : h.rankClass = g.rankClass := funext fun n => by rw [Gtu.rankClass, Gtu.rankClass, cls]
  rw [Gtu.Ordered, list, ranks]
  exact ordered

/-- The same facts and the same covers of primaries, with the list in another order. -/
theorem Gtu.Sound.relist (sound : g.Sound unfit stale crowded) (facts : ∀ n, (h.entry n).facts = (g.entry n).facts)
    (covers : ∀ n, (g.entry n).role = .primary → (h.entry n).assignment = (g.entry n).assignment ∧ (h.entry n).partner = (g.entry n).partner ∧
      (h.entry n).cls = (g.entry n).cls)
    (list : ∀ q, q ∈ h.waitList ↔ q ∈ g.waitList) (distinct : h.waitList.Nodup) (ordered : h.Ordered) : h.Sound unfit stale crowded := by
  have vitals (n : Pos) := Entry.vitals_of_facts (facts n)
  refine sound.carry (fun n => Entry.role_of_facts (facts n)) covers (fun n exempt _ fit => .inl ?_) (fun n exempt _ => .inl ⟨exempt, ?_, ?_⟩)
    (fun n exempt _ => .inl ⟨exempt, ?_⟩) list distinct ordered
  · obtain ⟨presence, locked, faulted⟩ := vitals n
    rw [Entry.Fit, presence, locked, faulted]
    exact fit exempt
  · rw [(vitals n).1]
    exact id
  · rw [(vitals n).2.1]
    exact id
  · rw [(vitals n).1]
    exact id

theorem sound_settle (sound : g.Sound unfit stale crowded) : g.settle.Sound unfit stale crowded := by
  refine sound.relist g.facts_settle (fun n role => ?_) (fun q => by rw [Gtu.waitList_settle]) (by rw [Gtu.waitList_settle]; exact sound.distinct)
    (ordered_of_cls (Gtu.waitList_settle g) (fun n => by rw [Gtu.entry_settle]) sound.ordered)
  rw [Gtu.entry_settle_primary role]
  exact ⟨.refl _, .refl _, .refl _⟩

theorem sound_orderRequeues (start : Gtu) (sound : g.Sound unfit stale crowded) : (g.orderRequeues start).Sound unfit stale crowded := by
  refine sound.relist (fun n => by rw [Gtu.entry_orderRequeues]) (fun n _ => ?_) (g.mem_orderRequeues start) (Gtu.nodup_orderRequeues sound.distinct)
    (Gtu.ordered_orderRequeues start sound.ordered)
  rw [Gtu.entry_orderRequeues]
  exact ⟨rfl, rfl, rfl⟩

theorem sound_settleFrom (start : Gtu) (sound : g.Sound unfit stale crowded) : (g.settleFrom start).Sound unfit stale crowded := by
  rw [Gtu.settleFrom]
  exact sound_settle (sound_orderRequeues start sound)

/-! ## Fewer exemptions -/

/-- An exemption ends when nothing is left that needs it. -/
theorem Gtu.Sound.shrink {unfit' stale' crowded' : Pos → Prop} (sound : g.Sound unfit stale crowded)
    (fit : ∀ n, ¬unfit' n → unfit n → (g.entry n).role = .backup → ∀ q, ¬g.holds q n = true)
    (fresh : ∀ n, ¬stale' n → stale n → (g.entry n).role = .primary → (∀ b, ¬g.holds n b = true) ∧ n ∉ g.waitList)
    (heard : ∀ n, ¬crowded' n → crowded n → (g.entry n).role = .backup → (∀ q, ¬g.holds q n = true) ∧ ∀ q, ¬g.drops q n = true) :
    g.Sound unfit' stale' crowded' := by
  refine sound.carry (fun _ => rfl) (fun _ _ => ⟨rfl, rfl, rfl⟩) (fun n exempt role wasFit => ?_) (fun n exempt role => ?_) (fun n exempt role => ?_)
    (fun _ => .rfl) sound.distinct sound.ordered
  · by_cases was : unfit n
    · exact .inr (fit n exempt was role)
    · exact .inl (wasFit was)
  · by_cases was : stale n
    · exact .inr (fresh n exempt was role)
    · exact .inl ⟨was, id, id⟩
  · by_cases was : crowded n
    · exact .inr (heard n exempt was role)
    · exact .inl ⟨was, id⟩

/-! ## Readings -/

/-- The part of an entry no reading touches, besides its role. -/
def Entry.cover (e : Entry) : Assignment × Option Pos × Cls × Bool := (e.assignment, e.partner, e.cls, e.locked)

theorem Entry.track_cover (limit : Nat) (seen : Bool) (e : Entry) : (e.track limit seen).cover = e.cover := by
  unfold Entry.track
  dsimp only
  split
  · rfl
  · rfl
  · rfl
  · split <;> rfl
  · rfl
  · rfl
  · split <;> rfl
  · rfl

theorem Entry.readFault_cover (x : Bool) (e : Entry) : (e.readFault x).cover = e.cover := by
  unfold Entry.readFault
  split <;> rfl

theorem Entry.readCondition_cover (c : Condition) (e : Entry) : (e.readCondition c).cover = e.cover := by
  unfold Entry.readCondition
  split <;> rfl

/-- A reading of every entry, exempting those it makes unfit, absent or lost. -/
theorem sound_mapEntries {f : Pos → Entry → Entry} (sound : g.Sound nobody nobody nobody) (role : ∀ n e, (f n e).role = e.role)
    (cover : ∀ n e, (f n e).cover = e.cover)
    (fit : ∀ n, ¬unfit n → (g.entry n).role = .backup → (g.entry n).Fit → (f n (g.entry n)).Fit)
    (fresh : ∀ n, ¬stale n → (g.entry n).role = .primary → (g.entry n).presence = .present → (f n (g.entry n)).presence = .present)
    (heard : ∀ n, ¬crowded n → (g.entry n).role = .backup → (f n (g.entry n)).presence = .lost → (g.entry n).presence = .lost) :
    (g.mapEntries f).Sound unfit stale crowded := by
  have covers (n : Pos) := cover n (g.entry n)
  simp only [Entry.cover, Prod.mk.injEq] at covers
  refine sound.carry (fun n => ?_) (fun n _ => ?_) (fun n exempt isBackup wasFit => .inl ?_) (fun n exempt isPrimary => .inl ⟨nobody_not, ?_, ?_⟩)
    (fun n exempt isBackup => .inl ⟨nobody_not, ?_⟩) (fun _ => .rfl) sound.distinct (ordered_of_cls (g := g) rfl (fun n => ?_) sound.ordered)
  all_goals rw [Gtu.entry_mapEntries]
  · exact role n _
  · obtain ⟨assignment, partner, cls, -⟩ := covers n
    exact ⟨assignment, partner, cls⟩
  · exact fit n exempt isBackup (wasFit nobody_not)
  · exact fresh n exempt isPrimary
  · rw [(covers n).2.2.2]
    exact id
  · exact heard n exempt isBackup
  · exact (covers n).2.2.1

/-! ## Presence (R85) -/

theorem Gtu.toDropping_unheld (c : Cls) (b : Pos) : ¬(g.toDropping p c).holds p b = true := by
  intro held
  have engaged := ((Gtu.holds_iff p b).mp held).2.1
  rw [Gtu.toDropping_self] at engaged
  cases engaged

/-- A released primary holds nothing and does not wait. -/
theorem release_ends (sound : g.Sound unfit stale crowded) (primary : (g.entry p).role = .primary) :
    (∀ b, ¬(g.release p).holds p b = true) ∧ p ∉ (g.release p).waitList := by
  have cleared : (∀ b, ¬(g.clearPrimary p).holds p b = true) ∧ p ∉ (g.clearPrimary p).waitList := by
    have at' := g.clearedAt_clearPrimary p
    refine ⟨fun b held => ?_, at'.2⟩
    rw [(at'.idle b).1] at held
    cases held
  rcases (g.entry p).assignment.ending with a | a | a | a
  · by_cases waits : p ∈ g.waitList
    · rw [Gtu.release_waiting a waits]
      exact cleared
    · rw [Gtu.release_free a waits]
      exact ⟨fun b => (Gtu.idle_of_none a b).1, waits⟩
  · rw [Gtu.release_yielding a]
    exact cleared
  · rw [Gtu.release_acting a]
    refine ⟨Gtu.toDropping_unheld _, fun mem => ?_⟩
    have covers : (g.entry p).assignment ≠ .none := by rcases a with a | a <;> rw [a] <;> decide
    exact (sound.covered primary covers).2.2 ((Gtu.mem_toDropping _ fun displaced => displaced.1 rfl).mp mem)
  · rw [Gtu.release_dropping a]
    refine ⟨fun b held => ?_, (sound.covered primary (by rw [a]; decide)).2.2⟩
    have engaged := ((Gtu.holds_iff p b).mp held).2.1
    rw [Gtu.entry_setCls_self, a] at engaged
    cases engaged

theorem Gtu.applyLoss_primary (role : (g.entry p).role = .primary) : g.applyLoss p = g.release p := by rw [Gtu.applyLoss, role]

theorem Gtu.applyLoss_backup (role : (g.entry p).role = .backup) : g.applyLoss p = (g.revokeHolders p).endDroppings p := by rw [Gtu.applyLoss, role]

theorem Gtu.applyLoss_empty (role : (g.entry p).role = .empty) : g.applyLoss p = g := by rw [Gtu.applyLoss, role]

theorem sound_applyLoss (sound : g.Sound unfit stale crowded) (p : Pos) : (g.applyLoss p).Sound unfit stale crowded := by
  cases role : (g.entry p).role with
  | empty => rwa [Gtu.applyLoss_empty role]
  | primary =>
    rw [Gtu.applyLoss_primary role]
    exact sound_release sound role
  | backup =>
    rw [Gtu.applyLoss_backup role]
    exact sound_endDroppings (sound_revokeHolders sound p) p

/-- A loss dealt with needs no exemption any more. -/
theorem sound_loss {l : List Pos} (sound : g.Sound (· ∈ p :: l) (· ∈ p :: l) (· ∈ p :: l)) : (g.applyLoss p).Sound (· ∈ l) (· ∈ l) (· ∈ l) := by
  have only := coversOnly_applyLoss g p
  have here {n : Pos} (left : n ∉ l) (mem : n ∈ p :: l) : n = p := (List.mem_cons.mp mem).resolve_right left
  refine (sound_applyLoss sound p).shrink (fun n left mem role q held => ?_) (fun n left mem role => ?_) fun n left mem role =>
    ⟨fun q held => ?_, fun q drops => ?_⟩
  all_goals
    obtain rfl := here left mem
    rw [only.role] at role
  · rw [Gtu.applyLoss_backup role] at held
    exact Gtu.revokeHolders_unheld n q (Gtu.endDroppings_holds held)
  · rw [Gtu.applyLoss_primary role]
    exact release_ends sound role
  · rw [Gtu.applyLoss_backup role] at held
    exact Gtu.revokeHolders_unheld n q (Gtu.endDroppings_holds held)
  · rw [Gtu.applyLoss_backup role] at drops
    exact Gtu.endDroppings_undropped n q drops

/-- After the losses of a list no exemption is left for its positions. -/
theorem sound_losses : ∀ (l : List Pos) {g : Gtu}, g.Sound (· ∈ l) (· ∈ l) (· ∈ l) → (l.foldl Gtu.applyLoss g).Sound nobody nobody nobody
  | [], _, sound => sound.shrink (fun _ _ none => absurd none List.not_mem_nil) (fun _ _ none => absurd none List.not_mem_nil)
      (fun _ _ none => absurd none List.not_mem_nil)
  | _ :: l, _, sound => sound_losses l (sound_loss sound)

/-- A PRESENT configured position stays PRESENT, with its fault, or is lost. -/
theorem Entry.track_present {limit : Nat} {seen : Bool} {e : Entry} (configured : e.role ≠ .empty) (present : e.presence = .present) :
    ((e.track limit seen).presence = .present ∧ (e.track limit seen).faulted = e.faulted) ∨ (e.track limit seen).presence = .lost := by
  obtain ⟨-, seenBy, missed, -⟩ := Entry.track_cases (limit := limit) (seen := seen) configured
  cases seen with
  | true =>
    rw [seenBy present rfl]
    exact .inl ⟨present, rfl⟩
  | false =>
    rw [missed present rfl]
    split
    · exact .inl ⟨present, rfl⟩
    · exact .inr rfl

/-- The table with the record read into its presence. -/
def Gtu.tracked (blk : List Byte) (r : EpochRecord) (g : Gtu) : Gtu := g.mapEntries fun n e => e.track (blockLossThreshold blk) (r.presence n)

/-- The positions that enter LOST, in ascending order. -/
def Gtu.losses (blk : List Byte) (r : EpochRecord) (g : Gtu) : List Pos :=
  allPos.filter fun n => ((g.tracked blk r).entry n).presence = .lost && (g.entry n).presence ≠ .lost

theorem Gtu.presenceStage_eq : g.presenceStage blk r = ((g.losses blk r).foldl Gtu.applyLoss (g.tracked blk r)).settleFrom g := rfl

theorem Gtu.entry_tracked (n : Pos) : (g.tracked blk r).entry n = (g.entry n).track (blockLossThreshold blk) (r.presence n) := by
  rw [Gtu.tracked, Gtu.entry_mapEntries]

theorem Gtu.mem_losses {n : Pos} : n ∈ g.losses blk r ↔ ((g.tracked blk r).entry n).presence = .lost ∧ (g.entry n).presence ≠ .lost := by
  rw [Gtu.losses, List.mem_filter, Bool.and_eq_true, decide_eq_true_eq, decide_eq_true_eq]
  exact and_iff_right (mem_allPos n)

theorem sound_tracked (sound : g.Sound nobody nobody nobody) :
    (g.tracked blk r).Sound (· ∈ g.losses blk r) (· ∈ g.losses blk r) (· ∈ g.losses blk r) := by
  have stays {n : Pos} (kept : n ∉ g.losses blk r) (present : (g.entry n).presence = .present) :
      ((g.entry n).track (blockLossThreshold blk) (r.presence n)).presence ≠ .lost := by
    rw [Gtu.mem_losses, Gtu.entry_tracked, not_and, not_not] at kept
    intro lost
    cases present.symm.trans (kept lost)
  refine sound_mapEntries sound (fun n e => e.track_role _ _) (fun n e => e.track_cover _ _) ?_ ?_ ?_
  · rintro n kept role ⟨present, unlocked, sane⟩
    have cover := (g.entry n).track_cover (blockLossThreshold blk) (r.presence n)
    simp only [Entry.cover, Prod.mk.injEq] at cover
    obtain ⟨presence, fault⟩ := (Entry.track_present (limit := blockLossThreshold blk) (seen := r.presence n) (by rw [role]; decide) present).resolve_right
      (stays kept present)
    exact ⟨presence, cover.2.2.2.trans unlocked, fault.trans sane⟩
  · intro n kept role present
    exact ((Entry.track_present (by rw [role]; decide) present).resolve_right (stays kept present)).1
  · intro n kept _ lost
    rw [Gtu.mem_losses, Gtu.entry_tracked, not_and, not_not] at kept
    exact kept lost

theorem sound_presenceStage (sound : g.Sound nobody nobody nobody) : (g.presenceStage blk r).Sound nobody nobody nobody := by
  rw [Gtu.presenceStage_eq]
  exact sound_settleFrom g (sound_losses _ (sound_tracked sound))

/-! ## Fault (R86) -/

theorem Gtu.applyFault_backup (role : (g.entry p).role = .backup) (faulted : (g.entry p).faulted = true) : g.applyFault p = g.revokeHolders p := by
  simp [Gtu.applyFault, role, faulted]

theorem sound_applyFault (sound : g.Sound unfit stale crowded) (p : Pos) : (g.applyFault p).Sound unfit stale crowded := by
  unfold Gtu.applyFault
  dsimp only
  split
  · split
    · exact sound
    · exact sound_revokeHolders sound p
    · next primary =>
      split
      · exact sound_revoke sound primary
      · exact sound
  · exact sound

/-- A fault dealt with needs no exemption any more. -/
theorem sound_fault {faulty : Pos → Prop} {l : List Pos} (fault : ∀ n, faulty n ↔ (g.entry n).faulted = true)
    (sound : g.Sound (fun n => n ∈ p :: l ∧ faulty n) nobody nobody) : (g.applyFault p).Sound (fun n => n ∈ l ∧ faulty n) nobody nobody := by
  have only := coversOnly_applyFault g p
  refine (sound_applyFault sound p).shrink (fun n left mem role q held => ?_) (fun _ _ none => absurd none nobody_not)
    (fun _ _ none => absurd none nobody_not)
  obtain ⟨mem, faulty⟩ := mem
  obtain rfl : n = p := (List.mem_cons.mp mem).resolve_right fun later => left ⟨later, faulty⟩
  rw [only.role] at role
  rw [Gtu.applyFault_backup role ((fault n).mp faulty)] at held
  exact Gtu.revokeHolders_unheld n q held

theorem sound_faults {faulty : Pos → Prop} : ∀ (l : List Pos) {g : Gtu}, (∀ n, faulty n ↔ (g.entry n).faulted = true) →
    g.Sound (fun n => n ∈ l ∧ faulty n) nobody nobody → (l.foldl Gtu.applyFault g).Sound nobody nobody nobody
  | [], _, _, sound => sound.shrink (fun _ _ none => absurd none.1 List.not_mem_nil) (fun _ _ none => absurd none nobody_not)
      (fun _ _ none => absurd none nobody_not)
  | p :: l, g, fault, sound =>
    sound_faults l (fun n => by rw [((coversOnly_applyFault g p).present n).2.2, fault]) (sound_fault fault sound)

theorem sound_faultStage (sound : g.Sound nobody nobody nobody) : (g.faultStage r).Sound nobody nobody nobody := by
  rw [Gtu.faultStage]
  refine sound_settleFrom g (sound_faults (faulty := fun n => ((g.entry n).readFault (r.fault n)).faulted = true) allPos
    (fun n => by rw [Gtu.entry_mapEntries]) (sound_mapEntries sound (fun n e => e.readFault_role _) (fun n e => e.readFault_cover _) ?_ ?_ ?_))
  · rintro n sane role ⟨present, unlocked, -⟩
    rw [Entry.readFault_eq (by rw [role]; decide)] at sane ⊢
    exact ⟨present, unlocked, Bool.eq_false_iff.mpr fun faulted => sane ⟨mem_allPos n, faulted⟩⟩
  · intro n _ role present
    rw [Entry.readFault_eq (by rw [role]; decide)]
    exact present
  · intro n _ role lost
    rw [Entry.readFault_eq (by rw [role]; decide)] at lost
    exact lost

/-! ## Condition (R87, R88) -/

theorem Condition.claim_mayWait {c : Condition} {k : Cls} (claim : c.claim = some k) : k.mayWait = true := by
  cases c with
  | clear => cases claim
  | degraded | failed =>
    cases claim
    rfl

theorem Cls.ne_none_of_mayWait {c : Cls} (waits : c.mayWait = true) : c ≠ .none := by
  rintro rfl
  cases waits

theorem sound_applyCondition (sound : g.Sound unfit stale crowded) (p : Pos) : (g.applyCondition blk p).Sound unfit stale crowded := by
  unfold Gtu.applyCondition
  dsimp only
  split
  · exact sound
  · next acts =>
    simp only [Bool.or_eq_true, decide_eq_true_eq, not_or, not_not, Bool.not_eq_true, ne_eq] at acts
    obtain ⟨⟨primary, presence⟩, unlocked⟩ := acts
    have arrives (free : (g.entry p).assignment = .none) {c : Cls} (claim : (g.entry p).condition.claim = some c) :=
      sound_arrive sound primary presence unlocked free (Condition.claim_mayWait claim)
    have classed (covers : (g.entry p).assignment ≠ .none) {c : Cls} (claim : (g.entry p).condition.claim = some c) :=
      sound_setCls sound primary covers (Cls.ne_none_of_mayWait (Condition.claim_mayWait claim))
    split
    · next free =>
      split
      · split
        · split
          · exact sound_clearPrimary sound primary
          · next claim =>
            split
            · exact sound
            · exact arrives free claim
        · exact sound
      · split
        · split
          · exact sound
          · next claim => exact arrives free claim
        · exact sound
    iterate 3
      · next stage =>
        have covers : (g.entry p).assignment ≠ .none := by
          rw [stage]
          decide
        split
        · exact sound
        · split
          · next claim => exact classed covers claim
          · split
            · exact sound_setCls sound primary covers (by split <;> decide)
            · exact sound
    · next stage =>
      have covers : (g.entry p).assignment ≠ .none := by
        rw [stage]
        decide
      split
      · split
        · next claim => exact classed covers claim
        · exact sound_setCls sound primary covers (by decide)
      · exact sound

theorem sound_applyBackupFailed (sound : g.Sound unfit stale crowded) (b : Pos) : (g.applyBackupFailed b).Sound unfit stale crowded := by
  unfold Gtu.applyBackupFailed
  dsimp only
  split
  · exact sound_revokeHolders sound b
  · exact sound

theorem sound_foldl {f : Gtu → Pos → Gtu} (each : ∀ (g : Gtu) (p : Pos), g.Sound unfit stale crowded → (f g p).Sound unfit stale crowded) (l : List Pos)
    (sound : g.Sound unfit stale crowded) : (l.foldl f g).Sound unfit stale crowded :=
  Gtu.foldl_keeps (P := fun h => h.Sound unfit stale crowded) each l g sound

theorem sound_conditionStage (sound : g.Sound nobody nobody nobody) : (g.conditionStage blk r).Sound nobody nobody nobody := by
  rw [Gtu.conditionStage]
  refine sound_settleFrom g (sound_foldl (fun h b kept => sound_applyBackupFailed kept b) allPos
    (sound_foldl (fun h p kept => sound_applyCondition kept p) allPos
      (sound_mapEntries sound (fun n e => e.readCondition_role _) (fun n e => e.readCondition_cover _) ?_ ?_ ?_)))
  · intro n _ role fit
    rw [Entry.readCondition_eq (by rw [role]; decide)]
    exact fit
  · intro n _ role present
    rw [Entry.readCondition_eq (by rw [role]; decide)]
    exact present
  · intro n _ role lost
    rw [Entry.readCondition_eq (by rw [role]; decide)] at lost
    exact lost

theorem sound_read (sound : g.Sound nobody nobody nobody) : (g.read blk r).Sound nobody nobody nobody := by
  rw [Gtu.read]
  exact sound_conditionStage (sound_faultStage (sound_presenceStage sound))

/-! ## Handshake (R93, R94) -/

section
variable {standing : Gtu}

theorem sound_handshakeOne (roles : ∀ n, (standing.entry n).role = (g.entry n).role) (sound : g.Sound unfit stale crowded) (p : Pos) :
    (Gtu.handshakeOne standing r g p).Sound unfit stale crowded := by
  unfold Gtu.handshakeOne
  dsimp only
  split
  · exact sound
  · next b partner =>
    split
    · next tested =>
      rw [Bool.and_eq_true, Gtu.stands_iff, roles p] at tested
      have primary := tested.1.1
      split
      · next taking =>
        refine sound_goesOn sound primary partner (sound.covered primary (by rw [taking]; decide)).2.1 (.inl ⟨rfl, ?_⟩)
        rw [taking]
        rfl
      · split
        · exact sound
        · exact sound_requeueOrClear sound primary
      all_goals exact sound
    · exact sound

theorem sound_handshakeTwo (roles : ∀ n, (standing.entry n).role = (g.entry n).role) (sound : g.Sound unfit stale crowded) (p : Pos) :
    (Gtu.handshakeTwo standing r g p).Sound unfit stale crowded := by
  unfold Gtu.handshakeTwo
  dsimp only
  split
  · exact sound
  · next b partner =>
    split
    · next tested =>
      simp only [Bool.and_eq_true, Gtu.stands_iff, roles p, decide_eq_true_eq] at tested
      obtain ⟨⟨⟨⟨primary, -⟩, yielding⟩, -⟩, -⟩ := tested
      refine sound_goesOn sound primary partner (sound.covered primary (by rw [yielding]; decide)).2.1 (.inl ⟨rfl, ?_⟩)
      rw [yielding]
      rfl
    · exact sound

theorem sound_handshakeStage (roles : ∀ n, (standing.entry n).role = (g.entry n).role) (sound : g.Sound unfit stale crowded) :
    (Gtu.handshakeStage standing r g).Sound unfit stale crowded := by
  have agrees {h : Gtu} (kept : g.CoversOnly h) (n : Pos) : (standing.entry n).role = (h.entry n).role := by rw [kept.role, roles]
  have first := Gtu.foldl_keeps (P := fun h => g.CoversOnly h ∧ h.Sound unfit stale crowded)
    (fun h p kept => ⟨kept.1.trans (coversOnly_handshakeOne (agrees kept.1) p), sound_handshakeOne (r := r) (agrees kept.1) kept.2 p⟩) allPos g
    ⟨.refl g, sound⟩
  have second := Gtu.foldl_keeps (P := fun h => g.CoversOnly h ∧ h.Sound unfit stale crowded)
    (fun h p kept => ⟨kept.1.trans (coversOnly_handshakeTwo (agrees kept.1) p), sound_handshakeTwo (r := r) (agrees kept.1) kept.2 p⟩) allPos _ first
  rw [Gtu.handshakeStage]
  exact sound_settleFrom g second.2

end

end

end Sys2Proof.Machine
end

section
/-! SUPPORT. Grants and the service keep the laws of covers and of the wait list (R62, R63, R68, R89 to R92, R95 to R102). -/

namespace Sys2Proof.Machine

open Sys2Proof.Safety

section
variable {unfit stale crowded : Pos → Prop} {g h : Gtu} {p b : Pos} {blk : List Byte} {r : EpochRecord}

/-! ## LOCKOUT and UNLOCK -/

theorem Gtu.entry_lockTo_self (x : Bool) : (g.lockTo p x).entry p = { g.entry p with locked := x } := g.entry_setEntry_self p _

theorem Gtu.entry_lockTo_other {n : Pos} (other : n ≠ p) (x : Bool) : (g.lockTo p x).entry n = g.entry n := g.entry_setEntry_other other _

theorem Gtu.entry_lockTo (x : Bool) (n : Pos) : (g.lockTo p x).entry n = { g.entry n with locked := if n = p then x else (g.entry n).locked } := by
  by_cases same : n = p
  · rw [same, Gtu.entry_lockTo_self, if_pos rfl]
  · rw [Gtu.entry_lockTo_other same, if_neg same]

/-- A lock exempts the position it is set at. -/
theorem sound_lockTo (sound : g.Sound nobody nobody nobody) (x : Bool) :
    (g.lockTo p x).Sound (fun n => x = true ∧ n = p) (fun n => x = true ∧ n = p) nobody := by
  have opens {n : Pos} (exempt : ¬(x = true ∧ n = p)) (unlocked : (g.entry n).locked = false) : (if n = p then x else (g.entry n).locked) = false := by
    split
    · next same => exact Bool.eq_false_iff.mpr fun set => exempt ⟨set, same⟩
    · exact unlocked
  refine sound.carry (fun n => Gtu.role_lockTo p n x g) (fun n _ => ?_) (fun n exempt _ wasFit => .inl ?_) (fun n exempt _ => .inl ⟨nobody_not, ?_, ?_⟩)
    (fun n _ _ => .inl ⟨nobody_not, ?_⟩) (fun _ => .rfl) sound.distinct (ordered_of_cls (g := g) rfl (fun n => ?_) sound.ordered)
  all_goals rw [Gtu.entry_lockTo]
  · exact ⟨rfl, rfl, rfl⟩
  · obtain ⟨presence, unlocked, sane⟩ := wasFit nobody_not
    exact ⟨presence, opens exempt unlocked, sane⟩
  · exact id
  · exact opens exempt
  · exact id

theorem sound_unlocked (sound : g.Sound nobody nobody nobody) : (g.lockTo p false).Sound nobody nobody nobody :=
  (sound_lockTo (p := p) sound false).shrink (fun _ _ set => absurd set.1 Bool.false_ne_true) (fun _ _ set => absurd set.1 Bool.false_ne_true)
    (fun _ _ none => absurd none nobody_not)

theorem sound_grantLockout (sound : g.Sound nobody nobody nobody) (p : Pos) : (g.grantLockout p).1.Sound nobody nobody nobody := by
  have locks := sound_lockTo (p := p) sound true
  rw [Gtu.grantLockout_eq]
  split
  · exact sound
  · next primary =>
    rw [← Gtu.role_lockTo p p true] at primary
    split
    · exact sound
    · have only := coversOnly_release primary
      have ends := release_ends locks primary
      refine (sound_release locks primary).shrink (fun n _ set role => ?_) (fun n _ set _ => ?_) (fun _ _ none => absurd none nobody_not)
      · rw [set.2, only.role, primary] at role
        cases role
      · rw [set.2]
        exact ends
  · next backup =>
    rw [← Gtu.role_lockTo p p true] at backup
    have kept := sound_revokeHolders (g := g.lockTo p true) locks p
    have only := coversOnly_revokeHolders (g := g.lockTo p true) p
    dsimp only
    refine kept.shrink (fun n _ set _ q => ?_) (fun n _ set role => ?_) (fun _ _ none => absurd none nobody_not)
    · obtain ⟨-, rfl⟩ := set
      exact Gtu.revokeHolders_unheld n q
    · rw [set.2, only.role, backup] at role
      cases role

theorem sound_grantUnlock (sound : g.Sound nobody nobody nobody) (p : Pos) : (g.grantUnlock p).1.Sound nobody nobody nobody := by
  have opens := sound_unlocked (p := p) sound
  rw [Gtu.grantUnlock_eq]
  split
  · exact sound
  · split
    · next fit =>
      simp only [Bool.and_eq_true, decide_eq_true_eq] at fit
      have primary : ((g.lockTo p false).entry p).role = .primary := by rw [Gtu.role_lockTo, fit.1]
      split
      · next claim free =>
        refine sound_arrive opens primary ?_ ?_ ?_ (Condition.claim_mayWait claim) <;> rw [Gtu.entry_lockTo_self]
        · exact fit.2
        · exact free
      · next claim dropping =>
        dsimp only
        split
        · refine sound_setCls opens primary ?_ (Cls.ne_none_of_mayWait (Condition.claim_mayWait claim))
          rw [Gtu.entry_lockTo_self]
          dsimp only
          rw [dropping]
          decide
        · exact opens
      · exact opens
    · exact opens

/-! ## Selections -/

/-- A chosen backup is fit, and its primary PRESENT and unlocked. -/
theorem Gtu.choose_fit {c : Cls} (chosen : g.choose blk p c = some b) : (g.entry p).role = .primary ∧ (g.entry p).locked = false ∧
    (g.entry b).role = .backup ∧ (g.entry b).Fit := by
  obtain ⟨selectable, backup, -, eligible, -⟩ := (g.candidate_iff blk p b c).mp (g.choose_candidate blk p c chosen)
  obtain ⟨primary, -, unlocked, -⟩ := (g.selectable_iff p).mp selectable
  obtain ⟨present, open', sane, -⟩ := (g.eligible_iff b c).mp eligible
  exact ⟨primary, unlocked, backup, present, open', sane⟩

theorem sound_chosen (sound : g.Sound unfit stale crowded) {c k : Cls} (chosen : g.choose blk p c = some b) (classed : k ≠ .none) :
    (g.select p b k).Sound unfit stale crowded := by
  obtain ⟨primary, unlocked, backup, fit⟩ := Gtu.choose_fit chosen
  exact sound_select sound primary unlocked backup fit classed

/-! ## FORCE, MANUAL, CLEAR and RESTORE -/

theorem sound_grantForce (sound : g.Sound unfit stale crowded) (configured : (g.entry p).role ≠ .empty) :
    (g.grantForce blk p).1.Sound unfit stale crowded := by
  rcases Gtu.role_cases _ configured with primary | backup
  swap
  · rw [Gtu.grantForce_backup backup]
    exact sound
  unfold Gtu.grantForce
  dsimp only
  split
  · exact sound
  split
  · exact sound
  split
  · exact sound
  next locked presence =>
  have unlocked := Bool.eq_false_iff.mpr locked
  have present := not_not.mp presence
  split
  iterate 4
    · next stage => exact sound_setCls sound primary (by rw [stage]; decide) (by decide)
  · next free =>
    split
    · split
      · exact sound
      · exact sound_arrive sound primary present unlocked free rfl
    · split
      · next chosen => exact sound_chosen sound chosen (by decide)
      · exact sound_arrive sound primary present unlocked free rfl

theorem sound_grantManual (sound : g.Sound unfit stale crowded) : (g.grantManual blk p).1.Sound unfit stale crowded := by
  unfold Gtu.grantManual
  dsimp only
  split
  · exact sound
  split
  · exact sound
  split
  · split
    · next chosen => exact sound_chosen sound chosen (by decide)
    · exact sound
  · exact sound

theorem Gtu.setCls_same : g.setCls p (g.entry p).cls = g := by
  refine Gtu.eq_of_entries (fun n => ?_) rfl ⟨rfl, rfl⟩
  by_cases same : n = p
  · rw [same, Gtu.entry_setCls_self]
  · rw [Gtu.entry_setCls_other same]

theorem sound_grantClear (sound : g.Sound nobody nobody nobody) (configured : (g.entry p).role ≠ .empty) :
    (g.grantClear p).1.Sound nobody nobody nobody := by
  rcases Gtu.role_cases _ configured with primary | backup
  swap
  · rw [Gtu.grantClear_refrains (.inl backup)]
    exact sound
  by_cases dropping : (g.entry p).assignment = .dropping
  · rw [Gtu.grantClear_refrains (.inr (.inl dropping))]
    exact sound
  by_cases clears : (g.entry p).cls = .force ∨ (g.entry p).cls = .manual ∨ (g.entry p).cls = .hold
  swap
  · simp only [not_or] at clears
    rw [Gtu.grantClear_refrains (.inr (.inr clears))]
    exact sound
  have unclear : (g.entry p).cls ≠ .none := by rcases clears with c | c | c <;> rw [c] <;> decide
  cases claim : (g.entry p).condition.claim with
  | none =>
    rw [Gtu.grantClear_releases primary dropping clears claim]
    exact sound_release sound primary
  | some c =>
    have waits := Condition.claim_mayWait claim
    rw [Gtu.grantClear_claims primary dropping clears claim]
    dsimp only
    by_cases mem : p ∈ g.waitList
    · obtain ⟨-, free, -, fit⟩ := (sound.position p).listed mem
      obtain ⟨present, unlocked⟩ := fit nobody_not
      split
      · exact sound_arrive sound primary present unlocked free waits
      · next stays =>
        have same : c = (g.entry p).cls := by
          by_contra differs
          exact stays ⟨mem, differs⟩
        rw [same, Gtu.setCls_same]
        exact sound
    · rw [if_neg fun moves => mem moves.1]
      exact sound_setCls sound primary (fun free => unclear (((sound.position p).classed primary).mpr ⟨free, mem⟩)) (Cls.ne_none_of_mayWait waits)

theorem sound_grantRestore (sound : g.Sound unfit stale crowded) : (g.grantRestore p).1.Sound unfit stale crowded := by
  unfold Gtu.grantRestore
  dsimp only
  split
  · next fit =>
    rw [Bool.and_eq_true, decide_eq_true_eq] at fit
    exact sound_release sound fit.1
  · exact sound

theorem sound_applyGrant (sound : g.Sound nobody nobody nobody) (v : Request) (p : Pos) : (g.applyGrant blk v p).1.Sound nobody nobody nobody := by
  unfold Gtu.applyGrant
  split
  · exact sound
  · next configured =>
    cases v with
    | lockout => exact sound_grantLockout sound p
    | unlock => exact sound_grantUnlock sound p
    | force => exact sound_grantForce sound configured
    | manual => exact sound_grantManual sound
    | clear => exact sound_grantClear sound configured
    | restore => exact sound_grantRestore sound

theorem sound_grantStage (sound : g.Sound nobody nobody nobody) : (g.grantStage blk r).1.Sound nobody nobody nobody := by
  unfold Gtu.grantStage
  split
  · exact sound
  · next v p _ =>
    dsimp only
    exact sound_settleFrom g (sound_applyGrant sound v p)

/-! ## Service -/

theorem sound_serveUpTo (start : Gtu) : ∀ (n : Nat) {g : Gtu}, g.Sound unfit stale crowded → (Gtu.serveUpTo blk start n g).Sound unfit stale crowded
  | 0, _, sound => sound
  | n + 1, g, sound => by
    cases served : g.firstServed blk g.waitList with
    | none =>
      rw [g.serveUpTo_none blk start (n + 1) served]
      exact sound
    | some pb =>
      obtain ⟨mem, chosen⟩ := firstServed_some served
      obtain ⟨-, -, waits, -⟩ := (sound.position pb.1).listed mem
      rw [g.serveUpTo_some blk start n pb.1 pb.2 served]
      exact sound_serveUpTo start n (sound_orderRequeues start (sound_chosen sound chosen (Cls.ne_none_of_mayWait waits)))

theorem sound_serviceStage (sound : g.Sound unfit stale crowded) : (g.serviceStage blk).Sound unfit stale crowded := by
  rw [Gtu.serviceStage, Gtu.serve]
  exact sound_settle (sound_serveUpTo g 112 sound)

/-! ## The stages of an application -/

theorem sound_sliceStage (sound : g.Sound unfit stale crowded) : g.sliceStage.Sound unfit stale crowded :=
  sound.relist (fun _ => rfl) (fun _ _ => ⟨rfl, rfl, rfl⟩) (fun _ => .rfl) sound.distinct (ordered_of_cls (g := g) rfl (fun _ => rfl) sound.ordered)

theorem Gtu.granted_eq : g.granted blk r = (Gtu.handshakeStage g r (g.read blk r)).grantStage blk r := rfl

theorem sound_tableStages (sound : g.Sound nobody nobody nobody) : (g.tableStages blk r).1.Sound nobody nobody nobody := by
  rw [Gtu.tableStages_eq, Gtu.granted_eq]
  exact sound_sliceStage (sound_serviceStage (sound_grantStage (sound_handshakeStage (fun n => (Gtu.role_read blk r g n).symm) (sound_read sound))))

end

end Sys2Proof.Machine
end

section
/-! SUPPORT. The comparison and the founding keep the laws of covers and of the wait list (R62, R68, R74 to R78), and with them every step does. -/

namespace Sys2Proof.Machine

open Sys2Proof.Safety

section
variable {unfit stale crowded : Pos → Prop} {g h : Gtu} {k p b : Pos} {d : Entry} {blk : List Byte} {r : EpochRecord}

/-! ## Repair (R77) -/

/-- Everyone is exempt. -/
def everyone : Pos → Prop := fun _ => True

theorem Gtu.Position.settle (laws : g.Position unfit stale crowded p) : g.settle.Position unfit stale crowded p := by
  obtain ⟨partnered, backed, unlocked, fit, heard, listed, classed⟩ := laws
  have vitals (n : Pos) := Entry.vitals_of_facts (g.facts_settle n)
  have same (role : (g.settle.entry p).role = .primary) : (g.settle.entry p).assignment = (g.entry p).assignment ∧
      (g.settle.entry p).partner = (g.entry p).partner ∧ (g.settle.entry p).cls = (g.entry p).cls := by
    rw [Gtu.role_settle] at role
    rw [Gtu.entry_settle_primary role]
    exact ⟨.refl _, .refl _, .refl _⟩
  refine ⟨fun role => ?_, fun role b partner => ?_, fun b held => ?_, fun b held exempt => ?_, fun b held => ?_, fun mem => ?_, fun role => ?_⟩
  · rw [(same role).1, (same role).2.1]
    exact partnered (by rwa [Gtu.role_settle] at role)
  · rw [(same role).2.1] at partner
    rw [Gtu.role_settle]
    exact backed (by rwa [Gtu.role_settle] at role) b partner
  · rw [(vitals p).2.1]
    exact unlocked b (by rwa [Gtu.holds_settle] at held)
  · obtain ⟨presence, locked, faulted⟩ := vitals b
    rw [Entry.Fit, presence, locked, faulted]
    exact fit b (by rwa [Gtu.holds_settle] at held) exempt
  · rw [(vitals b).1]
    exact heard b (by rwa [Gtu.holds_settle] at held)
  · rw [Gtu.waitList_settle] at mem
    obtain ⟨role, free, waits, fitToWait⟩ := listed mem
    obtain ⟨assignment, -, cls⟩ := same (by rw [Gtu.role_settle, role])
    obtain ⟨presence, locked, -⟩ := vitals p
    rw [Gtu.role_settle, assignment, cls, presence, locked]
    exact ⟨role, free, waits, fitToWait⟩
  · rw [(same role).1, (same role).2.2, Gtu.waitList_settle]
    exact classed (by rwa [Gtu.role_settle] at role)

theorem Gtu.Position.strengthen (laws : g.Position everyone stale everyone p) (fit : ∀ b, g.holds p b = true → (g.entry b).Fit) :
    g.Position nobody stale nobody p :=
  ⟨laws.partnered, laws.backed, laws.unlocked, fun b held _ => fit b held, fun b held _ => by rw [(fit b held).1]; decide, laws.listed, laws.classed⟩

/-- A repair before its settling. -/
def Gtu.repaired (k : Pos) (g : Gtu) : Gtu :=
  ((g.repairRivals k).repairHolders fun e => e.locked).repairHolders fun e => decide (e.presence ≠ .present) || e.faulted

theorem Gtu.repair_eq : g.repair k = (g.repaired k).settle := rfl

theorem Gtu.facts_repaired (n : Pos) : ((g.repaired k).entry n).facts = (g.entry n).facts := by
  rw [Gtu.repaired, Gtu.facts_repairHolders, Gtu.facts_repairHolders, Gtu.facts_repairRivals]

/-- What a repair finds at a position it clears. -/
def Gtu.spoilt (g : Gtu) (k p : Pos) : Prop := g.rivals k p ∨ ∃ b, g.holds p b = true ∧ ¬(g.entry b).Fit

theorem Gtu.repaired_spec (g : Gtu) (k p : Pos) :
    (g.spoilt k p → g.ClearedAt (g.repaired k) p) ∧ (¬g.spoilt k p → g.KeptAt (g.repaired k) p) := by
  have unfit (b : Pos) : ¬(g.entry b).Fit ↔ (g.entry b).locked = true ∨ (g.entry b).presence ≠ .present ∨ (g.entry b).faulted = true := by
    rw [Entry.Fit]
    cases (g.entry b).locked <;> cases (g.entry b).faulted <;> simp
  obtain ⟨cleared, kept⟩ := g.repair_steps k p
  simp only [Gtu.spoilt, unfit]
  exact ⟨cleared, fun sound => kept (fun rival => sound (.inl rival)) fun holds => sound (.inr holds)⟩

theorem coversOnly_repaired : g.CoversOnly (g.repaired k) := by
  refine fun n => ⟨Gtu.facts_repaired n, fun other => ((g.repaired_spec k n).2 ?_).1⟩
  rintro (⟨-, b, ⟨-, held⟩ | ⟨-, drops⟩⟩ | ⟨b, held, -⟩)
  · exact other ((Gtu.holds_iff n b).mp held).1
  · exact other ((Gtu.drops_iff n b).mp drops).1
  · exact other ((Gtu.holds_iff n b).mp held).1

theorem sublist_foldl {f : Gtu → Pos → Gtu} (each : ∀ (g : Gtu) (p : Pos), (f g p).waitList.Sublist g.waitList) (l : List Pos) (g : Gtu) :
    (l.foldl f g).waitList.Sublist g.waitList :=
  Gtu.foldl_keeps (P := fun h => h.waitList.Sublist g.waitList) (fun h p sub => (each h p).trans sub) l g (.refl _)

theorem sublist_clearPrimary (g : Gtu) (p : Pos) : (g.clearPrimary p).waitList.Sublist g.waitList := List.filter_sublist

theorem sublist_repairHolders (bad : Entry → Bool) (g : Gtu) : (g.repairHolders bad).waitList.Sublist g.waitList := by
  refine sublist_foldl (fun g p => ?_) allPos g
  split
  · exact .refl _
  · split
    · exact sublist_clearPrimary g p
    · exact .refl _

theorem sublist_repairRivals (k : Pos) (g : Gtu) : (g.repairRivals k).waitList.Sublist g.waitList := by
  unfold Gtu.repairRivals
  split
  · exact .refl _
  · refine sublist_foldl (fun g p => ?_) allPos g
    split
    · exact sublist_clearPrimary g p
    · exact .refl _

theorem sublist_repaired : (g.repaired k).waitList.Sublist g.waitList :=
  ((sublist_repairHolders _ _).trans (sublist_repairHolders _ _)).trans (sublist_repairRivals k g)

/-- A table whose only disorder is the cover of `k` and of unfit backups is put right by a repair. -/
theorem sound_repaired (laws : ∀ p, g.Position everyone nobody everyone p)
    (single : ∀ p q b, p ≠ k → q ≠ k → g.holds p b = true → g.holds q b = true → p = q)
    (dropped : ∀ p q b, p ≠ k → q ≠ k → g.drops p b = true → g.drops q b = true → p = q) (distinct : g.waitList.Nodup) (ordered : g.Ordered) :
    (g.repaired k).Sound nobody nobody nobody := by
  have only : g.CoversOnly (g.repaired k) := coversOnly_repaired
  have kept {p b : Pos} (related : (g.repaired k).holds p b = true ∨ (g.repaired k).drops p b = true) : ¬g.spoilt k p ∧ g.KeptAt (g.repaired k) p := by
    have sane : ¬g.spoilt k p := fun spoilt => by
      obtain ⟨unheld, undropped⟩ := ((g.repaired_spec k p).1 spoilt).idle b
      rw [unheld, undropped] at related
      rcases related with no | no <;> cases no
    exact ⟨sane, (g.repaired_spec k p).2 sane⟩
  have held {p b : Pos} (holds : (g.repaired k).holds p b = true) : ¬g.spoilt k p ∧ g.holds p b = true := by
    obtain ⟨sane, stays⟩ := kept (.inl holds)
    exact ⟨sane, by rwa [Gtu.holds_congr stays.1] at holds⟩
  have drop {p b : Pos} (drops : (g.repaired k).drops p b = true) : ¬g.spoilt k p ∧ g.drops p b = true := by
    obtain ⟨sane, stays⟩ := kept (.inr drops)
    exact ⟨sane, by rwa [Gtu.drops_congr stays.1] at drops⟩
  refine ⟨fun p => ?_, fun p q b first second => ?_, fun p q b _ first second => ?_, distinct.sublist sublist_repaired,
    ordered_of_sublist sublist_repaired (fun q mem => ?_) ordered⟩
  · by_cases spoilt : g.spoilt k p
    · exact ((g.repaired_spec k p).1 spoilt).position
    · refine ((laws p).kept only ((g.repaired_spec k p).2 spoilt)).strengthen fun b holds => (only.fit b).mpr ?_
      by_contra unfit
      exact spoilt (.inr ⟨b, (held holds).2, unfit⟩)
  · obtain ⟨saneP, heldP⟩ := held first
    obtain ⟨saneQ, heldQ⟩ := held second
    by_contra differ
    by_cases isP : p = k
    · exact saneQ (.inl ⟨fun isQ => differ (isP.trans isQ.symm), b, .inl ⟨isP ▸ heldP, heldQ⟩⟩)
    · by_cases isQ : q = k
      · exact saneP (.inl ⟨isP, b, .inl ⟨isQ ▸ heldQ, heldP⟩⟩)
      · exact differ (single p q b isP isQ heldP heldQ)
  · obtain ⟨saneP, dropP⟩ := drop first
    obtain ⟨saneQ, dropQ⟩ := drop second
    by_contra differ
    by_cases isP : p = k
    · exact saneQ (.inl ⟨fun isQ => differ (isP.trans isQ.symm), b, .inr ⟨isP ▸ dropP, dropQ⟩⟩)
    · by_cases isQ : q = k
      · exact saneP (.inl ⟨isP, b, .inr ⟨isQ ▸ dropQ, dropP⟩⟩)
      · exact differ (dropped p q b isP isQ dropP dropQ)
  · by_cases spoilt : g.spoilt k q
    · exact absurd mem ((g.repaired_spec k q).1 spoilt).2
    · exact ((g.repaired_spec k q).2 spoilt).1

/-! ## Overwrite (R76) -/

/-- The table with entry `k` overwritten and placed on the list, before its repair. -/
def Gtu.placed (k : Pos) (d : Entry) (g : Gtu) : Gtu := (g.setEntry k d).placeAtRank k d.waitRank

theorem Gtu.overwrite_eq (role : d.role = (g.entry k).role) : g.overwrite k d = ((g.placed k d).settle.repaired k).settle := by
  rw [Gtu.overwrite, Gtu.repair_eq, Gtu.placed, ← role]

theorem Gtu.entry_placed_self : (g.placed k d).entry k = d := by rw [Gtu.placed, Gtu.entry_placeAtRank, Gtu.entry_setEntry_self]

theorem Gtu.entry_placed_other {n : Pos} (other : n ≠ k) : (g.placed k d).entry n = g.entry n := by
  rw [Gtu.placed, Gtu.entry_placeAtRank, Gtu.entry_setEntry_other _ other]

/-- The list with `k` placed in it, or taken off it. -/
structure Gtu.Relisted (g : Gtu) (k : Pos) (h : Gtu) (placed : Prop) : Prop where
  self : k ∈ h.waitList ↔ placed
  others : ∀ q, q ≠ k → (q ∈ h.waitList ↔ q ∈ g.waitList)
  distinct : h.waitList.Nodup
  ordered : h.Ordered

theorem Gtu.relisted_placed (distinct : g.waitList.Nodup) (ordered : g.Ordered) : g.Relisted k (g.placed k d) (d.waitRank ≠ 0) := by
  have ranks : (g.placed k d).rankClass = (g.setEntry k d).rankClass := Gtu.rankClass_congr fun n => Gtu.entry_placeAtRank k _ _ n
  have rest : ((g.setEntry k d).offList k).Ordered := ordered_offList (g := g) rfl (fun q other => g.entry_setEntry_other other _) ordered
  have mem (q : Pos) : q ∈ (g.waitList.filter fun q => q ≠ k) ↔ q ∈ g.waitList ∧ q ≠ k := by rw [List.mem_filter, decide_eq_true_eq]
  have few : (g.waitList.filter fun q => q ≠ k).Nodup := distinct.sublist List.filter_sublist
  rcases Nat.eq_zero_or_pos d.waitRank with zero | ranked
  · have list : (g.placed k d).waitList = g.waitList.filter fun q => q ≠ k := by
      rw [Gtu.placed, zero, Gtu.placeAtRank_zero]
      rfl
    refine ⟨?_, fun q other => ?_, by rw [list]; exact few, ?_⟩
    · rw [list, mem, zero]
      simp
    · rw [list, mem]
      exact and_iff_left other
    · rw [Gtu.Ordered, list, ranks]
      exact rest
  · obtain ⟨before, after, list, split, low, high, -⟩ := Gtu.placeAtRank_splits (g := g.setEntry k d) k ranked rest
    replace list : (g.placed k d).waitList = before ++ k :: after := list
    replace split : before ++ after = g.waitList.filter fun q => q ≠ k := split
    have perm : (g.placed k d).waitList.Perm (k :: g.waitList.filter fun q => q ≠ k) := by
      rw [list, ← split]
      exact List.perm_middle
    refine ⟨?_, fun q other => ?_, ?_, ?_⟩
    · rw [list]
      simpa using ranked.ne'
    · rw [perm.mem_iff, List.mem_cons, mem]
      simp [other]
    · rw [perm.nodup_iff, List.nodup_cons, mem]
      exact ⟨fun both => both.2 rfl, few⟩
    · have inOrder : (before ++ after).Pairwise fun p q => (g.setEntry k d).rankClass p ≤ (g.setEntry k d).rankClass q := by
        rw [split]
        exact rest
      obtain ⟨first, second, across⟩ := List.pairwise_append.mp inOrder
      rw [Gtu.Ordered, list, ranks, List.pairwise_append, List.pairwise_cons]
      refine ⟨first, ⟨high, second⟩, fun a memA c memC => ?_⟩
      rcases List.mem_cons.mp memC with rfl | later
      · exact low a memA
      · exact across a memA c later

/-- What the checks of a slice say of the laws of its position. -/
theorem sliceOk_position {np : Nat} (roles : ∀ n, (g.entry n).role = blockRole blk n) (distinct : g.waitList.Nodup) (ordered : g.Ordered)
    (role : d.role = (g.entry k).role) (ok : sliceOk blk np k d = true) : (g.placed k d).Position everyone nobody everyone k := by
  have relisted := Gtu.relisted_placed (d := d) (k := k) distinct ordered
  have rolesAfter (n : Pos) : ((g.placed k d).entry n).role = blockRole blk n := by
    by_cases same : n = k
    · rw [same, Gtu.entry_placed_self, role, roles]
    · rw [Gtu.entry_placed_other same, roles]
  obtain ⟨empty, configured, backup, primary⟩ := (sliceOk_iff blk np k d).mp ok
  by_cases isPrimary : d.role = .primary
  · obtain ⟨partners, classed, ranked, locked⟩ := primary isPrimary
    have partnered := (configured (by rw [isPrimary]; decide)).2.2.2.2
    refine ⟨fun _ => ?_, fun _ b partner => ?_, fun b held _ => ?_, fun _ _ exempt => absurd trivial exempt, fun _ _ exempt => absurd trivial exempt,
      fun mem => ?_, fun _ => ?_⟩
    · rw [Gtu.entry_placed_self]
      exact partnered
    · rw [Gtu.entry_placed_self] at partner
      rw [rolesAfter]
      exact (partners b partner).1
    · obtain ⟨-, engaged, -⟩ := (Gtu.holds_iff k b).mp held
      rw [Gtu.entry_placed_self] at engaged ⊢
      refine Bool.eq_false_iff.mpr fun isLocked => ?_
      rcases (locked isLocked).1 with none | dropping
      · rw [none] at engaged
        cases engaged
      · rw [dropping] at engaged
        cases engaged
    · obtain ⟨presence, unlocked, free, cls, -⟩ := ranked (relisted.self.mp mem)
      rw [Gtu.entry_placed_self]
      exact ⟨isPrimary, free, (Cls.mayWait_iff _).mpr cls, fun _ => ⟨presence, unlocked⟩⟩
    · rw [Gtu.entry_placed_self, relisted.self, not_not]
      exact classed
  · have other : ((g.placed k d).entry k).role ≠ .primary := by rwa [Gtu.entry_placed_self]
    have idle (b : Pos) (held : (g.placed k d).holds k b = true) : False := other ((Gtu.holds_iff k b).mp held).1
    refine ⟨fun is => absurd is other, fun is => absurd is other, fun b held => (idle b held).elim, fun b held => (idle b held).elim,
      fun b held => (idle b held).elim, fun mem => ?_, fun is => absurd is other⟩
    refine absurd ?_ (relisted.self.mp mem)
    cases is : d.role with
    | empty =>
      rw [empty is]
      rfl
    | primary => exact absurd is isPrimary
    | backup => exact (backup is).2.1

theorem sound_overwrite {np : Nat} (roles : ∀ n, (g.entry n).role = blockRole blk n) (sound : g.Sound nobody nobody nobody)
    (role : d.role = (g.entry k).role) (ok : sliceOk blk np k d = true) : (g.overwrite k d).Sound nobody nobody nobody := by
  have relisted := Gtu.relisted_placed (d := d) (k := k) sound.distinct sound.ordered
  have holds {p : Pos} (other : p ≠ k) (b : Pos) : (g.placed k d).holds p b = g.holds p b := Gtu.holds_congr (Gtu.entry_placed_other other) b
  have drops {p : Pos} (other : p ≠ k) (b : Pos) : (g.placed k d).drops p b = g.drops p b := Gtu.drops_congr (Gtu.entry_placed_other other) b
  have roleAfter (n : Pos) : ((g.placed k d).entry n).role = (g.entry n).role := by
    by_cases same : n = k
    · rw [same, Gtu.entry_placed_self, role]
    · rw [Gtu.entry_placed_other same]
  have laws (p : Pos) : (g.placed k d).Position everyone nobody everyone p := by
    by_cases same : p = k
    · rw [same]
      exact sliceOk_position roles sound.distinct sound.ordered role ok
    · obtain ⟨partnered, backed, unlocked, -, -, listed, classed⟩ := sound.position p
      have entry : (g.placed k d).entry p = g.entry p := Gtu.entry_placed_other same
      refine ⟨?_, ?_, fun b held => ?_, fun _ _ exempt => absurd trivial exempt, fun _ _ exempt => absurd trivial exempt, ?_, ?_⟩
      · rw [entry]
        exact partnered
      · simp only [entry, roleAfter]
        exact backed
      · rw [entry]
        exact unlocked b (by rwa [holds same] at held)
      · rw [entry, relisted.others p same]
        exact listed
      · rw [entry, relisted.others p same]
        exact classed
  rw [Gtu.overwrite_eq role]
  refine sound_settle (sound_repaired (fun p => (laws p).settle) (fun p q b isP isQ first second => ?_) (fun p q b isP isQ first second => ?_)
    (by rw [Gtu.waitList_settle]; exact relisted.distinct) (ordered_of_cls (Gtu.waitList_settle _) (fun n => by rw [Gtu.entry_settle]) relisted.ordered))
  · rw [Gtu.holds_settle, holds isP] at first
    rw [Gtu.holds_settle, holds isQ] at second
    exact sound.single p q b first second
  · rw [Gtu.drops_settle, drops isP] at first
    rw [Gtu.drops_settle, drops isQ] at second
    exact sound.dropped p q b nobody_not first second

/-! ## Founding (R78) -/

theorem sound_claimed {fresh : Gtu} (free : ∀ n, (fresh.entry n).assignment = .none ∧ (fresh.entry n).partner = none ∧ (fresh.entry n).cls = .none ∧
    (fresh.entry n).locked = false) (claimed : fresh.Claimed (fun _ => True) g) : g.Sound nobody nobody nobody := by
  have idle (n : Pos) : (g.entry n).assignment = .none ∧ (g.entry n).partner = none := by
    rw [claimed.cover n]
    exact ⟨(free n).1, (free n).2.1⟩
  have unrelated (n b : Pos) := Gtu.idle_of_none (idle n).1 b
  have claims (n : Pos) (mem : n ∈ g.waitList) : ∃ c : Cls, g.entry n = { fresh.entry n with cls := c } ∧ c.mayWait = true ∧
      (fresh.entry n).role = .primary ∧ (fresh.entry n).presence = .present := by
    obtain ⟨c, claim⟩ := Option.isSome_iff_exists.mp ((claimed.list n).mp mem).2
    have fit := claim
    unfold Entry.foundingClaim at fit
    split at fit
    · next both => exact ⟨c, claimed.claims n c trivial claim, Condition.claim_mayWait fit, both⟩
    · cases fit
  refine ⟨fun p => ⟨fun _ => ?_, fun _ b partner => ?_, fun b held => absurd held (unrelated p b).1, fun b held => absurd held (unrelated p b).1,
    fun b held => absurd held (unrelated p b).1, fun mem => ?_, fun _ => ?_⟩, fun p q b held => absurd held (unrelated p b).1,
    fun p q b _ drops => absurd drops (unrelated p b).2, claimed.distinct, claimed.order.imp fun order => ?_⟩
  · rw [(idle p).1, (idle p).2]
    simp
  · rw [(idle p).2] at partner
    cases partner
  · obtain ⟨c, entry, waits, primary, presence⟩ := claims p mem
    rw [entry]
    exact ⟨primary, (free p).1, waits, fun _ => ⟨presence, (free p).2.2.2⟩⟩
  · by_cases mem : p ∈ g.waitList
    · obtain ⟨c, entry, waits, -⟩ := claims p mem
      rw [entry]
      exact ⟨fun none => absurd none (Cls.ne_none_of_mayWait waits), fun off => absurd mem off.2⟩
    · rw [claimed.others p (fun both => mem ((claimed.list p).mpr both))]
      exact ⟨fun _ => ⟨(free p).1, mem⟩, fun _ => (free p).2.2.1⟩
  · rcases order with lower | ⟨same, -⟩
    · exact Nat.le_of_lt lower
    · rw [Gtu.rankClass, Gtu.rankClass, same]

theorem foundedEntry_locked (n : Pos) (role : Role) : (foundedEntry r n role).locked = false := by
  unfold foundedEntry
  dsimp only
  split <;> rfl

theorem sound_founded : (g.found blk r).Sound nobody nobody nobody := by
  rw [Gtu.found_eq, Gtu.foundingClaims]
  refine sound_serviceStage (sound_settle (sound_claimed (fun n => ?_) (g.claimed_all blk r)))
  rw [g.entry_freshTable]
  obtain ⟨free, partner, -, -, cls⟩ := foundedEntry_free r n (blockRole blk n)
  exact ⟨free, partner, cls, foundedEntry_locked n _⟩

/-! ## Every step -/

theorem Entry.foundingClaim_cleared (role : Role) : (Entry.cleared role).foundingClaim = none := by cases role <;> rfl

theorem sound_cleared (roles : Pos → Role) : (Gtu.cleared roles).Sound nobody nobody nobody := by
  have claimless (n : Pos) : ((Gtu.cleared roles).entry n).foundingClaim = none := by
    rw [Gtu.entry_cleared]
    exact Entry.foundingClaim_cleared _
  refine sound_claimed (fresh := Gtu.cleared roles) (fun n => ?_)
    ⟨fun n c _ claim => ?_, fun _ _ => rfl, fun n => ?_, List.nodup_nil, .nil, .rfl⟩
  · rw [Gtu.entry_cleared]
    exact ⟨rfl, rfl, rfl, rfl⟩
  · rw [claimless] at claim
    cases claim
  · rw [claimless]
    exact ⟨fun mem => absurd mem List.not_mem_nil, fun both => absurd both.2 Bool.false_ne_true⟩

/-- The roles of the block, and the laws of covers and of the wait list. -/
def Gtu.Orderly (blk : List Byte) (g : Gtu) : Prop := (∀ n, (g.entry n).role = blockRole blk n) ∧ g.Sound nobody nobody nobody

/-- The index of the slice and the requested state are no part of the laws. -/
theorem sound_of_tables (sound : g.Sound unfit stale crowded) (entries : ∀ n, h.entry n = g.entry n) (list : h.waitList = g.waitList) :
    h.Sound unfit stale crowded :=
  sound.relist (fun n => by rw [entries]) (fun n _ => by rw [entries]; exact ⟨rfl, rfl, rfl⟩) (fun q => by rw [list]) (by rw [list]; exact sound.distinct)
    (ordered_of_cls list (fun n => by rw [entries]) sound.ordered)

theorem tableLaw_orderly : TableLaw Gtu.Orderly where
  cleared := fun blk => ⟨fun n => by rw [Gtu.entry_cleared]; rfl, sound_cleared _⟩
  requested := fun _ ⟨roles, sound⟩ => ⟨roles, sound_of_tables sound (fun _ => rfl) rfl⟩
  compare := fun {own blk g} v _ ⟨roles, sound⟩ => by
    refine ⟨fun n => by rw [Gtu.role_compareStage, roles], ?_⟩
    rcases g.compareStage_cases blk (primariesOf blk) v with ⟨k, same⟩ | ⟨k, d, overwritten, role, ok⟩
    · rw [same]
      exact sound_of_tables sound (fun _ => rfl) rfl
    · rw [overwritten]
      exact sound_overwrite (g := { g with sliceIndex := k }) roles (sound_of_tables sound (fun _ => rfl) rfl) role ok
  stages := fun r _ ⟨roles, sound⟩ => ⟨fun n => by rw [Gtu.role_tableStages, roles], sound_tableStages sound⟩
  found := fun {own blk g} r _ => ⟨Gtu.role_found blk r g, sound_founded⟩

end

/-- Settles O56: each stage keeps the laws but for the positions it has still to deal with, the comparison by its repair, and a founding begins with them. -/
theorem stepKeepsCoverAndWaitListLaws : Obligations.StepKeepsCoverAndWaitListLaws := by
  have kept (s t : State) (lawful : Lawful s) (steps : step s = .next t) : CoversLawful t.gtu ∧ WaitListLawful t.gtu := by
    have laws := lawful
    obtain ⟨-, -, ⟨roles, -⟩, covers, list, -⟩ := laws
    obtain ⟨-, -, sound⟩ := tableLaw_orderly.step lawful ⟨roles, sound_iff.mpr ⟨covers, list⟩⟩ steps
    exact sound_iff.mp sound
  exact ⟨fun s t lawful steps => (kept s t lawful steps).1, fun s t lawful steps => (kept s t lawful steps).2⟩

end Sys2Proof.Machine
end

section
/-! SUPPORT. The service ends with no candidate waiting (R89 to R92, R102, assumption 16): each selection lowers the sum of the classes the backups are
held at. -/

namespace Sys2Proof.Machine

open Sys2Proof.Safety

section
variable {unfit stale crowded : Pos → Prop} {g h : Gtu} {p q b b' : Pos} {blk : List Byte} {c : Cls}

/-! ## Who is served -/

/-- Nobody is served exactly when nobody on the list has a candidate. -/
theorem firstServed_none : ∀ {l : List Pos}, g.firstServed blk l = none → ∀ q ∈ l, g.choose blk q (g.entry q).cls = none
  | [], _, _, mem => absurd mem List.not_mem_nil
  | p :: l, served, q, mem => by
    rw [Gtu.firstServed] at served
    cases chosen : g.choose blk p (g.entry p).cls with
    | some b =>
      rw [chosen] at served
      cases served
    | none =>
      rw [chosen] at served
      rcases List.mem_cons.mp mem with rfl | later
      · exact chosen
      · exact firstServed_none served q later

theorem firstServed_all {l : List Pos} (alone : ∀ q ∈ l, ∀ b : Pos, g.candidate blk q (g.entry q).cls b = false) : g.firstServed blk l = none := by
  have skipped := g.firstServed_skips blk l [] fun q mem => (g.choose_eq_none_iff blk q _).mpr (alone q mem)
  rw [List.append_nil] at skipped
  exact skipped

/-! ## The class a backup is held at, 7 where it is free -/

def Gtu.weight (g : Gtu) (b : Pos) : Nat :=
  match g.holder b with
  | none => 7
  | some q => g.rankClass q

theorem Gtu.weight_free (free : g.holder b = none) : g.weight b = 7 := by rw [Gtu.weight, free]

theorem Gtu.weight_held (held : g.holder b = some q) : g.weight b = (g.entry q).cls.code := by
  rw [Gtu.weight, held]
  rfl

theorem Cls.code_le (c : Cls) : c.code ≤ 6 := by cases c <;> decide

theorem Gtu.weight_le (g : Gtu) (b : Pos) : g.weight b ≤ 7 := by
  cases held : g.holder b with
  | none => exact (Gtu.weight_free held).le
  | some q =>
    rw [Gtu.weight_held held]
    exact (Cls.code_le _).trans (by decide)

/-- An available backup stands at a greater class than the one it is available for. -/
theorem Gtu.lt_weight (available : g.available b c = true) : c.code < g.weight b := by
  cases held : g.holder b with
  | none =>
    rw [Gtu.weight_free held]
    exact Nat.lt_succ_of_le (Cls.code_le c)
  | some q =>
    rw [Gtu.weight_held held]
    exact (g.available_iff b c).mp available q held

theorem Gtu.weight_congr (same : ∀ x, h.holds x b = g.holds x b) (entries : ∀ x, g.holds x b = true → h.entry x = g.entry x) :
    h.weight b = g.weight b := by
  have holder : h.holder b = g.holder b := by
    rw [Gtu.holder, Gtu.holder]
    simp only [same]
  cases held : g.holder b with
  | none => rw [Gtu.weight_free held, Gtu.weight_free (holder.trans held)]
  | some q => rw [Gtu.weight_held held, Gtu.weight_held (holder.trans held), entries q (Gtu.holder_holds held)]

/-! ## What a selection leaves of the other holders -/

/-- The holders of `b` keep their entries. -/
def Gtu.HoldersKept (g h : Gtu) (b : Pos) : Prop := ∀ x, (g.holds x b = true → h.entry x = g.entry x) ∧ (h.holds x b = true → g.holds x b = true)

theorem Gtu.HoldersKept.trans {i : Gtu} (first : g.HoldersKept h b) (second : h.HoldersKept i b) : g.HoldersKept i b := fun x =>
  ⟨fun held => by
    have entry := (first x).1 held
    rw [(second x).1 (by rwa [Gtu.holds_congr entry]), entry],
    fun held => (first x).2 ((second x).2 held)⟩

theorem Gtu.HoldersKept.weight (kept : g.HoldersKept h b) : h.weight b = g.weight b := by
  refine Gtu.weight_congr (fun x => ?_) fun x held => (kept x).1 held
  rw [Bool.eq_iff_iff]
  exact ⟨(kept x).2, fun held => by rwa [Gtu.holds_congr ((kept x).1 held)]⟩

/-- A revocation of one backup's holder keeps the holders of the others. -/
theorem holdersKept_revoke (held : g.holds q b = true) (other : b' ≠ b) : g.HoldersKept (g.revoke q) b' := by
  refine fun x => ⟨fun holds => ?_, Gtu.revoke_holds⟩
  have engaged := ((Gtu.holds_iff x b').mp holds).2.1
  refine (g.ends_revoke q).others x ?_ ?_
  · rintro rfl
    have one := ((Gtu.holds_iff x b).mp held).2.2
    rw [((Gtu.holds_iff x b').mp holds).2.2] at one
    exact other (Option.some.inj one)
  · rintro ⟨-, -, d, -, drops⟩
    have dropping := ((Gtu.drops_iff x d).mp ((Gtu.dropsHeard_iff d).mp drops).1).2.1
    rw [dropping] at engaged
    cases engaged

/-- A new cover of a primary in NONE keeps the holders of the other backups. -/
theorem holdersKept_newCover (free : (g.entry p).assignment = .none) (other : b' ≠ b) (a : Assignment) :
    g.HoldersKept ((g.setCover p a (some b) c).offList p) b' := by
  obtain ⟨own, others, -⟩ := g.newCover_effects p a (some b) c
  refine fun x => ⟨fun holds => others x ?_, fun holds => ?_⟩
  · rintro rfl
    exact (Gtu.idle_of_none free b').1 holds
  · by_cases same : x = p
    · have partner := ((Gtu.holds_iff x b').mp holds).2.2
      rw [same, own] at partner
      exact absurd (Option.some.inj partner).symm other
    · rwa [Gtu.holds_congr (others x same)] at holds

theorem Gtu.revoke_free (free : (g.entry p).assignment = .none) (held : g.holds q b = true) : ((g.revoke q).entry p).assignment = .none := by
  have other : p ≠ q := by
    rintro rfl
    exact (Gtu.idle_of_none free b).1 held
  rcases othersStay_revoke (g := g) p other with kept | cleared
  · rw [kept.1, free]
  · rw [cleared.1]

/-- What a selection leaves: the holders of every other backup, and its own primary the holder of the one selected. -/
theorem select_holders (primary : (g.entry p).role = .primary) (free : (g.entry p).assignment = .none) :
    (∀ b', b' ≠ b → g.HoldersKept (g.select p b c) b') ∧ (g.select p b c).holds p b = true ∧ ((g.select p b c).entry p).cls = c := by
  have place {i : Gtu} (role : (i.entry p).role = .primary) : ((i.setCover p .yielding (some b) c).offList p).holds p b = true ∧
      (((i.setCover p .yielding (some b) c).offList p).entry p).cls = c := by
    obtain ⟨own, -⟩ := i.newCover_effects p .yielding (some b) c
    rw [Gtu.holds_iff, own]
    exact ⟨⟨role, rfl, rfl⟩, rfl⟩
  cases held : g.holder b with
  | none =>
    rw [g.select_of_free held]
    exact ⟨fun b' other => holdersKept_newCover free other .yielding, place primary⟩
  | some q =>
    have holds := Gtu.holder_holds held
    rw [g.select_of_held held]
    refine ⟨fun b' other => (holdersKept_revoke holds other).trans (holdersKept_newCover (Gtu.revoke_free free holds) other .yielding), place ?_⟩
    rw [(coversOnly_revoke ((Gtu.holds_iff q b).mp holds).1).role]
    exact primary

/-! ## The sum falls -/

/-- The sum over the positions of the class each is held at. -/
def Gtu.load (g : Gtu) : Nat := ∑ b : Pos, g.weight b

theorem Gtu.load_le (g : Gtu) : g.load ≤ 112 :=
  calc g.load ≤ ∑ _b : Pos, 7 := Finset.sum_le_sum fun b _ => g.weight_le b
    _ = 112 := by decide

theorem weight_orderRequeues (start : Gtu) (b : Pos) : (g.orderRequeues start).weight b = g.weight b :=
  Gtu.weight_congr (fun x => Gtu.holds_congr (g.entry_orderRequeues start x) b) fun x _ => g.entry_orderRequeues start x

theorem Gtu.holder_of_holds (sound : g.Sound unfit stale crowded) (held : g.holds p b = true) : g.holder b = some p := by
  cases holder : g.holder b with
  | none =>
    rw [Gtu.holder_none.mp holder p] at held
    cases held
  | some q => rw [sound.single q p b (Gtu.holder_holds holder) held]

/-- A selection for a primary in NONE lowers the sum. -/
theorem load_select (start : Gtu) (sound : g.Sound unfit stale crowded) (free : (g.entry p).assignment = .none) (chosen : g.choose blk p c = some b)
    (classed : c ≠ .none) : ((g.select p b c).orderRequeues start).load < g.load := by
  obtain ⟨kept, holds, cls⟩ := select_holders (b := b) (c := c) (Gtu.choose_fit chosen).1 free
  obtain ⟨-, -, -, -, available⟩ := (g.candidate_iff blk p b c).mp (g.choose_candidate blk p c chosen)
  have lower : (g.select p b c).weight b < g.weight b := by
    rw [Gtu.weight_held (Gtu.holder_of_holds (sound_chosen sound chosen classed) holds), cls]
    exact Gtu.lt_weight available
  refine Finset.sum_lt_sum (fun b' _ => ?_) ⟨b, Finset.mem_univ b, ?_⟩ <;> rw [weight_orderRequeues]
  · by_cases same : b' = b
    · rw [same]
      exact lower.le
    · exact (kept b' same).weight.le
  · exact lower

/-- With at least as many selections as the sum allows, the service ends with nobody left to serve. -/
theorem serveUpTo_ends (start : Gtu) (n : Nat) : ∀ {g : Gtu}, g.Sound unfit stale crowded → g.load ≤ n →
    (Gtu.serveUpTo blk start n g).firstServed blk (Gtu.serveUpTo blk start n g).waitList = none := by
  induction n with
  | zero =>
    intro g sound few
    rw [Gtu.serveUpTo]
    cases served : g.firstServed blk g.waitList with
    | none => rfl
    | some pb =>
      obtain ⟨mem, chosen⟩ := firstServed_some served
      obtain ⟨-, free, waits, -⟩ := (sound.position pb.1).listed mem
      have falls := load_select g sound free chosen (Cls.ne_none_of_mayWait waits)
      exact absurd few (by omega)
  | succ n ih =>
    intro g sound few
    cases served : g.firstServed blk g.waitList with
    | none => rwa [g.serveUpTo_none blk start (n + 1) served]
    | some pb =>
      obtain ⟨mem, chosen⟩ := firstServed_some served
      obtain ⟨-, free, waits, -⟩ := (sound.position pb.1).listed mem
      have classed := Cls.ne_none_of_mayWait waits
      have falls := load_select start sound free chosen classed
      rw [g.serveUpTo_some blk start n pb.1 pb.2 served]
      exact ih (sound_orderRequeues start (sound_chosen sound chosen classed)) (by omega)

end

/-- Settles O35: the first primary served by the equations of the service, and its end by the sum of the classes the backups are held at, which every
selection lowers. -/
theorem serviceLeavesNoCandidateWaiting : Obligations.ServiceLeavesNoCandidateWaiting := by
  refine ⟨fun blk g => ⟨rfl, rfl⟩, fun blk start g n => ⟨fun alone => ?_, fun before after p b list skipped chosen => ?_⟩,
    fun blk g covers list p mem b => ?_⟩
  · exact g.serveUpTo_none blk start n (firstServed_all alone)
  · refine g.serveUpTo_some blk start n p b ?_
    rw [list, g.firstServed_skips blk before (p :: after) fun q mem => (g.choose_eq_none_iff blk q _).mpr (skipped q mem), Gtu.firstServed, chosen]
  · have ends := serveUpTo_ends (blk := blk) g 112 (sound_iff.mpr ⟨covers, list⟩) g.load_le
    exact (Gtu.choose_eq_none_iff _ blk p _).mp (firstServed_none ends p mem) b

end Sys2Proof.Machine
end

section
/-! SUPPORT. What the ends of covers make of one primary: its assignment, its partner, its class and its place on the list (R82 to R85). -/

namespace Sys2Proof.Machine

open Sys2Proof.Safety

section
variable {unfit stale crowded : Pos → Prop} {g h i : Gtu} {p q n b : Pos} {a : Assignment} {o : Option Pos} {c : Cls} {on : Prop}

/-! ## The standing of one primary -/

/-- `p` has this assignment, partner and class, and is on the list exactly if `on`. -/
def Gtu.At (g : Gtu) (p : Pos) (a : Assignment) (o : Option Pos) (c : Cls) (on : Prop) : Prop :=
  (g.entry p).assignment = a ∧ (g.entry p).partner = o ∧ (g.entry p).cls = c ∧ (p ∈ g.waitList ↔ on)

theorem Gtu.at_self (g : Gtu) (p : Pos) : g.At p (g.entry p).assignment (g.entry p).partner (g.entry p).cls (p ∈ g.waitList) := ⟨rfl, rfl, rfl, .rfl⟩

theorem Gtu.At.kept (at' : g.At p a o c on) (kept : g.KeptAt h p) : h.At p a o c on := by
  obtain ⟨entry, list⟩ := kept
  rw [Gtu.At, entry, list]
  exact at'

theorem Gtu.At.cast {on' : Prop} (at' : g.At p a o c on) (same : on ↔ on') : g.At p a o c on' := by
  obtain ⟨assignment, partner, cls, list⟩ := at'
  exact ⟨assignment, partner, cls, list.trans same⟩

theorem Gtu.ClearedAt.at (cleared : g.ClearedAt h p) : h.At p .none none .none False := by
  obtain ⟨entry, off⟩ := cleared
  rw [Gtu.At, entry]
  exact ⟨rfl, rfl, rfl, iff_false_intro off⟩

theorem Gtu.At.settleFrom (start : Gtu) (role : (g.entry p).role = .primary) (at' : g.At p a o c on) : (g.settleFrom start).At p a o c on := by
  obtain ⟨assignment, partner, cls, list⟩ := at'
  rw [Gtu.At, Gtu.waitList_settleFrom, Gtu.mem_orderRequeues, Gtu.entry_settleFrom_primary role]
  exact ⟨assignment, partner, cls, list⟩

theorem Gtu.At.reading {f : Pos → Entry → Entry} (cover : ∀ n e, (f n e).cover = e.cover) (at' : g.At p a o c on) : (g.mapEntries f).At p a o c on := by
  obtain ⟨assignment, partner, cls, list⟩ := at'
  have covers := cover p (g.entry p)
  simp only [Entry.cover, Prod.mk.injEq] at covers
  obtain ⟨sameAssignment, samePartner, sameCls, -⟩ := covers
  rw [Gtu.At, Gtu.entry_mapEntries]
  exact ⟨sameAssignment.trans assignment, samePartner.trans partner, sameCls.trans cls, list⟩

/-- A primary without a partner is related to nobody. -/
theorem Gtu.At.idle (at' : g.At p a none c on) (b : Pos) : ¬g.holds p b = true ∧ ¬g.drops p b = true := by
  obtain ⟨-, partner, -⟩ := at'
  constructor <;> intro related
  · have own := ((Gtu.holds_iff p b).mp related).2.2
    rw [partner] at own
    cases own
  · have own := ((Gtu.drops_iff p b).mp related).2.2
    rw [partner] at own
    cases own

theorem Gtu.At.undropped (at' : g.At p a o c on) (other : a ≠ .dropping) (b : Pos) : ¬g.drops p b = true := by
  intro drops
  exact other (at'.1.symm.trans ((Gtu.drops_iff p b).mp drops).2.1)

/-! ## Ending a cover -/

/-- An entry is one that returns to the wait list with class `c` (R82, R84). -/
abbrev Entry.Returns (e : Entry) (c : Cls) : Prop := e.presence = .present ∧ e.locked = false ∧ c.mayWait = true

theorem Entry.returns_congr {e e' : Entry} (facts : e'.facts = e.facts) (c : Cls) : e'.Returns c ↔ e.Returns c := by
  obtain ⟨presence, locked, -⟩ := Entry.vitals_of_facts facts
  rw [Entry.Returns, presence, locked]

/-- `p` is in NONE: on the list with class `c`, when entry `e` returns to it, or cleared. -/
def Gtu.Returned (g : Gtu) (p : Pos) (e : Entry) (c : Cls) : Prop := g.At p .none none (if e.Returns c then c else .none) (e.Returns c)

theorem Gtu.Returned.of_facts {e e' : Entry} (returned : g.Returned p e' c) (facts : e'.facts = e.facts) : g.Returned p e c := by
  have same := Entry.returns_congr facts c
  simp only [Gtu.Returned, same] at returned
  exact returned

theorem returned_requeueOrClear : (g.requeueOrClear p).Returned p (g.entry p) (g.entry p).cls := by
  rcases g.requeueOrClear_cases p with ⟨presence, unlocked, waits, requeued⟩ | ⟨stays, cleared⟩
  · have returns : (g.entry p).Returns (g.entry p).cls := ⟨presence, unlocked, waits⟩
    rw [Gtu.Returned, if_pos returns, requeued, Gtu.At, Gtu.entry_requeue, Gtu.entry_setCover_self, Gtu.mem_requeue]
    exact ⟨rfl, rfl, rfl, iff_of_true (.inl rfl) returns⟩
  · have stays' : ¬(g.entry p).Returns (g.entry p).cls := stays
    rw [Gtu.Returned, if_neg stays', cleared]
    exact (g.clearedAt_clearPrimary p).at.cast (iff_of_false id stays')

theorem Gtu.at_toDropping (c : Cls) : (g.toDropping p c).At p .dropping (g.entry p).partner c (p ∈ g.waitList) := by
  rw [Gtu.At, Gtu.toDropping_self]
  exact ⟨rfl, rfl, rfl, Gtu.mem_toDropping c fun displaced => displaced.1 rfl⟩

/-! ## The other primaries -/

theorem keptAt_requeueOrClear (other : q ≠ p) : g.KeptAt (g.requeueOrClear p) q := by
  refine ⟨Gtu.requeueOrClear_other other, ?_⟩
  rcases g.requeueOrClear_cases p with ⟨-, -, -, requeued⟩ | ⟨-, cleared⟩
  · rw [requeued, Gtu.mem_requeue]
    exact or_iff_right other
  · rw [cleared]
    exact (Gtu.keptAt_clearPrimary (Ne.symm other)).2

theorem Gtu.KeptAt.refl (g : Gtu) (p : Pos) : g.KeptAt g p := ⟨rfl, .rfl⟩

/-- `p` acts for a backup `q` drops. -/
def Gtu.Ousts (g : Gtu) (p q : Pos) : Prop := ((g.entry p).assignment = .taking ∨ (g.entry p).assignment = .active) ∧ g.displaces p q

theorem keptAt_revoke (other : q ≠ p) (stays : ¬g.Ousts p q) : g.KeptAt (g.revoke p) q := by
  rcases (g.entry p).assignment.ending with a | a | a | a
  · rw [Gtu.revoke_rests (.inl a)]
    exact .refl g q
  · rw [Gtu.revoke_yielding a]
    exact keptAt_requeueOrClear other
  · rw [Gtu.revoke_acting a]
    exact Gtu.toDropping_kept _ other fun displaced => stays ⟨a, displaced⟩
  · rw [Gtu.revoke_rests (.inr a)]
    exact .refl g q

theorem keptAt_release (other : q ≠ p) (stays : ¬g.Ousts p q) : g.KeptAt (g.release p) q := by
  rcases (g.entry p).assignment.ending with a | a | a | a
  · by_cases waits : p ∈ g.waitList
    · rw [Gtu.release_waiting a waits]
      exact Gtu.keptAt_clearPrimary (Ne.symm other)
    · rw [Gtu.release_free a waits]
      exact .refl g q
  · rw [Gtu.release_yielding a]
    exact Gtu.keptAt_clearPrimary (Ne.symm other)
  · rw [Gtu.release_acting a]
    exact Gtu.toDropping_kept _ other fun displaced => stays ⟨a, displaced⟩
  · rw [Gtu.release_dropping a]
    exact ⟨Gtu.entry_setCls_other other _, .rfl⟩

theorem clearedAt_revoke (ousts : g.Ousts p q) : g.ClearedAt (g.revoke p) q := (g.ends_revoke p).cleared q ousts.1 ousts.2

theorem clearedAt_release (ousts : g.Ousts p q) : g.ClearedAt (g.release p) q := (g.ends_release p).cleared q ousts.1 ousts.2

theorem Gtu.Ousts.drops (ousts : g.Ousts p q) : q ≠ p ∧ ∃ b, (g.entry p).partner = some b ∧ g.drops q b = true ∧ (g.entry b).presence ≠ .lost := by
  obtain ⟨-, other, b, partner, drops⟩ := ousts
  obtain ⟨drops, heard⟩ := (Gtu.dropsHeard_iff b).mp drops
  exact ⟨other, b, partner, drops, heard⟩

/-- A primary that ousts another holds the backup the other drops. -/
theorem Gtu.Ousts.holds (ousts : g.Ousts p q) (role : (g.entry p).role = .primary) (partner : (g.entry q).partner = some b) : g.holds p b = true := by
  have acts := ousts.1
  obtain ⟨-, d, own, drops, -⟩ := ousts.drops
  have same : some b = some d := partner.symm.trans ((Gtu.drops_iff q d).mp drops).2.2
  rw [Option.some.inj same]
  exact (Gtu.holds_iff p d).mpr ⟨role, Assignment.engaged_of_acts acts, own⟩

/-! ## The holder of a backup -/

theorem Gtu.revokeHolders_none (unheld : ∀ q, ¬g.holds q b = true) : g.revokeHolders b = g := by
  have all : ∀ l : List Pos, l.foldl (fun g p => if g.holds p b then g.revoke p else g) g = g := by
    intro l
    induction l with
    | nil => rfl
    | cons p l ih => rw [List.foldl_cons, if_neg (unheld p), ih]
  exact all allPos

/-- A fold whose steps rest but at one position, and rest everywhere after it, is that one step. -/
theorem foldl_once {f : Gtu → Pos → Gtu} (before : ∀ q, q ≠ p → f g q = g) (after : ∀ q, f (f g p) q = f g p) :
    ∀ l : List Pos, p ∈ l → l.foldl f g = f g p
  | [], mem => absurd mem List.not_mem_nil
  | q :: l, mem => by
    have rests : ∀ l : List Pos, l.foldl f (f g p) = f g p := by
      intro l
      induction l with
      | nil => rfl
      | cons q l ih => rw [List.foldl_cons, after, ih]
    by_cases same : q = p
    · rw [same, List.foldl_cons, rests]
    · rw [List.foldl_cons, before q same, foldl_once before after l ((List.mem_cons.mp mem).resolve_left (Ne.symm same))]

theorem Gtu.revokeHolders_held (single : ∀ q, g.holds q b = true → q = p) (held : g.holds p b = true) : g.revokeHolders b = g.revoke p := by
  have step : (if g.holds p b then g.revoke p else g) = g.revoke p := if_pos held
  have once := foldl_once (g := g) (p := p) (f := fun g q => if g.holds q b then g.revoke q else g)
    (fun q other => if_neg fun holds => other (single q holds))
    (fun q => by
      rw [step]
      refine if_neg fun holds => ?_
      have was := single q (Gtu.revoke_holds holds)
      rw [was] at holds
      exact Gtu.revoke_unheld b holds) allPos (mem_allPos p)
  exact once.trans step

/-! ## Folds that turn something -/

/-- What every step of a fold keeps, for the list that is left. -/
theorem foldl_along {f : Gtu → Pos → Gtu} {P : List Pos → Gtu → Prop} (step : ∀ n l h, P (n :: l) h → P l (f h n)) :
    ∀ (l : List Pos) (h : Gtu), P l h → P [] (l.foldl f h)
  | [], _, holds => holds
  | n :: l, h, holds => foldl_along step l (f h n) (step n l h holds)

/-- A fold that turns `before` to `after` at `x`, and perhaps at another position, ends in `after`. -/
theorem foldl_turns {f : Gtu → Pos → Gtu} {J : List Pos → Gtu → Prop} {before after : Gtu → Prop} {x : Pos} {l : List Pos}
    (kept : ∀ n l h, J (n :: l) h → J l (f h n)) (stays : ∀ n l h, J (n :: l) h → after h → after (f h n))
    (own : ∀ l h, J (x :: l) h → before h → after (f h x)) (other : ∀ n l h, n ≠ x → J (n :: l) h → before h → before (f h n) ∨ after (f h n))
    (mem : x ∈ l) (start : J l g) (begins : before g) : after (l.foldl f g) := by
  have ends := foldl_along (f := f) (P := fun l h => J l h ∧ (after h ∨ x ∈ l ∧ before h)) (fun n l h holds => ?_) l g ⟨start, .inr ⟨mem, begins⟩⟩
  · exact ends.2.resolve_right fun none => List.not_mem_nil none.1
  · obtain ⟨inv, turned | ⟨mem, waits⟩⟩ := holds
    · exact ⟨kept n l h inv, .inl (stays n l h inv turned)⟩
    · refine ⟨kept n l h inv, ?_⟩
      by_cases same : n = x
      · subst same
        exact .inl (own l h inv waits)
      · rcases other n l h same inv waits with waits | turned
        · exact .inr ⟨(List.mem_cons.mp mem).resolve_left (Ne.symm same), waits⟩
        · exact .inl turned

/-- A fold whose steps keep something, where the list allows it. -/
theorem foldl_stays {f : Gtu → Pos → Gtu} {J : List Pos → Gtu → Prop} {P : Gtu → Prop} {l : List Pos} (kept : ∀ n l h, J (n :: l) h → J l (f h n))
    (stays : ∀ n l h, J (n :: l) h → P h → P (f h n)) (start : J l g) (begins : P g) : P (l.foldl f g) :=
  (foldl_along (f := f) (P := fun l h => J l h ∧ P h) (fun n l h holds => ⟨kept n l h holds.1, stays n l h holds.1 holds.2⟩) l g ⟨start, begins⟩).2

/-! ## The end of every DROPPING of a backup -/

theorem keptAt_endDroppings (undropped : ¬g.drops p b = true) : g.KeptAt (g.endDroppings b) p := by
  refine Gtu.foldl_keeps (P := fun h => g.KeptAt h p) (fun h q kept => ?_) allPos g (.refl g p)
  split
  · next drops =>
    refine kept.trans (keptAt_requeueOrClear ?_)
    rintro rfl
    rw [Gtu.drops_congr kept.1] at drops
    exact undropped drops
  · exact kept

theorem returned_endDroppings (drops : g.drops p b = true) : (g.endDroppings b).Returned p (g.entry p) (g.entry p).cls := by
  refine foldl_turns (J := fun _ _ => True) (before := fun h => g.KeptAt h p) (after := fun h => h.Returned p (g.entry p) (g.entry p).cls) (x := p)
    (fun _ _ _ _ => trivial) (fun q _ h _ returned => ?_) (fun _ h _ kept => ?_) (fun q _ h other _ kept => .inl ?_) (mem_allPos p) trivial (.refl g p)
  · split
    · next dropsNow =>
      refine Gtu.At.kept returned (keptAt_requeueOrClear ?_)
      rintro rfl
      exact (Gtu.At.idle returned b).2 dropsNow
    · exact returned
  · rw [if_pos (by rw [Gtu.drops_congr kept.1]; exact drops), ← kept.1]
    exact returned_requeueOrClear
  · split
    · exact kept.trans (keptAt_requeueOrClear (Ne.symm other))
    · exact kept

/-! ## Who holds -/

/-- From `g` to `h` a primary that holds a backup held it, in the same assignment. -/
def Gtu.HoldsStay (g h : Gtu) : Prop := ∀ n b, h.holds n b = true → g.holds n b = true ∧ (h.entry n).assignment = (g.entry n).assignment

theorem Gtu.HoldsStay.refl (g : Gtu) : g.HoldsStay g := fun _ _ held => ⟨held, rfl⟩

theorem Gtu.HoldsStay.trans (first : g.HoldsStay h) (second : h.HoldsStay i) : g.HoldsStay i := fun n b held => by
  obtain ⟨holds, same⟩ := second n b held
  obtain ⟨held, same'⟩ := first n b holds
  exact ⟨held, same.trans same'⟩

theorem holdsStay_of_others (others : g.OthersStay h p) (unheld : ∀ b, ¬h.holds p b = true) : g.HoldsStay h := fun n b held => by
  by_cases same : n = p
  · rw [same] at held
    exact absurd held (unheld b)
  · rcases others n same with kept | cleared
    · exact ⟨by rwa [Gtu.holds_congr kept.1] at held, by rw [kept.1]⟩
    · rw [(cleared.idle b).1] at held
      cases held

theorem holdsStay_requeueOrClear : g.HoldsStay (g.requeueOrClear p) :=
  holdsStay_of_others othersStay_requeueOrClear fun b => (Gtu.idle_of_none Gtu.requeueOrClear_free b).1

theorem holdsStay_revoke : g.HoldsStay (g.revoke p) := holdsStay_of_others othersStay_revoke Gtu.revoke_unheld

theorem holdsStay_foldl {f : Gtu → Pos → Gtu} (each : ∀ (g : Gtu) (p : Pos), g.HoldsStay (f g p)) (l : List Pos) : g.HoldsStay (l.foldl f g) :=
  Gtu.foldl_keeps (P := fun h => g.HoldsStay h) (fun h p kept => kept.trans (each h p)) l g (.refl g)

theorem holdsStay_revokeHolders (b : Pos) : g.HoldsStay (g.revokeHolders b) := by
  refine holdsStay_foldl (fun g p => ?_) allPos
  split
  · exact holdsStay_revoke
  · exact .refl g

theorem holdsStay_endDroppings (b : Pos) : g.HoldsStay (g.endDroppings b) := by
  refine holdsStay_foldl (fun g p => ?_) allPos
  split
  · exact holdsStay_requeueOrClear
  · exact .refl g

theorem othersStay_release : g.OthersStay (g.release p) p := fun q other => by
  by_cases ousts : g.Ousts p q
  · exact .inr (clearedAt_release ousts)
  · exact .inl (keptAt_release other ousts)

theorem holdsStay_release (sound : g.Sound unfit stale crowded) (primary : (g.entry p).role = .primary) : g.HoldsStay (g.release p) :=
  holdsStay_of_others othersStay_release (release_ends sound primary).1

theorem holdsStay_mapEntries {f : Pos → Entry → Entry} (role : ∀ n e, (f n e).role = e.role) (cover : ∀ n e, (f n e).cover = e.cover) :
    g.HoldsStay (g.mapEntries f) := fun n b held => by
  have covers := cover n (g.entry n)
  simp only [Entry.cover, Prod.mk.injEq] at covers
  obtain ⟨assignment, partner, -⟩ := covers
  have related := (Gtu.holds_iff n b).mp held
  rw [Gtu.entry_mapEntries, role, assignment, partner] at related
  rw [Gtu.entry_mapEntries]
  exact ⟨(Gtu.holds_iff n b).mpr related, assignment⟩

end

end Sys2Proof.Machine
end

section
/-! SUPPORT. The presence stage (R64, R65, R85): what the losses of a record make of one primary. -/

namespace Sys2Proof.Machine

open Sys2Proof.Safety

section
variable {unfit stale crowded : Pos → Prop} {g h : Gtu} {p q n b : Pos} {a : Assignment} {o : Option Pos} {c : Cls} {on : Prop} {blk : List Byte}
  {r : EpochRecord}

/-! ## Release (R83) -/

theorem at_release_free (at' : g.At p .none o c False) : (g.release p).At p .none o c False := by
  rw [Gtu.release_free at'.1 at'.2.2.2.mp]
  exact at'

theorem at_release_yielding (at' : g.At p .yielding o c on) : (g.release p).At p .none none .none False := by
  rw [Gtu.release_yielding at'.1]
  exact (g.clearedAt_clearPrimary p).at

theorem at_release_covered (acts : a = .taking ∨ a = .active ∨ a = .dropping) (at' : g.At p a o c on) : (g.release p).At p .dropping o .hold on := by
  obtain ⟨rfl, rfl, -, list⟩ := at'
  by_cases dropping : (g.entry p).assignment = .dropping
  · rw [Gtu.release_dropping dropping, Gtu.At, Gtu.entry_setCls_self]
    exact ⟨dropping, rfl, rfl, list⟩
  · rw [Gtu.release_acting (acts.imp_right fun either => either.resolve_right dropping)]
    exact (Gtu.at_toDropping .hold).cast list

/-! ## One loss -/

/-- The revocation of a backup keeps a primary that neither holds it nor is ousted by the one that does. -/
theorem keptAt_revokeHolders (sound : g.Sound unfit stale crowded) (unheld : ¬g.holds p b = true)
    (unousted : ∀ q, g.holds q b = true → ¬g.Ousts q p) : g.KeptAt (g.revokeHolders b) p := by
  by_cases held : ∃ q, g.holds q b = true
  · obtain ⟨q, holds⟩ := held
    rw [Gtu.revokeHolders_held (fun x heldBy => sound.single x q b heldBy holds) holds]
    refine keptAt_revoke ?_ (unousted q holds)
    rintro rfl
    exact unheld holds
  · rw [Gtu.revokeHolders_none fun q holds => held ⟨q, holds⟩]
    exact .refl g p

theorem keptAt_revokeHolders_apart (sound : g.Sound unfit stale crowded) (partner : (g.entry p).partner ≠ some b) :
    g.KeptAt (g.revokeHolders b) p := by
  refine keptAt_revokeHolders sound (fun held => partner ((Gtu.holds_iff p b).mp held).2.2) fun q held ousts => ?_
  obtain ⟨-, d, own, drops, -⟩ := ousts.drops
  rw [((Gtu.holds_iff q b).mp held).2.2] at own
  exact partner (((Gtu.drops_iff p d).mp drops).2.2.trans own.symm)

/-- A loss elsewhere keeps a primary that has another partner and is not ousted. -/
theorem keptAt_applyLoss (sound : g.Sound unfit stale crowded) (other : p ≠ n) (partner : (g.entry p).partner ≠ some n)
    (stays : (g.entry n).role = .primary → ¬g.Ousts n p) : g.KeptAt (g.applyLoss n) p := by
  have undropped {h : Gtu} (kept : g.KeptAt h p) : ¬h.drops p n = true := fun drops => by
    have own := ((Gtu.drops_iff p n).mp drops).2.2
    rw [kept.1] at own
    exact partner own
  cases role : (g.entry n).role with
  | empty =>
    rw [Gtu.applyLoss_empty role]
    exact .refl g p
  | primary =>
    rw [Gtu.applyLoss_primary role]
    exact keptAt_release other (stays role)
  | backup =>
    rw [Gtu.applyLoss_backup role]
    have revoked := keptAt_revokeHolders_apart sound partner
    exact revoked.trans (keptAt_endDroppings (undropped revoked))

/-- A class kept on the list is one that may wait, so a revocation changes none that returns. -/
theorem Gtu.Returned.kept_cls {e : Entry} (returned : g.Returned p e (if c.mayWait then c else .hold)) : g.Returned p e c := by
  by_cases waits : c.mayWait = true
  · rwa [if_pos waits] at returned
  · rw [if_neg waits] at returned
    have stays : ¬e.Returns c := fun returns => waits returns.2.2
    have stays' : ¬e.Returns .hold := fun returns => Bool.false_ne_true returns.2.2
    rw [Gtu.Returned, if_neg stays'] at returned
    rw [Gtu.Returned, if_neg stays]
    exact Gtu.At.cast returned (iff_of_false stays' stays)

/-- Entry `e` does not return, whatever its class. -/
theorem returned_lost {e : Entry} (lost : e.presence = .lost) : g.Returned p e c ↔ g.At p .none none .none False := by
  have stays : ¬e.Returns c := fun returns => by cases lost.symm.trans returns.1
  rw [Gtu.Returned, if_neg stays, Gtu.At, Gtu.At, iff_false_intro stays]

/-- The loss of a backup ends the cover of each of its primaries. -/
theorem returned_applyLoss (sound : g.Sound unfit stale crowded) (role : (g.entry p).role = .primary) (backup : (g.entry b).role = .backup)
    (lost : (g.entry b).presence = .lost) (covers : (g.entry p).assignment ≠ .none) (partner : (g.entry p).partner = some b) :
    (g.applyLoss b).Returned p (g.entry p) (g.entry p).cls := by
  have unousted (q : Pos) : ¬g.Ousts q p := fun ousts => by
    obtain ⟨-, d, -, drops, heard⟩ := ousts.drops
    have same : some b = some d := partner.symm.trans ((Gtu.drops_iff p d).mp drops).2.2
    rw [← Option.some.inj same] at heard
    exact heard lost
  rw [Gtu.applyLoss_backup backup]
  by_cases held : g.holds p b = true
  · rw [Gtu.revokeHolders_held (fun q holds => sound.single q p b holds held) held]
    have engaged := ((Gtu.holds_iff p b).mp held).2.1
    rcases (g.entry p).assignment.ending with a | a | acts | a
    · exact absurd a covers
    · rw [Gtu.revoke_yielding a]
      have returned := returned_requeueOrClear (g := g) (p := p)
      exact Gtu.At.kept returned (keptAt_endDroppings (Gtu.At.idle returned b).2)
    · rw [Gtu.revoke_acting acts]
      have facts := g.facts_toDropping p p (if (g.entry p).cls.mayWait then (g.entry p).cls else .hold)
      have drops : (g.toDropping p (if (g.entry p).cls.mayWait then (g.entry p).cls else .hold)).drops p b = true := by
        rw [Gtu.drops_iff, Gtu.toDropping_self]
        exact ⟨role, rfl, partner⟩
      have ends := (returned_endDroppings drops).of_facts facts
      rw [Gtu.toDropping_self] at ends
      exact ends.kept_cls
    · rw [a] at engaged
      cases engaged
  · have kept : g.KeptAt (g.revokeHolders b) p := keptAt_revokeHolders sound held fun q _ => unousted q
    have dropping : (g.entry p).assignment = .dropping := by
      by_contra a
      refine held ((Gtu.holds_iff p b).mpr ⟨role, ?_, partner⟩)
      cases is : (g.entry p).assignment with
      | none => exact absurd is covers
      | dropping => exact absurd is a
      | yielding | taking | active => rfl
    have drops : (g.revokeHolders b).drops p b = true := by
      rw [Gtu.drops_congr kept.1]
      exact (Gtu.drops_iff p b).mpr ⟨role, dropping, partner⟩
    have ends := returned_endDroppings drops
    rw [kept.1] at ends
    exact ends

theorem holdsStay_applyLoss (sound : g.Sound unfit stale crowded) (p : Pos) : g.HoldsStay (g.applyLoss p) := by
  cases role : (g.entry p).role with
  | empty =>
    rw [Gtu.applyLoss_empty role]
    exact .refl g
  | primary =>
    rw [Gtu.applyLoss_primary role]
    exact holdsStay_release sound role
  | backup =>
    rw [Gtu.applyLoss_backup role]
    exact (holdsStay_revokeHolders p).trans (holdsStay_endDroppings p)

/-! ## The losses of a record -/

/-- What the losses dealt with leave, with those of `l` still to come. -/
structure Gtu.Losing (blk : List Byte) (r : EpochRecord) (g : Gtu) (l : List Pos) (h : Gtu) : Prop where
  only : (g.tracked blk r).CoversOnly h
  sound : h.Sound (· ∈ l) (· ∈ l) (· ∈ l)
  holds : g.HoldsStay h
  losses : ∀ n ∈ l, n ∈ g.losses blk r

theorem Gtu.Losing.step {l : List Pos} (losing : g.Losing blk r (n :: l) h) : g.Losing blk r l (h.applyLoss n) :=
  ⟨losing.only.trans (coversOnly_applyLoss h n), sound_loss losing.sound, losing.holds.trans (holdsStay_applyLoss losing.sound n),
    fun m mem => losing.losses m (List.mem_cons_of_mem n mem)⟩

theorem losing_tracked (sound : g.Sound nobody nobody nobody) : g.Losing blk r (g.losses blk r) (g.tracked blk r) :=
  ⟨.refl _, sound_tracked sound, holdsStay_mapEntries (fun _ e => e.track_role _ _) fun _ e => e.track_cover _ _, fun _ => id⟩

theorem Gtu.role_tracked (n : Pos) : ((g.tracked blk r).entry n).role = (g.entry n).role := by rw [Gtu.entry_tracked, Entry.track_role]

theorem Gtu.Losing.role {l : List Pos} (losing : g.Losing blk r l h) (n : Pos) : (h.entry n).role = (g.entry n).role := by
  rw [losing.only.role, Gtu.role_tracked]

/-- A position still to be dealt with is lost. -/
theorem Gtu.Losing.lost {l : List Pos} (losing : g.Losing blk r l h) (mem : n ∈ l) : (h.entry n).presence = .lost :=
  (losing.only.present n).1.trans (Gtu.mem_losses.mp (losing.losses n mem)).1

/-- Some primary that takes or acts on the backup `p` drops is lost in the record (assumption 21). -/
def Gtu.OustedByLoss (blk : List Byte) (r : EpochRecord) (g : Gtu) (p : Pos) : Prop :=
  (g.entry p).assignment = .dropping ∧ ∃ q, ((g.entry q).role = .primary ∧ (g.entry q).partner = (g.entry p).partner ∧
    ((g.entry q).assignment = .taking ∨ (g.entry q).assignment = .active)) ∧ q ∈ g.losses blk r

section
variable (sound : g.Sound nobody nobody nobody) (role : (g.entry p).role = .primary)
include sound role

/-- Only a primary of the same backup ousts, by its loss. -/
theorem Gtu.Losing.unousted {l : List Pos} (losing : g.Losing blk r (n :: l) h) (partner : (h.entry p).partner = (g.entry p).partner)
    (stays : ¬g.OustedByLoss blk r p) (isPrimary : (h.entry n).role = .primary) : ¬h.Ousts n p := fun ousts => by
  obtain ⟨other, b, -, drops, -⟩ := ousts.drops
  have own := ((Gtu.drops_iff p b).mp drops).2.2
  obtain ⟨held, same⟩ := losing.holds n b (ousts.holds isPrimary own)
  rw [partner] at own
  by_cases dropping : (g.entry p).assignment = .dropping
  · refine stays ⟨dropping, n, ⟨((Gtu.holds_iff n b).mp held).1, ?_, ?_⟩, losing.losses n List.mem_cons_self⟩
    · rw [own, ((Gtu.holds_iff n b).mp held).2.2]
    · rw [← same]
      exact ousts.1
  · refine other (sound.single p n b ((Gtu.holds_iff p b).mpr ⟨role, ?_, own⟩) held)
    cases is : (g.entry p).assignment with
    | none =>
      have covered := ((sound.position p).partnered role).mp (by rw [own]; rfl)
      exact absurd is covered
    | dropping => exact absurd is dropping
    | yielding | taking | active => rfl

/-- A primary whose backup is not lost stands until its own loss. -/
theorem Gtu.Losing.at_other {l : List Pos} (losing : g.Losing blk r (n :: l) h) (other : n ≠ p) (heard : ∀ b, (g.entry p).partner = some b →
    b ∉ g.losses blk r) (stays : ¬g.OustedByLoss blk r p) (at' : h.At p a (g.entry p).partner c on) : (h.applyLoss n).At p a (g.entry p).partner c on := by
  refine at'.kept (keptAt_applyLoss losing.sound (Ne.symm other) (fun own => ?_) (losing.unousted sound role at'.2.1 stays))
  exact heard n (at'.2.1.symm.trans own) (losing.losses n List.mem_cons_self)

omit sound role in
/-- A primary without a partner, off the list, stays so. -/
theorem Gtu.Losing.at_none {l : List Pos} (losing : g.Losing blk r (n :: l) h) (role : (g.entry p).role = .primary) (at' : h.At p .none none c False) :
    (h.applyLoss n).At p .none none c False := by
  by_cases same : n = p
  · rw [same, Gtu.applyLoss_primary (by rw [losing.role, role])]
    exact at_release_free at'
  · refine at'.kept (keptAt_applyLoss losing.sound (Ne.symm same) (fun own => ?_) fun _ ousts => ?_)
    · cases at'.2.1.symm.trans own
    · obtain ⟨-, b, -, drops, -⟩ := ousts.drops
      exact (Gtu.At.idle at' b).2 drops

omit sound role in
theorem at_tracked : (g.tracked blk r).At p (g.entry p).assignment (g.entry p).partner (g.entry p).cls (p ∈ g.waitList) :=
  (g.at_self p).reading fun _ e => e.track_cover _ _

theorem at_tracked_off (covers : (g.entry p).assignment ≠ .none) :
    (g.tracked blk r).At p (g.entry p).assignment (g.entry p).partner (g.entry p).cls False :=
  at_tracked.cast (iff_false_intro (sound.covered role covers).2.2)

/-- The loss of its backup returns a primary to NONE, by its own presence and lock as the record leaves them. -/
theorem losses_returned (partner : (g.entry p).partner = some b) (lost : b ∈ g.losses blk r) :
    ((g.losses blk r).foldl Gtu.applyLoss (g.tracked blk r)).Returned p ((g.tracked blk r).entry p) (g.entry p).cls := by
  have covers := ((sound.position p).partnered role).mp (by rw [partner]; rfl)
  have backup : (g.entry b).role = .backup := (sound.position p).backed role b partner
  have distinct : b ≠ p := by
    rintro rfl
    cases role.symm.trans backup
  have facts {l : List Pos} {h : Gtu} (losing : g.Losing blk r l h) : (h.entry p).facts = ((g.tracked blk r).entry p).facts := (losing.only p).1
  have unousted {n : Pos} {l : List Pos} {h : Gtu} (losing : g.Losing blk r (n :: l) h) (own : (h.entry p).partner = some b) : ¬h.Ousts n p :=
    fun ousts => by
      obtain ⟨-, d, -, drops, heard⟩ := ousts.drops
      have same : some b = some d := own.symm.trans ((Gtu.drops_iff p d).mp drops).2.2
      rw [← Option.some.inj same, (losing.only.present b).1] at heard
      exact heard (Gtu.mem_losses.mp lost).1
  refine foldl_turns (J := fun l h => g.Losing blk r l h) (x := b)
    (before := fun h => h.At p (g.entry p).assignment (some b) (g.entry p).cls False ∨
      (((g.tracked blk r).entry p).presence = .lost ∧ (h.At p .none none .none False ∨ h.At p .dropping (some b) .hold False)))
    (after := fun h => h.Returned p ((g.tracked blk r).entry p) (g.entry p).cls)
    (fun n l h losing => losing.step) (fun n l h losing returned => ?_) (fun l h losing waits => ?_) (fun n l h other losing waits => ?_)
    lost (losing_tracked sound) (.inl (partner ▸ at_tracked_off sound role covers))
  · by_cases same : n = p
    · have gone : ((g.tracked blk r).entry p).presence = .lost := by
        rw [← same]
        exact (Gtu.mem_losses.mp (losing.losses n List.mem_cons_self)).1
      exact (returned_lost gone).mpr (losing.at_none role ((returned_lost gone).mp returned))
    · refine Gtu.At.kept returned (keptAt_applyLoss losing.sound (Ne.symm same) (fun own => ?_) fun _ ousts => ?_)
      · cases returned.2.1.symm.trans own
      · obtain ⟨-, d, -, drops, -⟩ := ousts.drops
        exact (Gtu.At.idle returned d).2 drops
  · have ends (assigned : (h.entry p).assignment ≠ .none) (own : (h.entry p).partner = some b) :=
      (returned_applyLoss losing.sound (by rw [losing.role, role]) (by rw [losing.role, backup]) (losing.lost List.mem_cons_self) assigned own).of_facts
        (facts losing)
    rcases waits with stands | ⟨gone, cleared | dropping⟩
    · obtain ⟨assignment, own, cls, -⟩ := stands
      have returned := ends (by rw [assignment]; exact covers) own
      rwa [cls] at returned
    · exact (returned_lost gone).mpr (losing.at_none role cleared)
    · obtain ⟨assignment, own, -⟩ := dropping
      exact (returned_lost gone).mpr ((returned_lost gone).mp (ends (by rw [assignment]; decide) own))
  · refine .inl ?_
    by_cases same : n = p
    · rw [same, Gtu.applyLoss_primary (by rw [losing.role, role])]
      have gone : ((g.tracked blk r).entry p).presence = .lost := by
        rw [← same]
        exact (Gtu.mem_losses.mp (losing.losses n List.mem_cons_self)).1
      refine .inr ⟨gone, ?_⟩
      rcases waits with stands | ⟨-, cleared | dropping⟩
      · rcases (g.entry p).assignment.ending with a | a | a | a
        · exact absurd a covers
        · rw [a] at stands
          exact .inl (at_release_yielding stands)
        · exact .inr (at_release_covered (a.imp_right .inl) stands)
        · exact .inr (at_release_covered (.inr (.inr a)) stands)
      · exact .inl (at_release_free cleared)
      · exact .inr (at_release_covered (.inr (.inr rfl)) dropping)
    · have keeps {a : Assignment} {c : Cls} (at' : h.At p a (some b) c False) : (h.applyLoss n).At p a (some b) c False := by
        refine at'.kept (keptAt_applyLoss losing.sound (Ne.symm same) (fun own => ?_) fun _ => unousted losing at'.2.1)
        exact other (Option.some.inj (own.symm.trans at'.2.1))
      rcases waits with stands | ⟨gone, cleared | dropping⟩
      · exact .inl (keeps stands)
      · exact .inr ⟨gone, .inl (losing.at_none role cleared)⟩
      · exact .inr ⟨gone, .inr (keeps dropping)⟩

section
variable (heard : ∀ b, (g.entry p).partner = some b → b ∉ g.losses blk r)
include heard

/-- The loss of a primary in NONE or YIELDING clears it. -/
theorem losses_cleared (lost : p ∈ g.losses blk r) (quiet : (g.entry p).assignment = .none ∨ (g.entry p).assignment = .yielding) :
    ((g.losses blk r).foldl Gtu.applyLoss (g.tracked blk r)).At p .none none .none False := by
  have still : ¬g.OustedByLoss blk r p := fun ousted => by
    rw [ousted.1] at quiet
    rcases quiet with a | a <;> cases a
  refine foldl_turns (J := fun l h => g.Losing blk r l h) (x := p)
    (before := fun h => h.At p (g.entry p).assignment (g.entry p).partner (g.entry p).cls (p ∈ g.waitList))
    (after := fun h => h.At p .none none .none False) (fun n l h losing => losing.step) (fun n l h losing cleared => losing.at_none role cleared) (fun l h losing stands => ?_)
    (fun n l h other losing stands => .inl (losing.at_other sound role other heard still stands)) lost (losing_tracked sound) at_tracked
  rw [Gtu.applyLoss_primary (by rw [losing.role, role])]
  rcases quiet with a | a
  · by_cases waits : p ∈ g.waitList
    · rw [Gtu.release_waiting (stands.1.trans a) (stands.2.2.2.mpr waits)]
      exact (h.clearedAt_clearPrimary p).at
    · have unpartnered : (g.entry p).partner = none := by
        have partnered := (sound.position p).partnered role
        rw [a] at partnered
        simpa using partnered
      rw [a, unpartnered, ((sound.position p).classed role).mpr ⟨a, waits⟩] at stands
      exact at_release_free (stands.cast (iff_false_intro waits))
  · rw [a] at stands
    exact at_release_yielding stands

/-- The loss of a primary that takes or acts on the same backup clears one in DROPPING. -/
theorem losses_ousted (ousted : g.OustedByLoss blk r p) : ((g.losses blk r).foldl Gtu.applyLoss (g.tracked blk r)).At p .none none .none False := by
  obtain ⟨dropping, q, ⟨roleQ, partnerQ, acts⟩, lost⟩ := ousted
  obtain ⟨⟨b, partner, -⟩, -, -⟩ := sound.covered role (by rw [dropping]; decide)
  rw [partner] at partnerQ
  have held : g.holds q b = true := (Gtu.holds_iff q b).mpr ⟨roleQ, Assignment.engaged_of_acts acts, partnerQ⟩
  have distinct : q ≠ p := by
    rintro rfl
    rw [dropping] at acts
    rcases acts with a | a <;> cases a
  have bHeard : ((g.tracked blk r).entry b).presence ≠ .lost := fun gone =>
    heard b partner (Gtu.mem_losses.mpr ⟨gone, (sound.position q).heard b held nobody_not⟩)
  have coversQ : (g.entry q).assignment ≠ .none := by rcases acts with a | a <;> rw [a] <;> decide
  have begins := at_tracked_off (blk := blk) (r := r) sound role (by rw [dropping]; decide)
  have beginsQ := at_tracked_off (blk := blk) (r := r) sound roleQ coversQ
  rw [dropping, partner] at begins
  rw [partnerQ] at beginsQ
  refine foldl_turns (J := fun l h => g.Losing blk r l h) (x := q)
    (before := fun h => (∃ c, h.At p .dropping (some b) c False) ∧ h.At q (g.entry q).assignment (some b) (g.entry q).cls False)
    (after := fun h => h.At p .none none .none False) (fun n l h losing => losing.step) (fun n l h losing cleared => losing.at_none role cleared) (fun l h losing stands => ?_)
    (fun n l h other losing stands => .inl ?_) lost (losing_tracked sound) ⟨⟨_, begins⟩, beginsQ⟩
  · obtain ⟨⟨c, drops⟩, acting⟩ := stands
    rw [Gtu.applyLoss_primary (by rw [losing.role, roleQ])]
    refine (clearedAt_release ⟨by rw [acting.1]; exact acts, Ne.symm distinct, b, acting.2.1, (Gtu.dropsHeard_iff b).mpr ⟨?_, ?_⟩⟩).at
    · exact (Gtu.drops_iff p b).mpr ⟨by rw [losing.role, role], drops.1, drops.2.1⟩
    · rw [(losing.only.present b).1]
      exact bHeard
  · obtain ⟨⟨c, drops⟩, acting⟩ := stands
    have stillQ : ¬g.OustedByLoss blk r q := fun ousted => by
      rw [ousted.1] at acts
      rcases acts with a | a <;> cases a
    refine ⟨?_, ?_⟩
    · by_cases same : n = p
      · rw [same, Gtu.applyLoss_primary (by rw [losing.role, role])]
        exact ⟨_, at_release_covered (.inr (.inr rfl)) drops⟩
      · refine ⟨c, drops.kept (keptAt_applyLoss losing.sound (Ne.symm same) (fun own => ?_) fun isPrimary ousts => ?_)⟩
        · rw [drops.2.1] at own
          exact heard b partner (Option.some.inj own ▸ losing.losses n List.mem_cons_self)
        · obtain ⟨heldNow, -⟩ := losing.holds n b (ousts.holds isPrimary drops.2.1)
          exact other (sound.single n q b heldNow held)
    · rw [← partnerQ] at acting ⊢
      exact losing.at_other sound roleQ other (fun d own => heard d (partner.trans (partnerQ.symm.trans own))) stillQ acting

variable (still : ¬g.OustedByLoss blk r p)
include still

/-- The loss of a covered primary leaves it in DROPPING, to be held. -/
theorem losses_dropping (lost : p ∈ g.losses blk r)
    (covered : (g.entry p).assignment = .taking ∨ (g.entry p).assignment = .active ∨ (g.entry p).assignment = .dropping) :
    ((g.losses blk r).foldl Gtu.applyLoss (g.tracked blk r)).At p .dropping (g.entry p).partner .hold False := by
  have covers : (g.entry p).assignment ≠ .none := by rcases covered with a | a | a <;> rw [a] <;> decide
  refine foldl_turns (J := fun l h => g.Losing blk r l h) (x := p)
    (before := fun h => h.At p (g.entry p).assignment (g.entry p).partner (g.entry p).cls False)
    (after := fun h => h.At p .dropping (g.entry p).partner .hold False) (fun n l h losing => losing.step) (fun n l h losing dropping => ?_) (fun l h losing stands => ?_)
    (fun n l h other losing stands => .inl (losing.at_other sound role other heard still stands)) lost (losing_tracked sound)
    (at_tracked_off sound role covers)
  · by_cases same : n = p
    · rw [same, Gtu.applyLoss_primary (by rw [losing.role, role])]
      exact at_release_covered (.inr (.inr rfl)) dropping
    · exact losing.at_other sound role same heard still dropping
  · rw [Gtu.applyLoss_primary (by rw [losing.role, role])]
    exact at_release_covered covered stands

/-- Without a loss that concerns it a primary stands. -/
theorem losses_kept (present : p ∉ g.losses blk r) :
    ((g.losses blk r).foldl Gtu.applyLoss (g.tracked blk r)).At p (g.entry p).assignment (g.entry p).partner (g.entry p).cls (p ∈ g.waitList) := by
  refine foldl_stays (J := fun l h => g.Losing blk r l h)
    (P := fun h => h.At p (g.entry p).assignment (g.entry p).partner (g.entry p).cls (p ∈ g.waitList)) (fun n l h losing => losing.step) (fun n l h losing stands => ?_) (losing_tracked sound)
    at_tracked
  refine losing.at_other sound role ?_ heard still stands
  rintro rfl
  exact present (losing.losses n List.mem_cons_self)

end

end

end

end Sys2Proof.Machine
end

section
/-! SUPPORT. The fault stage (R67, R86) and the revocations of the condition stage (R88): what the revocations of a stage make of one primary. -/

namespace Sys2Proof.Machine

open Sys2Proof.Safety

section
variable {unfit stale crowded : Pos → Prop} {g h t : Gtu} {p q n b : Pos} {a : Assignment} {o : Option Pos} {c : Cls} {on : Prop}
  {hit : Pos → Prop} {f : Gtu → Pos → Gtu}

/-! ## One revocation -/

theorem returned_revoke (yielding : (g.entry p).assignment = .yielding) : (g.revoke p).Returned p (g.entry p) (g.entry p).cls := by
  rw [Gtu.revoke_yielding yielding]
  exact returned_requeueOrClear

theorem at_revoke (acts : (g.entry p).assignment = .taking ∨ (g.entry p).assignment = .active) :
    (g.revoke p).At p .dropping (g.entry p).partner (if (g.entry p).cls.mayWait then (g.entry p).cls else .hold) (p ∈ g.waitList) := by
  rw [Gtu.revoke_acting acts]
  exact Gtu.at_toDropping _

/-! ## The revocations of a stage -/

/-- A pass over the positions of `t` that revokes the covers of the backups that `hit` picks, and those of its primaries in YIELDING. -/
structure Revoker (hit : Pos → Prop) (t : Gtu) (f : Gtu → Pos → Gtu) : Prop where
  rests : ∀ h n, t.CoversOnly h → ¬hit n → f h n = h
  empty : ∀ h n, t.CoversOnly h → (t.entry n).role = .empty → f h n = h
  backup : ∀ h n, t.CoversOnly h → hit n → (t.entry n).role = .backup → f h n = h.revokeHolders n
  primary : ∀ h n, t.CoversOnly h → hit n → (t.entry n).role = .primary → f h n = if (h.entry n).assignment = .yielding then h.revoke n else h

/-- What the revocations made so far leave. -/
structure Gtu.Revoking (t h : Gtu) : Prop where
  only : t.CoversOnly h
  sound : h.Sound everyone nobody nobody
  holds : t.HoldsStay h

theorem Gtu.Revoking.refl (sound : t.Sound everyone nobody nobody) : t.Revoking t := ⟨.refl t, sound, .refl t⟩

/-- The primary of `t` that takes or acts on the backup `p` drops, which is picked (assumption 21). -/
def Ousted (hit : Pos → Prop) (t : Gtu) (p : Pos) : Prop :=
  (t.entry p).assignment = .dropping ∧ (∃ b, (t.entry p).partner = some b ∧ hit b) ∧ ∃ q, (t.entry q).role = .primary ∧
    (t.entry q).partner = (t.entry p).partner ∧ ((t.entry q).assignment = .taking ∨ (t.entry q).assignment = .active)

section
variable (revoker : Revoker hit t f)
include revoker

/-- The three things a step can do. -/
theorem Revoker.cases (only : t.CoversOnly h) (n : Pos) : f h n = h ∨ (hit n ∧ (t.entry n).role = .backup ∧ f h n = h.revokeHolders n) ∨
    (hit n ∧ (h.entry n).role = .primary ∧ (h.entry n).assignment = .yielding ∧ f h n = h.revoke n) := by
  by_cases picked : hit n
  · cases role : (t.entry n).role with
    | empty => exact .inl (revoker.empty h n only role)
    | backup => exact .inr (.inl ⟨picked, rfl, revoker.backup h n only picked role⟩)
    | primary =>
      have step := revoker.primary h n only picked role
      split at step
      · next yielding => exact .inr (.inr ⟨picked, by rw [only.role, role], yielding, step⟩)
      · exact .inl step
  · exact .inl (revoker.rests h n only picked)

theorem Revoker.step (revoking : t.Revoking h) (n : Pos) : t.Revoking (f h n) := by
  obtain ⟨only, sound, holds⟩ := revoking
  rcases revoker.cases only n with same | ⟨-, -, revokes⟩ | ⟨-, primary, -, revokes⟩
  · rw [same]
    exact ⟨only, sound, holds⟩
  · rw [revokes]
    exact ⟨only.trans (coversOnly_revokeHolders n), sound_revokeHolders sound n, holds.trans (holdsStay_revokeHolders n)⟩
  · rw [revokes]
    exact ⟨only.trans (coversOnly_revoke primary), sound_revoke sound primary, holds.trans holdsStay_revoke⟩

/-- A step keeps a primary that is not its own to revoke, and whose backup it does not revoke. -/
theorem Revoker.keeps (revoking : t.Revoking h) (partner : hit n → (t.entry n).role = .backup → (h.entry p).partner ≠ some n)
    (own : hit p → (h.entry p).assignment ≠ .yielding) : h.KeptAt (f h n) p := by
  rcases revoker.cases revoking.only n with same | ⟨picked, backup, revokes⟩ | ⟨picked, primary, yielding, revokes⟩
  · rw [same]
    exact .refl h p
  · rw [revokes]
    exact keptAt_revokeHolders_apart revoking.sound (partner picked backup)
  · have quiet : ¬h.Ousts n p := fun ousts => by
      have acts := ousts.1
      rw [yielding] at acts
      rcases acts with a | a <;> cases a
    rw [revokes]
    refine keptAt_revoke ?_ quiet
    rintro rfl
    exact own picked yielding

/-- A primary without a partner, in NONE, stays as it is. -/
theorem Revoker.keeps_none (revoking : t.Revoking h) (at' : h.At p .none none c on) (n : Pos) : (f h n).At p .none none c on := by
  refine at'.kept (revoker.keeps revoking (fun _ _ own => ?_) fun _ yielding => ?_)
  · cases at'.2.1.symm.trans own
  · cases at'.1.symm.trans yielding

section
variable (sound : t.Sound everyone nobody nobody) (role : (t.entry p).role = .primary)
include sound role

/-- A primary in NONE stays as it is through the pass. -/
theorem Revoker.in_none (free : (t.entry p).assignment = .none) :
    (allPos.foldl f t).At p .none none (t.entry p).cls (p ∈ t.waitList) := by
  have unpartnered : (t.entry p).partner = none := by
    have partnered := (sound.position p).partnered role
    rw [free] at partnered
    simpa using partnered
  have begins := t.at_self p
  rw [free, unpartnered] at begins
  exact foldl_stays (J := fun _ h => t.Revoking h) (P := fun h => h.At p .none none (t.entry p).cls (p ∈ t.waitList))
    (fun n _ _ revoking => revoker.step revoking n) (fun n _ _ revoking stands => revoker.keeps_none revoking stands n) (.refl sound) begins

/-- A primary in YIELDING returns to NONE when its backup or it is picked. -/
theorem Revoker.yielding (yielding : (t.entry p).assignment = .yielding) (partner : (t.entry p).partner = some b) (picked : hit b ∨ hit p) :
    (allPos.foldl f t).Returned p (t.entry p) (t.entry p).cls := by
  have backup : (t.entry b).role = .backup := (sound.position p).backed role b partner
  have returns {h : Gtu} (revoking : t.Revoking h) (kept : t.KeptAt h p) : (h.revoke p).Returned p (t.entry p) (t.entry p).cls := by
    rw [← kept.1]
    exact returned_revoke (by rw [kept.1]; exact yielding)
  have held {h : Gtu} (kept : t.KeptAt h p) : h.holds p b = true := by
    rw [Gtu.holds_congr kept.1]
    exact (Gtu.holds_iff p b).mpr ⟨role, by rw [yielding]; rfl, partner⟩
  have event {h : Gtu} (revoking : t.Revoking h) (kept : t.KeptAt h p) (n : Pos) :
      t.KeptAt (f h n) p ∨ (f h n).Returned p (t.entry p) (t.entry p).cls := by
    rcases revoker.cases revoking.only n with same | ⟨-, -, revokes⟩ | ⟨-, -, stage, revokes⟩
    · rw [same]
      exact .inl kept
    · rw [revokes]
      by_cases same : n = b
      · rw [same, Gtu.revokeHolders_held (fun q holds => revoking.sound.single q p b holds (held kept)) (held kept)]
        exact .inr (returns revoking kept)
      · refine .inl (kept.trans (keptAt_revokeHolders_apart revoking.sound fun own => ?_))
        rw [kept.1, partner] at own
        exact same (Option.some.inj own).symm
    · rw [revokes]
      by_cases same : n = p
      · rw [same]
        exact .inr (returns revoking kept)
      · refine .inl (kept.trans (keptAt_revoke (Ne.symm same) fun ousts => ?_))
        have acts := ousts.1
        rw [stage] at acts
        rcases acts with a | a <;> cases a
  have turns (x : Pos) (own : ∀ h, t.Revoking h → t.KeptAt h p → (f h x).Returned p (t.entry p) (t.entry p).cls) :=
    foldl_turns (g := t) (f := f) (J := fun _ h => t.Revoking h) (before := fun h => t.KeptAt h p)
      (after := fun h => h.Returned p (t.entry p) (t.entry p).cls) (fun n _ _ revoking => revoker.step revoking n)
      (fun n _ _ revoking returned => revoker.keeps_none revoking returned n) (fun _ h revoking kept => own h revoking kept)
      (fun n _ _ _ revoking kept => event revoking kept n) (mem_allPos x) (.refl sound) (.refl t p)
  rcases picked with picked | picked
  · refine turns b fun h revoking kept => ?_
    rw [revoker.backup h b revoking.only picked backup,
      Gtu.revokeHolders_held (fun q holds => revoking.sound.single q p b holds (held kept)) (held kept)]
    exact returns revoking kept
  · refine turns p fun h revoking kept => ?_
    rw [revoker.primary h p revoking.only picked role, if_pos (by rw [kept.1]; exact yielding)]
    exact returns revoking kept

/-- A primary that takes or acts goes to DROPPING when its backup is picked. -/
theorem Revoker.acting (acts : (t.entry p).assignment = .taking ∨ (t.entry p).assignment = .active) (partner : (t.entry p).partner = some b)
    (picked : hit b) : (allPos.foldl f t).At p .dropping (some b) (if (t.entry p).cls.mayWait then (t.entry p).cls else .hold) (p ∈ t.waitList) := by
  have backup : (t.entry b).role = .backup := (sound.position p).backed role b partner
  have heldFirst : t.holds p b = true := (Gtu.holds_iff p b).mpr ⟨role, Assignment.engaged_of_acts acts, partner⟩
  refine foldl_turns (J := fun _ h => t.Revoking h) (before := fun h => t.KeptAt h p) (x := b)
    (after := fun h => h.At p .dropping (some b) (if (t.entry p).cls.mayWait then (t.entry p).cls else .hold) (p ∈ t.waitList))
    (fun n _ _ revoking => revoker.step revoking n) (fun n _ h revoking dropping => ?_) (fun _ h revoking kept => ?_)
    (fun n _ h other revoking kept => .inl (kept.trans (revoker.keeps revoking (fun _ _ own => ?_) fun _ yielding => ?_)))
    (mem_allPos b) (.refl sound) (.refl t p)
  · have notYielding : (h.entry p).assignment ≠ .yielding := by
      rw [dropping.1]
      decide
    by_cases same : n = b
    · rw [same, revoker.backup h b revoking.only picked backup, Gtu.revokeHolders_none fun q holds => ?_]
      · exact dropping
      · obtain rfl := sound.single q p b (revoking.holds q b holds).1 heldFirst
        have engaged := ((Gtu.holds_iff q b).mp holds).2.1
        rw [dropping.1] at engaged
        cases engaged
    · refine dropping.kept (revoker.keeps revoking (fun _ _ own => ?_) fun _ => notYielding)
      exact same (Option.some.inj (own.symm.trans dropping.2.1))
  · have held : h.holds p b = true := by rwa [Gtu.holds_congr kept.1]
    have ends := at_revoke (g := h) (p := p) (by rw [kept.1]; exact acts)
    rw [kept.1, partner] at ends
    rw [revoker.backup h b revoking.only picked backup, Gtu.revokeHolders_held (fun q holds => revoking.sound.single q p b holds held) held]
    exact ends.cast kept.2
  · rw [kept.1, partner] at own
    exact other (Option.some.inj own).symm
  · rw [kept.1] at yielding
    rw [yielding] at acts
    rcases acts with a | a <;> cases a

omit role in
/-- A primary stands when neither its backup nor, in YIELDING, it is picked. -/
theorem Revoker.stands (rests : ∀ b, (t.entry p).partner = some b → ¬hit b) (own : hit p → (t.entry p).assignment ≠ .yielding) :
    t.KeptAt (allPos.foldl f t) p := by
  refine foldl_stays (J := fun _ h => t.Revoking h) (P := fun h => t.KeptAt h p) (fun n _ _ revoking => revoker.step revoking n)
    (fun n _ h revoking kept => kept.trans (revoker.keeps revoking (fun picked _ partner => ?_) fun picked => ?_)) (.refl sound) (.refl t p)
  · rw [kept.1] at partner
    exact rests n partner picked
  · rw [kept.1]
    exact own picked

theorem Revoker.ousted (ousted : Ousted hit t p) : (allPos.foldl f t).At p .none none .none False := by
  obtain ⟨dropping, ⟨b, partner, picked⟩, q, roleQ, partnerQ, acts⟩ := ousted
  rw [partner] at partnerQ
  have backup : (t.entry b).role = .backup := (sound.position p).backed role b partner
  have heldFirst : t.holds q b = true := (Gtu.holds_iff q b).mpr ⟨roleQ, Assignment.engaged_of_acts acts, partnerQ⟩
  have distinct : p ≠ q := by
    rintro rfl
    rw [dropping] at acts
    rcases acts with a | a <;> cases a
  refine foldl_turns (J := fun _ h => t.Revoking h) (before := fun h => t.KeptAt h p ∧ t.KeptAt h q) (x := b)
    (after := fun h => h.At p .none none .none False) (fun n _ _ revoking => revoker.step revoking n)
    (fun n _ h revoking cleared => revoker.keeps_none revoking cleared n) (fun _ h revoking kept => ?_)
    (fun n _ h other revoking kept => .inl ⟨kept.1.trans (revoker.keeps revoking (fun _ _ own => ?_) fun _ yielding => ?_),
      kept.2.trans (revoker.keeps revoking (fun _ _ own => ?_) fun _ yielding => ?_)⟩)
    (mem_allPos b) (.refl sound) ⟨.refl t p, .refl t q⟩
  · obtain ⟨keptP, keptQ⟩ := kept
    have held : h.holds q b = true := by rwa [Gtu.holds_congr keptQ.1]
    rw [revoker.backup h b revoking.only picked backup, Gtu.revokeHolders_held (fun x holds => revoking.sound.single x q b holds held) held]
    refine (clearedAt_revoke ⟨by rw [keptQ.1]; exact acts, distinct, b, by rw [keptQ.1]; exact partnerQ, (Gtu.dropsHeard_iff b).mpr ⟨?_, ?_⟩⟩).at
    · rw [Gtu.drops_congr keptP.1]
      exact (Gtu.drops_iff p b).mpr ⟨role, dropping, partner⟩
    · exact (revoking.sound.position q).heard b held nobody_not
  · rw [kept.1.1, partner] at own
    exact other (Option.some.inj own).symm
  · rw [kept.1.1, dropping] at yielding
    cases yielding
  · rw [kept.2.1, partnerQ] at own
    exact other (Option.some.inj own).symm
  · rw [kept.2.1] at yielding
    rw [yielding] at acts
    rcases acts with a | a <;> cases a

omit role in
/-- A primary in DROPPING stands beside another of its backup that is not revoked from TAKING or ACTIVE. -/
theorem Revoker.dropping (dropping : (t.entry p).assignment = .dropping) (still : ¬Ousted hit t p) : t.KeptAt (allPos.foldl f t) p := by
  refine foldl_stays (J := fun _ h => t.Revoking h) (P := fun h => t.KeptAt h p) (fun n _ _ revoking => revoker.step revoking n)
    (fun n _ h revoking kept => kept.trans ?_) (.refl sound) (.refl t p)
  have drops : (h.entry p).assignment = .dropping := by rw [kept.1, dropping]
  rcases revoker.cases revoking.only n with same | ⟨picked, -, revokes⟩ | ⟨-, -, yielding, revokes⟩
  · rw [same]
    exact .refl h p
  · rw [revokes]
    refine keptAt_revokeHolders revoking.sound (fun held => ?_) fun q held ousts => ?_
    · have engaged := ((Gtu.holds_iff p n).mp held).2.1
      rw [drops] at engaged
      cases engaged
    · obtain ⟨-, b, own, dropsB, -⟩ := ousts.drops
      obtain ⟨heldFirst, same⟩ := revoking.holds q n held
      obtain ⟨roleQ, -, partnerQ⟩ := (Gtu.holds_iff q n).mp heldFirst
      have partner := ((Gtu.drops_iff p b).mp dropsB).2.2
      rw [((Gtu.holds_iff q n).mp held).2.2] at own
      rw [← Option.some.inj own, kept.1] at partner
      refine still ⟨dropping, ⟨n, partner, picked⟩, q, roleQ, partnerQ.trans partner.symm, ?_⟩
      rw [← same]
      exact ousts.1
  · rw [revokes]
    refine keptAt_revoke ?_ fun ousts => ?_
    · rintro rfl
      cases drops.symm.trans yielding
    · have acts := ousts.1
      rw [yielding] at acts
      rcases acts with a | a <;> cases a

end

end

end

end Sys2Proof.Machine
end

section
/-! SUPPORT. The fault stage (R67, R86) and the condition stage (R66, R87, R88) on one primary. -/

namespace Sys2Proof.Machine

open Sys2Proof.Safety

section
variable {unfit stale crowded : Pos → Prop} {g h t : Gtu} {p q n b : Pos} {a : Assignment} {o : Option Pos} {c : Cls} {on : Prop} {blk : List Byte}
  {r : EpochRecord}

/-! ## The fault stage -/

/-- The table with the record read into its faults. -/
def Gtu.faultRead (r : EpochRecord) (g : Gtu) : Gtu := g.mapEntries fun n e => e.readFault (r.fault n)

theorem Gtu.faultStage_eq : g.faultStage r = (allPos.foldl Gtu.applyFault (g.faultRead r)).settleFrom g := rfl

theorem sound_faultRead (sound : g.Sound nobody nobody nobody) : (g.faultRead r).Sound everyone nobody nobody := by
  refine sound_mapEntries sound (fun n e => e.readFault_role _) (fun n e => e.readFault_cover _) (fun _ exempt => absurd trivial exempt) ?_ ?_
  · intro n _ role present
    rw [Entry.readFault_eq (by rw [role]; decide)]
    exact present
  · intro n _ role lost
    rw [Entry.readFault_eq (by rw [role]; decide)] at lost
    exact lost

theorem revoker_applyFault (t : Gtu) : Revoker (fun n => (t.entry n).faulted = true) t Gtu.applyFault where
  rests := fun h n only sane => by
    have still : ¬(h.entry n).faulted = true := by rwa [(only.present n).2.2]
    exact if_neg still
  empty := fun h n only role => by
    rw [← only.role] at role
    simp [Gtu.applyFault, role]
  backup := fun h n only faulted role => Gtu.applyFault_backup (by rw [only.role, role]) (by rw [(only.present n).2.2, faulted])
  primary := fun h n only faulted role => by
    rw [← only.role] at role
    rw [← (only.present n).2.2] at faulted
    simp [Gtu.applyFault, role, faulted]

/-! ## The condition stage: the class a condition claims -/

/-- The table with the record read into its conditions. -/
def Gtu.conditionRead (r : EpochRecord) (g : Gtu) : Gtu := g.mapEntries fun n e => e.readCondition (r.condition n)

/-- The table with the classes its primaries' conditions give them. -/
def Gtu.claimed (blk : List Byte) (r : EpochRecord) (g : Gtu) : Gtu := allPos.foldl (Gtu.applyCondition blk) (g.conditionRead r)

theorem Gtu.conditionStage_eq : g.conditionStage blk r = (allPos.foldl Gtu.applyBackupFailed (g.claimed blk r)).settleFrom g := rfl

theorem sound_conditionRead (sound : g.Sound nobody nobody nobody) : (g.conditionRead r).Sound nobody nobody nobody := by
  refine sound_mapEntries sound (fun n e => e.readCondition_role _) (fun n e => e.readCondition_cover _) ?_ ?_ ?_
  · intro n _ role fit
    rw [Entry.readCondition_eq (by rw [role]; decide)]
    exact fit
  · intro n _ role present
    rw [Entry.readCondition_eq (by rw [role]; decide)]
    exact present
  · intro n _ role lost
    rw [Entry.readCondition_eq (by rw [role]; decide)] at lost
    exact lost

theorem sound_conditionClaims (sound : g.Sound nobody nobody nobody) : (g.claimed blk r).Sound nobody nobody nobody :=
  sound_foldl (fun _ p kept => sound_applyCondition kept p) allPos (sound_conditionRead sound)

theorem keptAt_applyCondition (other : q ≠ p) : g.KeptAt (g.applyCondition blk p) q := by
  have classed (c : Cls) : g.KeptAt (g.setCls p c) q := ⟨Gtu.entry_setCls_other other c, .rfl⟩
  have arrives (c : Cls) : g.KeptAt ((g.setCls p c).arrive p) q :=
    ⟨by rw [Gtu.entry_arrive, Gtu.entry_setCls_other other], Gtu.mem_arrive.trans (or_iff_right other)⟩
  unfold Gtu.applyCondition
  dsimp only
  split
  · exact .refl g q
  · split
    · split
      · split
        · split
          · exact Gtu.keptAt_clearPrimary (Ne.symm other)
          · split
            · exact .refl g q
            · exact arrives _
        · exact .refl g q
      · split
        · split
          · exact .refl g q
          · exact arrives _
        · exact .refl g q
    iterate 3
      · split
        · exact .refl g q
        · split
          · exact classed _
          · split
            · exact classed _
            · exact .refl g q
    · split
      · split
        · exact classed _
        · exact classed _
      · exact .refl g q

/-- In a pass whose steps keep the other positions, a position is changed by its own step alone. -/
theorem foldl_local {f : Gtu → Pos → Gtu} (only : ∀ (h : Gtu) (q : Pos), h.CoversOnly (f h q)) (keeps : ∀ (h : Gtu) (q : Pos), p ≠ q → h.KeptAt (f h q) p) :
    ∀ (l : List Pos) (g : Gtu), l.Nodup → p ∈ l → ∃ h, g.CoversOnly h ∧ g.KeptAt h p ∧ (f h p).KeptAt (l.foldl f g) p
  | [], _, _, mem => absurd mem List.not_mem_nil
  | q :: l, g, distinct, mem => by
    obtain ⟨fresh, rest⟩ := List.nodup_cons.mp distinct
    by_cases same : q = p
    · subst same
      refine ⟨g, .refl g, .refl g q, ?_⟩
      rw [List.foldl_cons]
      exact foldl_stays (J := fun l _ => q ∉ l) (P := fun h => (f g q).KeptAt h q) (fun n l _ off late => off (List.mem_cons_of_mem n late))
        (fun n l h off kept => kept.trans (keeps h n fun is => off (is ▸ List.mem_cons_self))) fresh (.refl _ q)
    · obtain ⟨h, covers, kept, ends⟩ := foldl_local only keeps l (f g q) rest ((List.mem_cons.mp mem).resolve_left (Ne.symm same))
      exact ⟨h, (only g q).trans covers, (keeps g q (Ne.symm same)).trans kept, ends⟩

/-! ### The class of one primary (R87) -/

/-- A primary whose class its condition may change. -/
abbrev Entry.Changes (e : Entry) : Prop := e.presence = .present ∧ e.locked = false ∧ e.cls ≠ .force

/-- Class FAIL or DEGRADE. -/
abbrev Entry.FromLine (e : Entry) : Prop := e.cls = .fail ∨ e.cls = .degrade

/-- The class a condition that is not CLEAR claims. -/
abbrev Condition.claims (c : Condition) : Cls := if c = .failed then .fail else .degrade

/-- The class of a cover in YIELDING, TAKING or ACTIVE under condition `x`. -/
abbrev Entry.coverCls (blk : List Byte) (x : Condition) (e : Entry) : Cls :=
  if ¬e.Changes then e.cls else if x ≠ .clear then x.claims else if ¬e.FromLine then e.cls else if blockRevertive blk = true then .waitRestore else .hold

theorem Cls.fromCondition_iff (c : Cls) : c.fromCondition = true ↔ c = .fail ∨ c = .degrade := by simp [Cls.fromCondition]

theorem Gtu.applyCondition_rests (rests : ¬(g.entry p).Changes) : g.applyCondition blk p = g := by
  unfold Gtu.applyCondition
  dsimp only
  split
  · rfl
  · next acts =>
    simp only [Bool.or_eq_true, decide_eq_true_eq, not_or, not_not, Bool.not_eq_true, ne_eq] at acts
    obtain ⟨⟨-, presence⟩, unlocked⟩ := acts
    have force : (g.entry p).cls = .force := by
      by_contra other
      exact rests ⟨presence, unlocked, other⟩
    split
    · split <;> simp [force, Cls.fromCondition]
    · simp [force]
    · simp [force]
    · simp [force]
    · simp [force, Cls.fromCondition]

section
variable (role : (g.entry p).role = .primary) (changes : (g.entry p).Changes)
include role changes

section
variable (free : (g.entry p).assignment = .none)
include free

theorem Gtu.applyCondition_waiting (waits : p ∈ g.waitList) (line : (g.entry p).FromLine) : g.applyCondition blk p =
    if (g.entry p).condition = .clear then g.clearPrimary p
    else if (g.entry p).condition.claims = (g.entry p).cls then g else (g.setCls p (g.entry p).condition.claims).arrive p := by
  obtain ⟨presence, unlocked, -⟩ := changes
  by_cases clear : (g.entry p).condition = .clear
  · simp [Gtu.applyCondition, role, presence, unlocked, free, Gtu.waiting, waits, (Cls.fromCondition_iff _).mpr line, clear, Condition.claim]
  · simp [Gtu.applyCondition, role, presence, unlocked, free, Gtu.waiting, waits, (Cls.fromCondition_iff _).mpr line, clear, Condition.claim_eq clear]

theorem Gtu.applyCondition_free (off : p ∉ g.waitList) (unclassed : (g.entry p).cls = .none) : g.applyCondition blk p =
    if (g.entry p).condition = .clear then g else (g.setCls p (g.entry p).condition.claims).arrive p := by
  obtain ⟨presence, unlocked, -⟩ := changes
  by_cases clear : (g.entry p).condition = .clear
  · simp [Gtu.applyCondition, role, presence, unlocked, free, Gtu.waiting, off, unclassed, clear, Condition.claim]
  · simp [Gtu.applyCondition, role, presence, unlocked, free, Gtu.waiting, off, unclassed, clear, Condition.claim_eq clear]

end

theorem Gtu.applyCondition_engaged (engaged : (g.entry p).assignment.engaged = true) :
    g.applyCondition blk p = g.setCls p ((g.entry p).coverCls blk (g.entry p).condition) := by
  have cls : (g.entry p).coverCls blk (g.entry p).condition = if (g.entry p).condition ≠ .clear then (g.entry p).condition.claims
      else if ¬(g.entry p).FromLine then (g.entry p).cls else if blockRevertive blk = true then .waitRestore else .hold := if_neg (not_not.mpr changes)
  obtain ⟨presence, unlocked, other⟩ := changes
  rw [cls]
  by_cases clear : (g.entry p).condition = .clear
  · have step : g.applyCondition blk p = if (g.entry p).cls.fromCondition then g.setCls p (if blockRevertive blk then .waitRestore else .hold) else g := by
      cases a : (g.entry p).assignment with
      | none | dropping =>
        rw [a] at engaged
        cases engaged
      | yielding | taking | active => simp [Gtu.applyCondition, role, presence, unlocked, a, other, clear, Condition.claim]
    rw [step, if_neg (not_not.mpr clear)]
    by_cases line : (g.entry p).FromLine
    · rw [if_neg (not_not.mpr line)]
      exact if_pos ((Cls.fromCondition_iff _).mpr line)
    · rw [if_pos line, Gtu.setCls_same]
      exact if_neg fun from' => line ((Cls.fromCondition_iff _).mp from')
  · rw [if_pos clear]
    cases a : (g.entry p).assignment with
    | none | dropping =>
      rw [a] at engaged
      cases engaged
    | yielding | taking | active => simp [Gtu.applyCondition, role, presence, unlocked, a, other, Condition.claim_eq clear]

theorem Gtu.applyCondition_dropping (dropping : (g.entry p).assignment = .dropping) : g.applyCondition blk p =
    if (g.entry p).FromLine ∨ (g.entry p).cls = .hold then
      g.setCls p (if (g.entry p).condition ≠ .clear then (g.entry p).condition.claims else .hold)
    else g := by
  obtain ⟨presence, unlocked, -⟩ := changes
  have picked : ((g.entry p).cls.fromCondition || decide ((g.entry p).cls = .hold)) = true ↔ (g.entry p).FromLine ∨ (g.entry p).cls = .hold := by
    rw [Bool.or_eq_true, decide_eq_true_eq, Cls.fromCondition_iff]
  by_cases clear : (g.entry p).condition = .clear
  · simp [Gtu.applyCondition, role, presence, unlocked, dropping, picked, clear, Condition.claim]
  · simp [Gtu.applyCondition, role, presence, unlocked, dropping, picked, clear, Condition.claim_eq clear]

end

end

end Sys2Proof.Machine
end

section
/-! SUPPORT. The condition stage on one primary (R66, R87, R88): its class by its condition, then the revocations of its FAILED backup. -/

namespace Sys2Proof.Machine

open Sys2Proof.Safety

section
variable {g h t : Gtu} {p q n b : Pos} {a : Assignment} {o : Option Pos} {c : Cls} {on : Prop} {blk : List Byte} {r : EpochRecord}

theorem Gtu.entry_conditionRead (n : Pos) : (g.conditionRead r).entry n = (g.entry n).readCondition (r.condition n) := by
  rw [Gtu.conditionRead, Gtu.entry_mapEntries]

/-- The condition of `n` after the record has been read into it. -/
def Gtu.conditionAfter (r : EpochRecord) (g : Gtu) (n : Pos) : Condition := ((g.conditionRead r).entry n).condition

theorem Gtu.entry_conditionRead_eq (configured : (g.entry n).role ≠ .empty) :
    (g.conditionRead r).entry n = { g.entry n with condition := g.conditionAfter r n } := by
  rw [Gtu.conditionAfter, Gtu.entry_conditionRead, Entry.readCondition_eq configured]

theorem Gtu.at_arrive (at' : g.At p a o c on) (k : Cls) : ((g.setCls p k).arrive p).At p a o k True := by
  obtain ⟨assignment, partner, -, -⟩ := at'
  rw [Gtu.At, Gtu.entry_arrive, Gtu.entry_setCls_self, Gtu.mem_arrive]
  exact ⟨assignment, partner, rfl, iff_of_true (.inl rfl) trivial⟩

theorem Gtu.at_setCls (at' : g.At p a o c on) (k : Cls) : (g.setCls p k).At p a o k on := by
  obtain ⟨assignment, partner, -, list⟩ := at'
  rw [Gtu.At, Gtu.entry_setCls_self]
  exact ⟨assignment, partner, rfl, list⟩

theorem coversOnly_claimed : (g.conditionRead r).CoversOnly (g.claimed blk r) := coversOnly_foldl (coversOnly_applyCondition blk) allPos _

section
variable (sound : g.Sound nobody nobody nobody) (role : (g.entry p).role = .primary)
include role

/-- The one step of the claims that changes `p`. -/
theorem claimed_step : ∃ h : Gtu, h.entry p = { g.entry p with condition := g.conditionAfter r p } ∧ (p ∈ h.waitList ↔ p ∈ g.waitList) ∧
    (h.applyCondition blk p).KeptAt (g.claimed blk r) p := by
  obtain ⟨h, -, ⟨entry, list⟩, ends⟩ := foldl_local (p := p) (coversOnly_applyCondition blk) (fun _ _ other => keptAt_applyCondition other) allPos
    (g.conditionRead r) allPos_nodup (mem_allPos p)
  refine ⟨h, ?_, list, ends⟩
  rw [entry, Gtu.entry_conditionRead_eq (by rw [role]; decide)]

theorem claimed_rests (rests : ¬(g.entry p).Changes) :
    (g.claimed blk r).At p (g.entry p).assignment (g.entry p).partner (g.entry p).cls (p ∈ g.waitList) := by
  obtain ⟨h, entry, list, ends⟩ := claimed_step (blk := blk) (r := r) role
  rw [Gtu.applyCondition_rests (by rw [entry]; exact rests)] at ends
  refine Gtu.At.kept ⟨?_, ?_, ?_, list⟩ ends <;> rw [entry]

include sound

theorem unpartnered (free : (g.entry p).assignment = .none) : (g.entry p).partner = none := by
  have partnered := (sound.position p).partnered role
  rw [free] at partnered
  simpa using partnered

section
variable (changes : (g.entry p).Changes)
include changes

/-- A primary in NONE waits with the class its condition claims, and with none is cleared. -/
theorem claimed_free (free : (g.entry p).assignment = .none) :
    (g.conditionAfter r p ≠ .clear → (g.claimed blk r).At p .none none (g.conditionAfter r p).claims True) ∧
    (g.conditionAfter r p = .clear → (g.claimed blk r).At p .none none .none False) := by
  obtain ⟨h, entry, list, ends⟩ := claimed_step (blk := blk) (r := r) role
  have roleH : (h.entry p).role = .primary := by rw [entry]; exact role
  have changesH : (h.entry p).Changes := by rw [entry]; exact changes
  have freeH : (h.entry p).assignment = .none := by rw [entry]; exact free
  have at' : h.At p .none none (g.entry p).cls (p ∈ g.waitList) := by
    rw [Gtu.At, entry]
    exact ⟨free, unpartnered sound role free, rfl, list⟩
  have condition : (h.entry p).condition = g.conditionAfter r p := by rw [entry]
  have cls : (h.entry p).cls = (g.entry p).cls := by rw [entry]
  by_cases waits : p ∈ g.waitList
  · obtain ⟨-, -, mayWait, -⟩ := (sound.position p).listed waits
    have line : (g.entry p).FromLine := ((Cls.mayWait_iff _).mp mayWait).resolve_left changes.2.2
    rw [Gtu.applyCondition_waiting roleH changesH freeH (list.mpr waits) (by rw [entry]; exact line), condition, cls] at ends
    refine ⟨fun set => ?_, fun clear => ?_⟩
    · rw [if_neg set] at ends
      split at ends
      · next same =>
        rw [same]
        exact (at'.cast (iff_true_intro waits)).kept ends
      · exact (Gtu.at_arrive at' _).kept ends
    · rw [if_pos clear] at ends
      exact (h.clearedAt_clearPrimary p).at.kept ends
  · have unclassed : (g.entry p).cls = .none := ((sound.position p).classed role).mpr ⟨free, waits⟩
    rw [Gtu.applyCondition_free roleH changesH freeH (fun mem => waits (list.mp mem)) (cls.trans unclassed), condition] at ends
    refine ⟨fun set => ?_, fun clear => ?_⟩
    · rw [if_neg set] at ends
      exact (Gtu.at_arrive at' _).kept ends
    · rw [if_pos clear] at ends
      rw [unclassed] at at'
      exact (at'.cast (iff_false_intro waits)).kept ends

end

/-- A primary in YIELDING, TAKING or ACTIVE goes on with the class of its condition. -/
theorem claimed_engaged (engaged : (g.entry p).assignment.engaged = true) : (g.claimed blk r).At p (g.entry p).assignment (g.entry p).partner
    ((g.entry p).coverCls blk (g.conditionAfter r p)) False := by
  have covers : (g.entry p).assignment ≠ .none := by
    intro none
    rw [none] at engaged
    cases engaged
  have off := (sound.covered role covers).2.2
  by_cases changes : (g.entry p).Changes
  · obtain ⟨h, entry, list, ends⟩ := claimed_step (blk := blk) (r := r) role
    rw [Gtu.applyCondition_engaged (by rw [entry]; exact role) (by rw [entry]; exact changes) (by rw [entry]; exact engaged)] at ends
    have at' : h.At p (g.entry p).assignment (g.entry p).partner (g.entry p).cls False := by
      rw [Gtu.At, entry]
      exact ⟨rfl, rfl, rfl, list.trans (iff_false_intro off)⟩
    rw [entry] at ends
    exact (Gtu.at_setCls at' _).kept ends
  · have rests := claimed_rests (blk := blk) (r := r) role changes
    rw [Entry.coverCls, if_pos changes]
    exact rests.cast (iff_false_intro off)

/-- A primary in DROPPING is to be held, or claims again. -/
theorem claimed_dropping (dropping : (g.entry p).assignment = .dropping) : (g.claimed blk r).At p .dropping (g.entry p).partner
    (if (g.entry p).Changes ∧ ((g.entry p).FromLine ∨ (g.entry p).cls = .hold) then
      if g.conditionAfter r p ≠ .clear then (g.conditionAfter r p).claims else .hold else (g.entry p).cls) False := by
  have off := (sound.covered role (by rw [dropping]; decide)).2.2
  by_cases changes : (g.entry p).Changes
  · obtain ⟨h, entry, list, ends⟩ := claimed_step (blk := blk) (r := r) role
    rw [Gtu.applyCondition_dropping (by rw [entry]; exact role) (by rw [entry]; exact changes) (by rw [entry]; exact dropping)] at ends
    have at' : h.At p .dropping (g.entry p).partner (g.entry p).cls False := by
      rw [Gtu.At, entry]
      exact ⟨dropping, rfl, rfl, list.trans (iff_false_intro off)⟩
    rw [entry] at ends
    by_cases picked : (g.entry p).FromLine ∨ (g.entry p).cls = .hold
    · rw [if_pos picked] at ends
      rw [if_pos ⟨changes, picked⟩]
      exact (Gtu.at_setCls at' _).kept ends
    · rw [if_neg picked] at ends
      rw [if_neg fun both => picked both.2]
      exact at'.kept ends
  · have rests := claimed_rests (blk := blk) (r := r) role changes
    rw [dropping] at rests
    rw [if_neg fun both => changes both.1]
    exact rests.cast (iff_false_intro off)

/-- The claims leave assignments and partners. -/
theorem claimed_cover : ((g.claimed blk r).entry p).assignment = (g.entry p).assignment ∧ ((g.claimed blk r).entry p).partner = (g.entry p).partner := by
  have of {c : Cls} {on : Prop} (at' : (g.claimed blk r).At p (g.entry p).assignment (g.entry p).partner c on) :
      ((g.claimed blk r).entry p).assignment = (g.entry p).assignment ∧ ((g.claimed blk r).entry p).partner = (g.entry p).partner := ⟨at'.1, at'.2.1⟩
  cases a : (g.entry p).assignment with
  | none =>
    by_cases changes : (g.entry p).Changes
    · obtain ⟨sets, clears⟩ := claimed_free (blk := blk) (r := r) sound role changes a
      rw [unpartnered sound role a]
      by_cases clear : g.conditionAfter r p = .clear
      · exact ⟨(clears clear).1, (clears clear).2.1⟩
      · exact ⟨(sets clear).1, (sets clear).2.1⟩
    · rw [← a]
      exact of (claimed_rests role changes)
  | dropping =>
    have dropping := claimed_dropping (blk := blk) (r := r) sound role a
    exact ⟨dropping.1, dropping.2.1⟩
  | yielding | taking | active =>
    rw [← a]
    exact of (claimed_engaged sound role (by rw [a]; rfl))

end

/-! ## The revocations of a FAILED backup -/

/-- A backup whose covers the condition stage revokes. -/
def Gtu.Fails (t : Gtu) (n : Pos) : Prop := (t.entry n).role = .backup ∧ (t.entry n).presence = .present ∧ (t.entry n).condition = .failed

theorem revoker_applyBackupFailed (t : Gtu) : Revoker t.Fails t Gtu.applyBackupFailed := by
  have same {h : Gtu} {n : Pos} (only : t.CoversOnly h) : ((h.entry n).role = .backup && (h.entry n).presence = .present &&
      (h.entry n).condition = .failed) = true ↔ t.Fails n := by
    have facts := (only n).1
    simp only [Entry.facts, Prod.mk.injEq] at facts
    obtain ⟨role, presence, -, condition, -, -⟩ := facts
    rw [role, presence, condition, Gtu.Fails]
    simp [and_assoc]
  refine ⟨fun h n only sane => if_neg fun fails => sane ((same only).mp fails), fun h n only role => if_neg fun fails => ?_,
    fun h n only fails _ => if_pos ((same only).mpr fails), fun h n only fails role => ?_⟩
  · cases role.symm.trans ((same only).mp fails).1
  · cases role.symm.trans fails.1

end

end Sys2Proof.Machine
end

section
/-! SUPPORT. The readings of an application on one entry (R64 to R67), and the stages that read them as one primary sees them (R85 to R88). -/

namespace Sys2Proof.Machine

open Sys2Proof.Safety

section
variable {g h : Gtu} {p q n b : Pos} {a : Assignment} {o : Option Pos} {c : Cls} {on : Prop} {blk : List Byte} {r : EpochRecord}

/-! ## The readings of an application -/

theorem Entry.readings_eq (configured : (g.entry n).role ≠ .empty) : ((g.entry n).readings blk r n).standing =
    let e := (g.entry n).track (blockLossThreshold blk) (r.presence n)
    ((g.entry n).role, e.presence, e.runCount, if e.presence = .present ∨ e.presence = .joining then r.condition n else .clear,
      if e.presence = .present ∨ e.presence = .joining then r.fault n else false) := by
  have tracked : ((g.entry n).track (blockLossThreshold blk) (r.presence n)).role ≠ .empty := by rwa [Entry.track_role]
  rw [Entry.readings, Entry.readCondition_eq (by rwa [Entry.readFault_role]), Entry.readFault_eq tracked, Entry.standing, Entry.track_role]

/-- What an application makes of the presence, count, condition and fault of a configured position. -/
theorem readings_tableStages (configured : (g.entry n).role ≠ .empty) :
    let e := (g.entry n).track (blockLossThreshold blk) (r.presence n)
    let e' := (g.tableStages blk r).1.entry n
    e'.role = (g.entry n).role ∧ e'.presence = e.presence ∧ e'.runCount = e.runCount ∧
    (e'.presence = .present ∨ e'.presence = .joining → e'.condition = r.condition n ∧ e'.faulted = r.fault n) ∧
    (e'.presence = .lost → e'.condition = .clear ∧ e'.faulted = false) := by
  intro e e'
  have standing := g.standing_tableStages blk r n
  rw [Entry.readings_eq configured] at standing
  simp only [Entry.standing, Prod.mk.injEq] at standing
  obtain ⟨role, presence, runCount, condition, faulted⟩ := standing
  refine ⟨role, presence, runCount, fun heard => ?_, fun lost => ?_⟩
  · have tracked := presence ▸ heard
    rw [condition, faulted, if_pos tracked, if_pos tracked]
    exact ⟨rfl, rfl⟩
  · have silent : ¬(((g.entry n).track (blockLossThreshold blk) (r.presence n)).presence = .present ∨
        ((g.entry n).track (blockLossThreshold blk) (r.presence n)).presence = .joining) := by
      rw [← presence]
      rintro (heard | heard) <;> cases lost.symm.trans heard
    rw [condition, faulted, if_neg silent, if_neg silent]
    exact ⟨rfl, rfl⟩

/-- An entry's presence and run count. -/
abbrev Entry.Counts (e : Entry) (p : Presence) (k : Nat) : Prop := e.presence = p ∧ e.runCount = k

/-- The table of R64. -/
theorem track_becomes {limit : Nat} {seen : Bool} {e : Entry} (configured : e.role ≠ .empty) :
    (e.presence = .present → seen = true → (e.track limit seen).Counts .present 0) ∧
    (e.presence = .present → seen = false → e.runCount + 1 < limit → (e.track limit seen).Counts .present (e.runCount + 1)) ∧
    (e.presence = .present → seen = false → limit ≤ e.runCount + 1 → (e.track limit seen).Counts .lost 0) ∧
    (e.presence = .lost → seen = true → (e.track limit seen).Counts .joining 1) ∧
    (e.presence = .lost → seen = false → (e.track limit seen).Counts .lost 0) ∧
    (e.presence = .joining → seen = true → e.runCount + 1 < 3 → (e.track limit seen).Counts .joining (e.runCount + 1)) ∧
    (e.presence = .joining → seen = true → 3 ≤ e.runCount + 1 → (e.track limit seen).Counts .present 0) ∧
    (e.presence = .joining → seen = false → (e.track limit seen).Counts .lost 0) := by
  obtain ⟨-, presentSeen, presentMissed, lostSeen, lostMissed, joiningSeen, joiningMissed⟩ := Entry.track_cases (limit := limit) (seen := seen) configured
  refine ⟨fun p s => ?_, fun p s few => ?_, fun p s many => ?_, fun p s => ?_, fun p s => ?_, fun p s few => ?_, fun p s many => ?_, fun p s => ?_⟩
  · rw [presentSeen p s]
    exact ⟨p, rfl⟩
  · rw [presentMissed p s, if_pos few]
    exact ⟨p, rfl⟩
  · rw [presentMissed p s, if_neg (Nat.not_lt.mpr many)]
    exact ⟨rfl, rfl⟩
  · rw [lostSeen p s]
    exact ⟨rfl, rfl⟩
  · rw [lostMissed p s]
    exact ⟨p, rfl⟩
  · rw [joiningSeen p s, if_pos few]
    exact ⟨p, rfl⟩
  · rw [joiningSeen p s, if_neg (Nat.not_lt.mpr many)]
    exact ⟨rfl, rfl⟩
  · rw [joiningMissed p s]
    exact ⟨rfl, rfl⟩

/-- The condition by its cells, F before D (R66). -/
theorem EpochRecord.condition_iff (r : EpochRecord) (n : Pos) :
    (r.condition n = .failed ↔ cellAt r.cells (16 + n.val) = true) ∧
    (r.condition n = .degraded ↔ cellAt r.cells (16 + n.val) = false ∧ cellAt r.cells (32 + n.val) = true) ∧
    (r.condition n = .clear ↔ cellAt r.cells (16 + n.val) = false ∧ cellAt r.cells (32 + n.val) = false) := by
  rw [EpochRecord.condition_eq]
  cases cellAt r.cells (16 + n.val) <;> cases cellAt r.cells (32 + n.val) <;> simp

/-! ## The stages as a primary sees them -/

theorem Gtu.At.becomes (at' : g.At p a o c on) : (g.entry p).assignment = a ∧ (g.entry p).partner = o ∧ (g.entry p).cls = c :=
  ⟨at'.1, at'.2.1, at'.2.2.1⟩

theorem Gtu.At.listed (at' : g.At p a o c on) (is : on) :
    ((g.entry p).assignment = a ∧ (g.entry p).partner = o ∧ (g.entry p).cls = c) ∧ p ∈ g.waitList := ⟨at'.becomes, at'.2.2.2.mpr is⟩

theorem Gtu.At.unlisted (at' : g.At p a o c on) (isnt : ¬on) :
    ((g.entry p).assignment = a ∧ (g.entry p).partner = o ∧ (g.entry p).cls = c) ∧ p ∉ g.waitList :=
  ⟨at'.becomes, fun mem => isnt (at'.2.2.2.mp mem)⟩

/-- A class that may wait, as the statements spell it. -/
abbrev Cls.Waits (c : Cls) : Prop := c = .force ∨ c = .fail ∨ c = .degrade

/-- A primary returned to NONE, by the two cases of R82. -/
theorem Gtu.Returned.cases {e : Entry} (returned : g.Returned p e c) :
    (e.presence = .present → e.locked = false → c.Waits →
      ((g.entry p).assignment = .none ∧ (g.entry p).partner = none ∧ (g.entry p).cls = c) ∧ p ∈ g.waitList) ∧
    (e.presence ≠ .present ∨ e.locked = true ∨ ¬c.Waits →
      ((g.entry p).assignment = .none ∧ (g.entry p).partner = none ∧ (g.entry p).cls = .none) ∧ p ∉ g.waitList) := by
  refine ⟨fun presence unlocked waits => ?_, fun stays => ?_⟩
  · have returns : e.Returns c := ⟨presence, unlocked, (Cls.mayWait_iff c).mpr waits⟩
    rw [Gtu.Returned, if_pos returns] at returned
    exact returned.listed returns
  · have stays : ¬e.Returns c := fun ⟨presence, unlocked, waits⟩ => by
      rcases stays with absent | locked | idle
      · exact absent presence
      · exact Bool.false_ne_true (unlocked.symm.trans locked)
      · exact idle ((Cls.mayWait_iff c).mp waits)
    rw [Gtu.Returned, if_neg stays] at returned
    exact returned.unlisted stays

theorem Gtu.Returned.settleFrom {e : Entry} (start : Gtu) (role : (g.entry p).role = .primary) (returned : g.Returned p e c) :
    (g.settleFrom start).Returned p e c := Gtu.At.settleFrom start role returned

/-! ### Presence -/

theorem Gtu.facts_presenceStage_tracked (n : Pos) : ((g.presenceStage blk r).entry n).facts = ((g.tracked blk r).entry n).facts := by
  rw [Gtu.facts_presenceStage, Gtu.entry_tracked]

theorem Gtu.falls_iff (n : Pos) : (g.entry n).presence ≠ .lost ∧ ((g.presenceStage blk r).entry n).presence = .lost ↔ n ∈ g.losses blk r := by
  rw [Gtu.mem_losses, (Entry.vitals_of_facts (Gtu.facts_presenceStage_tracked n)).1]
  exact And.comm

/-- The stage ends where its losses do. -/
theorem at_presenceStage (role : (g.entry p).role = .primary) (at' : ((g.losses blk r).foldl Gtu.applyLoss (g.tracked blk r)).At p a o c on) :
    (g.presenceStage blk r).At p a o c on := by
  rw [Gtu.presenceStage_eq]
  refine at'.settleFrom g ?_
  rw [(coversOnly_foldl coversOnly_applyLoss _ _).role, Gtu.role_tracked, role]

/-! ### Fault and condition -/

theorem Gtu.role_faultRead (n : Pos) : ((g.faultRead r).entry n).role = (g.entry n).role := by
  rw [Gtu.faultRead, Gtu.entry_mapEntries, Entry.readFault_role]

theorem at_faultStage (role : (g.entry p).role = .primary) (at' : (allPos.foldl Gtu.applyFault (g.faultRead r)).At p a o c on) :
    (g.faultStage r).At p a o c on := by
  rw [Gtu.faultStage_eq]
  refine at'.settleFrom g ?_
  rw [(coversOnly_foldl coversOnly_applyFault _ _).role, Gtu.role_faultRead, role]

theorem at_conditionStage (role : (g.entry p).role = .primary) (at' : (allPos.foldl Gtu.applyBackupFailed (g.claimed blk r)).At p a o c on) :
    (g.conditionStage blk r).At p a o c on := by
  rw [Gtu.conditionStage_eq]
  refine at'.settleFrom g ?_
  rw [(coversOnly_foldl coversOnly_applyBackupFailed _ _).role, coversOnly_claimed.role, Gtu.conditionRead, Gtu.entry_mapEntries,
    Entry.readCondition_role, role]

end

end Sys2Proof.Machine
end

section
/-! SUPPORT. What the presence, fault and condition stages make of one primary of a lawful table (R85 to R88), by its cover before the stage. -/

namespace Sys2Proof.Machine

open Sys2Proof.Safety

section
variable {g h t : Gtu} {p q n b : Pos} {a : Assignment} {o : Option Pos} {c : Cls} {on : Prop} {blk : List Byte} {r : EpochRecord} {hit hit' : Pos → Prop}

/-- Who is ousted looks at assignments, partners and roles alone. -/
theorem ousted_congr (same : ∀ n, (h.entry n).role = (g.entry n).role ∧ ((g.entry n).role = .primary → (h.entry n).assignment = (g.entry n).assignment ∧
    (h.entry n).partner = (g.entry n).partner)) (role : (g.entry p).role = .primary) (picked : ∀ b, (g.entry p).partner = some b → (hit' b ↔ hit b)) :
    Ousted hit' h p ↔ Ousted hit g p := by
  obtain ⟨assignment, partner⟩ := (same p).2 role
  have byBackup : (∃ b, (g.entry p).partner = some b ∧ hit' b) ↔ ∃ b, (g.entry p).partner = some b ∧ hit b :=
    exists_congr fun b => and_congr_right fun own => picked b own
  rw [Ousted, Ousted, assignment, partner, byBackup]
  refine and_congr_right fun _ => and_congr_right fun _ => exists_congr fun q => ?_
  rw [(same q).1]
  refine and_congr_right fun roleQ => ?_
  rw [((same q).2 roleQ).1, ((same q).2 roleQ).2]

section
variable (sound : g.Sound nobody nobody nobody) (role : (g.entry p).role = .primary)
include sound role

theorem off_of_covered (covers : (g.entry p).assignment ≠ .none) : p ∈ g.waitList ↔ False := iff_false_intro (sound.covered role covers).2.2

theorem partner_of_covered (covers : (g.entry p).assignment ≠ .none) : ∃ b, (g.entry p).partner = some b ∧ (g.entry b).role = .backup :=
  (sound.covered role covers).1

/-! ## Fault -/

/-- `n` stands faulted after the stage. -/
def Gtu.FaultAfter (r : EpochRecord) (g : Gtu) (n : Pos) : Prop := ((g.faultStage r).entry n).faulted = true

omit sound role in
theorem Gtu.faultAfter_iff (n : Pos) : g.FaultAfter r n ↔ ((g.faultRead r).entry n).faulted = true := by
  rw [Gtu.FaultAfter, (Entry.vitals_of_facts (Gtu.facts_faultStage r g n)).2.2, Gtu.faultRead, Gtu.entry_mapEntries]

omit sound role in
theorem Gtu.faultRead_cover (n : Pos) : ((g.faultRead r).entry n).assignment = (g.entry n).assignment ∧
    ((g.faultRead r).entry n).partner = (g.entry n).partner ∧ ((g.faultRead r).entry n).cls = (g.entry n).cls := by
  have cover := (g.entry n).readFault_cover (r.fault n)
  simp only [Entry.cover, Prod.mk.injEq] at cover
  obtain ⟨assignment, partner, cls, -⟩ := cover
  rw [Gtu.faultRead, Gtu.entry_mapEntries]
  exact ⟨assignment, partner, cls⟩

omit sound in
theorem Gtu.faultRead_returns (c : Cls) : ((g.faultRead r).entry p).Returns c ↔ (g.entry p).Returns c := by
  rw [Gtu.faultRead, Gtu.entry_mapEntries, Entry.readFault_eq (by rw [role]; decide)]

omit sound in
/-- A primary the pass keeps stands after the stage as before it. -/
theorem fault_kept (kept : (g.faultRead r).KeptAt (allPos.foldl Gtu.applyFault (g.faultRead r)) p) :
    (g.faultStage r).At p (g.entry p).assignment (g.entry p).partner (g.entry p).cls (p ∈ g.waitList) :=
  at_faultStage role (((g.at_self p).reading fun _ e => e.readFault_cover _).kept kept)

theorem fault_yielding (yielding : (g.entry p).assignment = .yielding)
    (picked : (∃ b, (g.entry p).partner = some b ∧ g.FaultAfter r b) ∨ g.FaultAfter r p) : (g.faultStage r).Returned p (g.entry p) (g.entry p).cls := by
  obtain ⟨b, partner, -⟩ := partner_of_covered sound role (by rw [yielding]; decide)
  obtain ⟨assignment, sameB, cls⟩ := g.faultRead_cover (r := r) p
  have hits : ((g.faultRead r).entry b).faulted = true ∨ ((g.faultRead r).entry p).faulted = true := by
    rcases picked with ⟨d, own, faulted⟩ | faulted
    · rw [partner] at own
      exact .inl ((Gtu.faultAfter_iff b).mp (Option.some.inj own ▸ faulted))
    · exact .inr ((Gtu.faultAfter_iff p).mp faulted)
  have returned := (revoker_applyFault (g.faultRead r)).yielding (p := p) (b := b) (sound_faultRead sound) (by rw [Gtu.role_faultRead, role])
    (assignment.trans yielding) (sameB.trans partner) hits
  rw [cls] at returned
  simp only [Gtu.Returned, Gtu.faultRead_returns role] at returned
  exact at_faultStage role returned

theorem fault_acting (acts : (g.entry p).assignment = .taking ∨ (g.entry p).assignment = .active)
    (picked : ∃ b, (g.entry p).partner = some b ∧ g.FaultAfter r b) :
    (g.faultStage r).At p .dropping (g.entry p).partner (if (g.entry p).cls.mayWait then (g.entry p).cls else .hold) (p ∈ g.waitList) := by
  obtain ⟨b, partner, faulted⟩ := picked
  obtain ⟨assignment, sameB, cls⟩ := g.faultRead_cover (r := r) p
  have ends := (revoker_applyFault (g.faultRead r)).acting (p := p) (sound_faultRead sound) (by rw [Gtu.role_faultRead, role])
    (by rw [assignment]; exact acts) (sameB.trans partner) ((Gtu.faultAfter_iff b).mp faulted)
  rw [cls, ← partner] at ends
  exact at_faultStage role ends

theorem fault_stands (rests : ¬∃ b, (g.entry p).partner = some b ∧ g.FaultAfter r b)
    (own : g.FaultAfter r p → (g.entry p).assignment ≠ .yielding) :
    (g.faultStage r).At p (g.entry p).assignment (g.entry p).partner (g.entry p).cls (p ∈ g.waitList) := by
  obtain ⟨assignment, sameB, -⟩ := g.faultRead_cover (r := r) p
  refine fault_kept role ((revoker_applyFault (g.faultRead r)).stands (sound_faultRead sound)
    (fun b partner faulted => rests ⟨b, sameB.symm.trans partner, (Gtu.faultAfter_iff b).mpr faulted⟩) fun faulted => ?_)
  rw [assignment]
  exact own ((Gtu.faultAfter_iff p).mpr faulted)

omit sound in
theorem fault_ousted_iff : Ousted (fun n => ((g.faultRead r).entry n).faulted = true) (g.faultRead r) p ↔ Ousted (g.FaultAfter r) g p :=
  ousted_congr (fun n => ⟨Gtu.role_faultRead n, fun _ => ⟨(Gtu.faultRead_cover n).1, (Gtu.faultRead_cover n).2.1⟩⟩) role
    fun b _ => (Gtu.faultAfter_iff b).symm

theorem fault_ousted (ousted : Ousted (g.FaultAfter r) g p) : (g.faultStage r).At p .none none .none False :=
  at_faultStage role ((revoker_applyFault (g.faultRead r)).ousted (sound_faultRead sound) (by rw [Gtu.role_faultRead, role])
    ((fault_ousted_iff role).mpr ousted))

theorem fault_dropping (dropping : (g.entry p).assignment = .dropping) (still : ¬Ousted (g.FaultAfter r) g p) :
    (g.faultStage r).At p (g.entry p).assignment (g.entry p).partner (g.entry p).cls (p ∈ g.waitList) :=
  fault_kept role ((revoker_applyFault (g.faultRead r)).dropping (sound_faultRead sound)
    ((Gtu.faultRead_cover p).1.trans dropping) fun ousted => still ((fault_ousted_iff role).mp ousted))

theorem fault_free (free : (g.entry p).assignment = .none) : (g.faultStage r).At p .none none (g.entry p).cls (p ∈ g.waitList) := by
  have stays := (revoker_applyFault (g.faultRead r)).in_none (p := p) (sound_faultRead sound) (by rw [Gtu.role_faultRead, role])
    ((Gtu.faultRead_cover p).1.trans free)
  rw [(Gtu.faultRead_cover p).2.2] at stays
  exact at_faultStage role stays

/-! ## Condition -/

/-- `n` stands PRESENT and FAILED after the stage. -/
def Gtu.FailedAfter (blk : List Byte) (r : EpochRecord) (g : Gtu) (n : Pos) : Prop :=
  ((g.conditionStage blk r).entry n).presence = .present ∧ ((g.conditionStage blk r).entry n).condition = .failed

omit sound role in
theorem Gtu.facts_conditionStage_read (n : Pos) : ((g.conditionStage blk r).entry n).facts = ((g.conditionRead r).entry n).facts := by
  rw [Gtu.facts_conditionStage, Gtu.entry_conditionRead]

omit sound role in
theorem Gtu.conditionAfter_eq (n : Pos) : ((g.conditionStage blk r).entry n).condition = g.conditionAfter r n := by
  have facts := Gtu.facts_conditionStage_read (g := g) (blk := blk) (r := r) n
  simp only [Entry.facts, Prod.mk.injEq] at facts
  exact facts.2.2.2.1

omit sound role in
theorem Gtu.role_claimed (n : Pos) : ((g.claimed blk r).entry n).role = (g.entry n).role := by
  rw [coversOnly_claimed.role, Gtu.entry_conditionRead, Entry.readCondition_role]

omit sound role in
theorem fails_iff (backup : (g.entry b).role = .backup) : (g.claimed blk r).Fails b ↔ g.FailedAfter blk r b := by
  have facts := Gtu.facts_conditionStage_read (g := g) (blk := blk) (r := r) b
  rw [← (coversOnly_claimed (blk := blk) b).1] at facts
  simp only [Entry.facts, Prod.mk.injEq] at facts
  obtain ⟨-, presence, -, condition, -⟩ := facts
  rw [Gtu.Fails, Gtu.role_claimed, Gtu.FailedAfter, presence, condition]
  exact and_iff_right backup

omit sound in
theorem Gtu.claimed_returns (c : Cls) : ((g.claimed blk r).entry p).Returns c ↔ (g.entry p).Returns c := by
  rw [Entry.returns_congr (coversOnly_claimed p).1, Gtu.entry_conditionRead_eq (by rw [role]; decide)]

omit sound in
/-- A primary the revocations keep stands after the stage as the claims left it. -/
theorem condition_kept (at' : (g.claimed blk r).At p a o c on)
    (kept : (g.claimed blk r).KeptAt (allPos.foldl Gtu.applyBackupFailed (g.claimed blk r)) p) : (g.conditionStage blk r).At p a o c on :=
  at_conditionStage role (at'.kept kept)

end

end

end Sys2Proof.Machine
end

section
/-! SUPPORT. The condition stage on one primary of a lawful table (R87, R88), and O30. -/

namespace Sys2Proof.Machine

open Sys2Proof.Safety

section
variable {g : Gtu} {p b : Pos} {a : Assignment} {o : Option Pos} {c : Cls} {on : Prop} {blk : List Byte} {r : EpochRecord}

section
variable (sound : g.Sound nobody nobody nobody) (role : (g.entry p).role = .primary)
include sound

theorem sound_claims : (g.claimed blk r).Sound everyone nobody nobody :=
  (sound_conditionClaims sound).shrink (fun _ _ none => absurd none nobody_not) (fun _ _ none => absurd none nobody_not)
    (fun _ _ none => absurd none nobody_not)

include role

/-- The backup of `p` stands PRESENT and FAILED after the stage. -/
theorem failed_iff (partner : (g.entry p).partner = some b) : (∃ d, (g.entry p).partner = some d ∧ g.FailedAfter blk r d) ↔ (g.claimed blk r).Fails b := by
  rw [fails_iff ((sound.position p).backed role b partner), partner]
  exact ⟨fun ⟨d, own, failed⟩ => Option.some.inj own ▸ failed, fun failed => ⟨b, rfl, failed⟩⟩

/-- A primary that the claims leave without a partner, or whose backup does not fail, is left so by the revocations. -/
theorem condition_stands (at' : (g.claimed blk r).At p a o c on)
    (rests : ∀ b, o = some b → ¬(g.claimed blk r).Fails b) : (g.conditionStage blk r).At p a o c on := by
  refine condition_kept role at' ((revoker_applyBackupFailed _).stands (sound_claims sound)
    (fun b partner => rests b (at'.2.1.symm.trans partner)) fun fails => ?_)
  have isBackup := fails.1
  rw [Gtu.role_claimed, role] at isBackup
  cases isBackup

theorem condition_free (free : (g.entry p).assignment = .none) :
    (¬(g.entry p).Changes → (g.conditionStage blk r).At p .none none (g.entry p).cls (p ∈ g.waitList)) ∧
    ((g.entry p).Changes → g.conditionAfter r p ≠ .clear → (g.conditionStage blk r).At p .none none (g.conditionAfter r p).claims True) ∧
    ((g.entry p).Changes → g.conditionAfter r p = .clear → (g.conditionStage blk r).At p .none none .none False) := by
  have stands {c : Cls} {on : Prop} (at' : (g.claimed blk r).At p .none none c on) : (g.conditionStage blk r).At p .none none c on :=
    condition_stands sound role at' fun _ own => by cases own
  refine ⟨fun rests => ?_, fun changes set => stands ((claimed_free sound role changes free).1 set),
    fun changes clear => stands ((claimed_free sound role changes free).2 clear)⟩
  have at' := claimed_rests (blk := blk) (r := r) role rests
  rw [free, unpartnered sound role free] at at'
  exact stands at'

section
variable (failed : ∃ b, (g.entry p).partner = some b ∧ g.FailedAfter blk r b)

theorem condition_engaged (engaged : (g.entry p).assignment.engaged = true) (rests : ¬∃ b, (g.entry p).partner = some b ∧ g.FailedAfter blk r b) :
    (g.conditionStage blk r).At p (g.entry p).assignment (g.entry p).partner ((g.entry p).coverCls blk (g.conditionAfter r p)) False := by
  exact condition_stands sound role (claimed_engaged sound role engaged) fun b own fails => rests ((failed_iff sound role own).mpr fails)

include failed

theorem condition_yielding (yielding : (g.entry p).assignment = .yielding) :
    (g.conditionStage blk r).Returned p (g.entry p) ((g.entry p).coverCls blk (g.conditionAfter r p)) := by
  obtain ⟨b, partner, -⟩ := partner_of_covered sound role (by rw [yielding]; decide)
  obtain ⟨assignment, own, cls, -⟩ := claimed_engaged (blk := blk) (r := r) sound role (by rw [yielding]; rfl)
  have returned := (revoker_applyBackupFailed (g.claimed blk r)).yielding (sound_claims sound) (by rw [Gtu.role_claimed, role])
    (assignment.trans yielding) (own.trans partner) (.inl ((failed_iff sound role partner).mp failed))
  rw [cls] at returned
  simp only [Gtu.Returned, Gtu.claimed_returns role] at returned
  exact at_conditionStage role returned

theorem condition_acting (acts : (g.entry p).assignment = .taking ∨ (g.entry p).assignment = .active) :
    (g.conditionStage blk r).At p .dropping (g.entry p).partner (if ((g.entry p).coverCls blk (g.conditionAfter r p)).mayWait then
      (g.entry p).coverCls blk (g.conditionAfter r p) else .hold) False := by
  obtain ⟨b, partner, -⟩ := partner_of_covered sound role (by rcases acts with a | a <;> rw [a] <;> decide)
  obtain ⟨assignment, own, cls, list⟩ := claimed_engaged (blk := blk) (r := r) sound role (Assignment.engaged_of_acts acts)
  have ends := (revoker_applyBackupFailed (g.claimed blk r)).acting (p := p) (sound_claims sound) (by rw [Gtu.role_claimed, role])
    (by rw [assignment]; exact acts) (own.trans partner) ((failed_iff sound role partner).mp failed)
  rw [cls, ← partner] at ends
  exact at_conditionStage role (ends.cast list)

end

theorem condition_ousted_iff : Ousted (g.claimed blk r).Fails (g.claimed blk r) p ↔ Ousted (g.FailedAfter blk r) g p :=
  ousted_congr (fun n => ⟨Gtu.role_claimed n, fun roleN => claimed_cover sound roleN⟩) role
    fun b own => fails_iff ((sound.position p).backed role b own)

theorem condition_ousted (ousted : Ousted (g.FailedAfter blk r) g p) : (g.conditionStage blk r).At p .none none .none False :=
  at_conditionStage role ((revoker_applyBackupFailed _).ousted (sound_claims sound) (by rw [Gtu.role_claimed, role])
    ((condition_ousted_iff sound role).mpr ousted))

theorem condition_dropping (dropping : (g.entry p).assignment = .dropping) (still : ¬Ousted (g.FailedAfter blk r) g p) :
    (g.conditionStage blk r).At p .dropping (g.entry p).partner
      (if (g.entry p).Changes ∧ ((g.entry p).FromLine ∨ (g.entry p).cls = .hold) then
        if g.conditionAfter r p ≠ .clear then (g.conditionAfter r p).claims else .hold else (g.entry p).cls) False := by
  have claims := claimed_dropping (blk := blk) (r := r) sound role dropping
  exact condition_kept role claims ((revoker_applyBackupFailed _).dropping (sound_claims sound)
    claims.1 fun ousted => still ((condition_ousted_iff sound role).mp ousted))

end

end

/-- A revoked cover keeps a class that may wait, and is held otherwise. -/
theorem Gtu.At.revoked {g : Gtu} {p : Pos} {a : Assignment} {o : Option Pos} {c : Cls} {on : Prop}
    (at' : g.At p a o (if c.mayWait then c else .hold) on) :
    (c.Waits → (g.entry p).assignment = a ∧ (g.entry p).partner = o ∧ (g.entry p).cls = c) ∧
    (¬c.Waits → (g.entry p).assignment = a ∧ (g.entry p).partner = o ∧ (g.entry p).cls = .hold) := by
  rw [Cls.Waits, ← Cls.mayWait_iff]
  refine ⟨fun waits => ?_, fun idle => ?_⟩
  · rw [if_pos waits] at at'
    exact at'.becomes
  · rw [if_neg idle] at at'
    exact at'.becomes

/-- Settles O30: the readings by the standing of an entry through the stages, and the three stages by what each of their steps does to one primary. -/
theorem presenceFaultAndConditionAreRead : Obligations.PresenceFaultAndConditionAreRead := by
  refine ⟨fun blk r g n => ?_, fun blk r g n => ?_, fun blk r g p covers list => ?_, fun r g p covers list => ?_, fun blk r g p covers list => ?_⟩
  · intro e e' limit seen becomes
    refine ⟨fun empty => emptyKept_tableStages blk r g n empty, fun configured => ?_⟩
    obtain ⟨role, presence, runCount, -⟩ := readings_tableStages (blk := blk) (r := r) configured
    obtain ⟨presentSeen, presentFew, presentMany, lostSeen, lostMissed, joiningFew, joiningMany, joiningMissed⟩ :=
      track_becomes (limit := blockLossThreshold blk) (seen := r.presence n) configured
    have of {p : Presence} {k : Nat} (counts : ((g.entry n).track (blockLossThreshold blk) (r.presence n)).Counts p k) : becomes p k :=
      ⟨presence.trans counts.1, runCount.trans counts.2⟩
    have missed (silent : ¬seen) : r.presence n = false := Bool.eq_false_iff.mpr silent
    exact ⟨fun p s => of (presentSeen p s), fun p s few => of (presentFew p (missed s) few), fun p s many => of (presentMany p (missed s) many),
      fun p s => of (lostSeen p s), fun p s => of (lostMissed p (missed s)), fun p s few => of (joiningFew p s few),
      fun p s many => of (joiningMany p s many), fun p s => of (joiningMissed p (missed s)), role⟩
  · intro e' configured _
    obtain ⟨-, -, -, heard, lost⟩ := readings_tableStages (blk := blk) (r := r) configured
    refine ⟨fun reads => ?_, fun gone => (lost gone).symm⟩
    obtain ⟨condition, faulted⟩ := heard reads
    obtain ⟨failed, degraded, clear⟩ := r.condition_iff n
    rw [show e'.faulted = r.fault n from faulted, show e'.condition = r.condition n from condition]
    exact ⟨.rfl, failed, degraded, clear⟩
  · intro stage e e' falls rival becomes listed displaced role
    have sound := sound_iff.mpr ⟨covers, list⟩
    have fallen (n : Pos) : falls n ↔ n ∈ g.losses blk r := Gtu.falls_iff n
    have ousted : displaced ↔ g.OustedByLoss blk r p := by
      simp only [displaced, fallen]
      rfl
    have returned (b : Pos) (partner : e.partner = some b) (lost : falls b) : stage.Returned p e' e.cls :=
      Gtu.Returned.of_facts (at_presenceStage role (losses_returned sound role partner ((fallen b).mp lost))) (Gtu.facts_presenceStage_tracked p).symm
    have away (heard : ∀ b, e.partner = some b → ¬falls b) (b : Pos) (partner : e.partner = some b) : b ∉ g.losses blk r :=
      fun lost => heard b partner ((fallen b).mpr lost)
    refine ⟨fun b partner lost => (returned b partner lost).cases, fun lost quiet => ?_, fun heard => ⟨fun outdone => ?_, fun lost still covered => ?_,
      fun present still => ?_⟩⟩
    · by_cases heard : ∀ b, e.partner = some b → ¬falls b
      · exact (at_presenceStage role (losses_cleared sound role (away heard) ((fallen p).mp lost) quiet)).unlisted id
      · simp only [not_forall, not_not] at heard
        obtain ⟨b, partner, gone⟩ := heard
        exact ((returned_lost lost.2).mp (returned b partner gone)).unlisted id
    · exact (at_presenceStage role (losses_ousted sound role (away heard) (ousted.mp outdone))).unlisted id
    · exact (at_presenceStage role (losses_dropping sound role (away heard) (fun is => still (ousted.mpr is)) ((fallen p).mp lost) covered)).unlisted id
    · have kept := at_presenceStage role (losses_kept sound role (away heard) (fun is => still (ousted.mpr is)) fun lost => present ((fallen p).mpr lost))
      exact ⟨kept.becomes, kept.2.2.2⟩
  · intro stage e e' rival becomes listed mayWait byBackup displaced role
    have sound := sound_iff.mpr ⟨covers, list⟩
    have off (covered : e.assignment ≠ .none) : ¬p ∈ g.waitList := (sound.covered role covered).2.2
    refine ⟨fun yielding picked => (fault_yielding sound role yielding picked).cases, fun acts picked => (fault_acting sound role acts picked).revoked,
      fun yielding rests sane => ?_, fun acts rests => ?_, fun outdone => (fault_ousted sound role outdone).unlisted id, fun dropping still => ?_,
      fun free => ?_⟩
    · have stands := fault_stands sound role rests fun faulted => absurd (sane.symm.trans faulted) Bool.false_ne_true
      rw [yielding] at stands
      exact stands.becomes
    · refine (fault_stands sound role rests fun _ yielding => ?_).becomes
      rcases acts with a | a <;> cases a.symm.trans yielding
    · have stands := fault_dropping sound role dropping still
      rw [dropping] at stands
      exact stands.unlisted (off (by rw [dropping]; decide))
    · have stands := fault_free (r := r) sound role free
      exact ⟨stands.becomes, stands.2.2.2⟩
  · intro stage e e' rival becomes listed fromLine claim changes covered mayWait failed displaced role
    have sound := sound_iff.mpr ⟨covers, list⟩
    have after : e'.condition = g.conditionAfter r p := Gtu.conditionAfter_eq p
    have covers' : covered = (g.entry p).coverCls blk (g.conditionAfter r p) := by
      rw [← after]
      rfl
    have engaged (a : e.assignment = .yielding ∨ e.assignment = .taking ∨ e.assignment = .active) := (Assignment.engaged_iff _).mpr a
    have free (none : e.assignment = .none) := condition_free (blk := blk) (r := r) sound role none
    have drops (dropping : e.assignment = .dropping) (still : ¬displaced) := condition_dropping (blk := blk) (r := r) sound role dropping still
    rw [← after] at free drops
    refine ⟨fun none rests => ?_, fun none changed set => ?_, fun none changed clear => ?_, fun a rests => ?_, fun yielding fails => ?_,
      fun acts fails => ?_, fun outdone => (condition_ousted sound role outdone).unlisted id, fun dropping still => ⟨fun changed picked => ?_, fun other => ?_⟩⟩
    · have stands := (free none).1 rests
      exact ⟨stands.becomes, stands.2.2.2⟩
    · exact ((free none).2.1 changed set).listed trivial
    · exact ((free none).2.2 changed clear).unlisted id
    · have stands := (condition_engaged (blk := blk) (r := r) sound role (engaged a) rests).becomes
      rwa [← covers'] at stands
    · have returned := condition_yielding (blk := blk) (r := r) sound role fails yielding
      rw [← covers'] at returned
      exact returned.cases
    · have ends := condition_acting (blk := blk) (r := r) sound role fails acts
      rw [← covers'] at ends
      exact ends.revoked
    · have stands := drops dropping still
      rw [if_pos ⟨changed, picked⟩] at stands
      exact stands.unlisted id
    · have stands := drops dropping still
      rw [if_neg fun both => other.elim (fun rests => rests both.1) fun rests => rests both.2] at stands
      exact stands.unlisted id

end Sys2Proof.Machine
end
